-- ==== Sys2Proof/Word.lean ====
section
/-! DEFINITION. The word types of the IVT208's two links (spec/00_scope.md, "Conventions"): a word is 32 bits, a word address
22 bits, a byte mask one bit for each of four lanes, and sequence numbers and period indices are 16-bit wrapping values. -/

namespace Sys2Proof

/-- A byte of a management frame, or one lane of a memory word. -/
abbrev Byte := BitVec 8

/-- A data word; lane 0 is its least significant byte (00, "Word"). -/
abbrev Word := BitVec 32

/-- A word address, 0 to 4,194,303 (00, "Word"). -/
abbrev WordAddr := BitVec 22

/-- A byte mask: bit n enables lane n (R183). -/
abbrev Mask := BitVec 4

/-- A batch sequence number, 16-bit wrapping (00, "Counters"). -/
abbrev Seq := BitVec 16

/-- A word address as a management field carries it, in three bytes (R185). -/
abbrev Addr24 := BitVec 24

end Sys2Proof
end

