-- ==== Sys2Proof/Config.lean ====
section
/-! DEFINITION. The constants the manual fixes for the part. Nothing here is left to an implementation: the spec gives every
one of them. The values the manual leaves open are no constants of the part: the memory's answer supplies them
(DESIGN CHOICE, notes/assumptions/1.md). -/

namespace Sys2Proof.Config

/-- Staging-pool slots (R40). -/
def poolSlots : Nat := 512

/-- Records the event queue holds (R172). -/
def eventRecords : Nat := 32

/-- Where a 16-bit saturating counter stays (00, "Counters"). -/
def counterMax : Nat := 65535

/-- Where consecutive misses stays (R79). -/
def missesMax : Nat := 15

/-- Where the pending lost count stays (R173). -/
def lostMax : Nat := 255

/-- The highest word address (00, "Word"). -/
def lastWord : Nat := 4194303

/-- The lowest period a time base takes (R69). -/
def periodMin : Nat := 16

/-- The drain burst after a power-on reset (R103). -/
def burstReset : Nat := 4

end Sys2Proof.Config
end

