-- ==== Sys2Proof/Syntax.lean ====
section
/-! DEFINITION. The commands of the block: one constructor of `Instr` for each row of spec/opcode_table.json, with the row's
operands. A management command carries its fields in the widths of its layout (R185, R187), so a field out of its range can be
written and is refused by the command's own rule; a request carries fields of exactly their range (R183). -/

namespace Sys2Proof

/-- The two time bases (R66). -/
inductive Base where
  | timeA
  | timeB
  deriving DecidableEq, Repr

/-- What a request asks (R1): a READ, whose mask the part does not keep, or a WRITE of the enabled lanes of a word. -/
inductive ReqKind where
  | read
  | write (data : Word) (mask : Mask)
  deriving DecidableEq, Repr

/-- The statuses a reply can carry (section 8.6, R186). -/
inductive Status where
  | ok | pending | reset | frameShort | badCrc | busy | badCommand | badIndex | badValue | badState | overlap | memoryError
  deriving DecidableEq, Repr

/-- The fields of a window record as WRITE_TABLE carries them (R22, R187 WINDOW). -/
structure WindowFields where
  enabled : Bool
  readOwn : Bool
  foreignPass : Bool
  sealPresent : Bool
  group : Byte
  owners : BitVec 4
  base : Addr24
  length : Addr24
  sealOffset : BitVec 16
  deriving DecidableEq, Repr

/-- The fields of a group configuration as WRITE_TABLE carries them (R27, R187 GROUP). -/
structure GroupFields where
  trigger : Byte
  timeBaseB : Bool
  stampBaseB : Bool
  overflowTrip : Bool
  clearAuto : Bool
  drainErrorTrip : Bool
  faultLine0 : Bool
  faultLine1 : Bool
  phase : BitVec 16
  skip : Byte
  releaseLine : Byte
  quota : BitVec 16
  missLimit : Byte
  eventMask : BitVec 8
  deriving DecidableEq, Repr

/-- The fields of a safe-image entry as WRITE_TABLE carries them (R120, R187 SAFE). -/
structure SafeFields where
  enabled : Bool
  group : Byte
  addr : Addr24
  data : Word
  mask : Mask
  deriving DecidableEq, Repr

/-- The fields of a watch configuration as WRITE_TABLE carries them (R130, R187 WATCH). -/
structure WatchFields where
  trip : Bool
  settlePresent : Bool
  settleBaseB : Bool
  reportRestore : Bool
  tripGroup : Byte
  settleGroup : Byte
  settleLength : Byte
  addr : Addr24
  reference : Word
  compareMask : Word
  deriving DecidableEq, Repr

/-- The writable fields of a time base (R66, R187 TIMEBASE). -/
structure TimebaseFields where
  divider : BitVec 16
  period : BitVec 16
  bLock : Bool
  deriving DecidableEq, Repr

/-- One line's pair of bytes in the line configuration: an edge choice or an active level, and a qualification (R161). -/
structure LineFields where
  choice : Byte
  qual : Byte
  deriving DecidableEq, Repr

/-- The line configuration as WRITE_TABLE carries it: release lines 0 to 3, fault lines 0 and 1 (R161, R187 LINES). -/
structure LinesFields where
  release0 : LineFields
  release1 : LineFields
  release2 : LineFields
  release3 : LineFields
  fault0 : LineFields
  fault1 : LineFields
  deriving DecidableEq, Repr

/-- The commands the block takes, in the order of spec/opcode_table.json. -/
inductive Instr where
  /-- R1: a request presented on the upstream link. -/
  | upstreamRequest (init tag : BitVec 2) (kind : ReqKind) (addr : WordAddr)
  /-- R2: the slot of this initiator and tag issues its response. -/
  | responseIssue (init tag : BitVec 2)
  /-- R102: the arbiter decides. -/
  | memoryGrant
  /-- R100, R184: M_ACK with M_ERR and, for a read, M_RDATA. -/
  | transactionPerformed (error : Bool) (rdata : Word)
  /-- R87: the drain engine decides on an item. -/
  | drainTakeItem
  /-- R96: the drain engine reports its item's end. -/
  | endReport
  /-- R67: a divider's worth of cycles of the base has passed. -/
  | tick (base : Base)
  /-- R67: the tick that is the base's period mark. -/
  | periodMark (base : Base)
  /-- R145: the period mark that ends a watch's settle window reaches the watch. -/
  | settleWindowEnd (watch : Fin 12)
  /-- R72: the line's pin stands at `high` for `cycles` further part-clock cycles. -/
  | releaseLineQualifiedEdge (line : Fin 4) (high : Bool) (cycles : Nat)
  /-- R107: the line's pin stands at `high` for `cycles` further part-clock cycles. -/
  | faultLineQualifiedEdge (line : Fin 2) (high : Bool) (cycles : Nat)
  /-- R148, R151: MSEL_N falls. -/
  | frameStart
  /-- R148, R153: MSEL_N rises, after these bits were sampled on MDI in this order. -/
  | frameEnd (mdi : List Bool)
  | nop
  | readResult
  | readTable (kind index : Byte)
  | writeTableWindow (index : Byte) (fields : WindowFields)
  | writeTableGroup (index : Byte) (fields : GroupFields)
  | writeTableSafe (index : Byte) (fields : SafeFields)
  | writeTableWatch (index : Byte) (fields : WatchFields)
  | writeTableTimebase (index : Byte) (fields : TimebaseFields)
  | writeTableLines (index : Byte) (fields : LinesFields)
  | writeTableMemport (index : Byte) (burst : Byte)
  | groupStart (group : Byte)
  | groupStopDiscard (group : Byte)
  | groupStopFlush (group : Byte)
  | sealBatch (group : Byte)
  | release (group : Byte)
  | readStatus (group : Byte)
  | readStatusClear (group : Byte)
  | forceFault (group : Byte)
  | clearFault (group : Byte) (force : Byte)
  | armWatch (watch : Byte)
  | disarmWatch (watch : Byte)
  | setReference (watch : Byte) (reference compareMask : Word)
  | timebaseStart (base : Byte)
  | timebaseStop (base : Byte)
  | timebaseZero (base : Byte)
  | popEvent
  | peek (addr : Addr24)
  | poke (addr : Addr24) (data : Word) (mask : Mask)
  | softReset
  | softResetComplete
  /-- RESET_N falls, or power comes up. -/
  | powerOnReset
  /-- RESET_N rises, with the levels of RLINE0 to RLINE3 and FLINE0, FLINE1 at that moment. -/
  | powerOnResetEnd (releasePins : BitVec 4) (faultPins : BitVec 2)
  deriving DecidableEq, Repr

end Sys2Proof
end

