-- ==== Sys2Proof/Decode.lean ====
section
/-! DEFINITION. Reading and writing the management frames of chapters 8 and 11: bytes from sampled bits (R148), multi-byte values
(R185), the CRC (R150), the range each field has, the command codes and record layouts (11.4, R187) read into `Instr` and written
from it. `decodeTableWord` answers none, because no row of spec/opcode_table.json gives bits. -/

namespace Sys2Proof

/-- No row of the table gives bits, so no word spells a command (DESIGN CHOICE, notes/assumptions/24.md). -/
def decodeTableWord (_nbits _w : Nat) : Option Instr := none

namespace Wire

/-! ### Bytes and multi-byte values -/

/-- The byte of eight bits, the first sampled being the most significant (R148). -/
def byteOfBits (b7 b6 b5 b4 b3 b2 b1 b0 : Bool) : Byte :=
  BitVec.ofBool b7 ++ BitVec.ofBool b6 ++ BitVec.ofBool b5 ++ BitVec.ofBool b4 ++
    BitVec.ofBool b3 ++ BitVec.ofBool b2 ++ BitVec.ofBool b1 ++ BitVec.ofBool b0

/-- R148: each group of eight sampled bits forms a byte; a last group of fewer than eight is dropped. -/
def bytesOfBits : List Bool → List Byte
  | b7 :: b6 :: b5 :: b4 :: b3 :: b2 :: b1 :: b0 :: rest => byteOfBits b7 b6 b5 b4 b3 b2 b1 b0 :: bytesOfBits rest
  | _ => []

/-- The bits of a byte in the order they are sent: most significant first (R148). -/
def bitsOfByte (b : Byte) : List Bool :=
  [b.getLsbD 7, b.getLsbD 6, b.getLsbD 5, b.getLsbD 4, b.getLsbD 3, b.getLsbD 2, b.getLsbD 1, b.getLsbD 0]

/-- The bits of a run of bytes, in the order they are sent. -/
def bitsOfBytes (bs : List Byte) : List Bool := bs.flatMap bitsOfByte

/-- R185: a two-byte value, most significant byte first. -/
def join2 (hi lo : Byte) : BitVec 16 := hi ++ lo

/-- R185: a three-byte value, most significant byte first. -/
def join3 (hi mid lo : Byte) : Addr24 := hi ++ mid ++ lo

/-- R185: a four-byte value, most significant byte first. -/
def join4 (b3 b2 b1 b0 : Byte) : Word := b3 ++ b2 ++ b1 ++ b0

/-- R185: the two bytes of a 16-bit value. -/
def split2 (v : BitVec 16) : List Byte := [v.extractLsb' 8 8, v.extractLsb' 0 8]

/-- R185: the three bytes of a 24-bit value. -/
def split3 (v : Addr24) : List Byte := [v.extractLsb' 16 8, v.extractLsb' 8 8, v.extractLsb' 0 8]

/-- R185: the four bytes of a 32-bit value. -/
def split4 (v : Word) : List Byte :=
  [v.extractLsb' 24 8, v.extractLsb' 16 8, v.extractLsb' 8 8, v.extractLsb' 0 8]

/-- R185: a count in one byte. -/
def byteOf (n : Nat) : Byte := BitVec.ofNat 8 n

/-- R185: a count in two bytes. -/
def split2Nat (n : Nat) : List Byte := split2 (BitVec.ofNat 16 n)

/-- A flag byte, given from bit 0 upwards; bits a layout does not assign read 0 (R185). -/
def flagByte (b0 b1 b2 b3 b4 b5 b6 : Bool) : Byte :=
  byteOfBits false b6 b5 b4 b3 b2 b1 b0

/-! ### The CRC -/

/-- One left shift of the CRC register (R150: polynomial x^8 + x^2 + x + 1). -/
def crcShift (r : Byte) : Byte := if r.getLsbD 7 then (r <<< 1) ^^^ 0x07#8 else r <<< 1

/-- R150: one covered byte. -/
def crcByte (r b : Byte) : Byte :=
  crcShift (crcShift (crcShift (crcShift (crcShift (crcShift (crcShift (crcShift (r ^^^ b))))))))

/-- R150: the CRC over the covered bytes, from 0xFF. -/
def crc (bs : List Byte) : Byte := bs.foldl crcByte 0xFF#8

/-! ### Field ranges -/

/-- R22, R24: the values a window record may be written with. -/
def windowInRange (f : WindowFields) : Bool :=
  decide (1 ≤ f.length.toNat) && decide (f.length.toNat ≤ 65536) &&
    decide (f.base.toNat + f.length.toNat - 1 ≤ Config.lastWord) && decide (f.group.toNat ≤ 7)

/-- R28, R155: the values a group configuration may be written with. -/
def groupInRange (f : GroupFields) : Bool :=
  decide (f.trigger.toNat ≤ 3) && decide (f.phase.toNat ≤ 65534) && decide (f.skip.toNat ≤ 15) &&
    decide (f.missLimit.toNat ≤ 15) && decide (f.releaseLine.toNat ≤ 3) && decide (f.quota.toNat ≤ 512)

/-- R121: the values a safe-image entry may be written with. -/
def safeInRange (f : SafeFields) : Bool :=
  decide (f.group.toNat ≤ 7) && decide (f.addr.toNat ≤ Config.lastWord) && !(f.enabled && f.mask == 0#4)

/-- R132: the values a watch configuration may be written with. -/
def watchInRange (f : WatchFields) : Bool :=
  decide (f.addr.toNat ≤ Config.lastWord) && decide (f.tripGroup.toNat ≤ 7) &&
    (!f.settlePresent || decide (f.settleGroup.toNat ≤ 7)) && decide (f.settleLength.toNat ≤ 15)

/-- R69: the divider's range, and no B lock for A; a period below 16 is taken as 16, so every period is in range. -/
def timebaseInRange (index : Byte) (f : TimebaseFields) : Bool :=
  decide (1 ≤ f.divider.toNat) && decide (f.divider.toNat ≤ 256) && !(f.bLock && index == 0#8)

/-- R161: a qualification setting is one of 0, 4, 16 and 64. -/
def qualInRange (q : Byte) : Bool := q == 0#8 || q == 4#8 || q == 16#8 || q == 64#8

/-- R161: a release line's entry. -/
def releaseLineInRange (f : LineFields) : Bool := decide (f.choice.toNat ≤ 2) && qualInRange f.qual

/-- R161: a fault line's entry. -/
def faultLineInRange (f : LineFields) : Bool := decide (f.choice.toNat ≤ 1) && qualInRange f.qual

/-- R161: the values a line configuration may be written with. -/
def linesInRange (f : LinesFields) : Bool :=
  releaseLineInRange f.release0 && releaseLineInRange f.release1 && releaseLineInRange f.release2 &&
    releaseLineInRange f.release3 && faultLineInRange f.fault0 && faultLineInRange f.fault1

/-- R103: the drain bursts that may be written. -/
def burstInRange (b : Byte) : Bool := decide (1 ≤ b.toNat) && decide (b.toNat ≤ 16)

/-- R160: how many records a table kind has; none for a code that names no table. -/
def tableSize (kind : Byte) : Option Nat :=
  match kind.toNat with
  | 0 => some 16
  | 1 => some 8
  | 2 => some 128
  | 3 => some 12
  | 4 => some 2
  | 5 => some 1
  | 6 => some 1
  | _ => none

/-- The record number an index byte names, below `n` (R160). -/
def index? (n : Nat) (b : Byte) : Option (Fin n) :=
  if h : b.toNat < n then some ⟨b.toNat, h⟩ else none

/-! ### Record layouts (R187), read -/

/-- R187 WINDOW. -/
def readWindow : List Byte → Option WindowFields
  | [f, g, o, b2, b1, b0, l2, l1, l0, s1, s0] =>
    some { enabled := f.getLsbD 0, readOwn := f.getLsbD 1, foreignPass := f.getLsbD 2, sealPresent := f.getLsbD 3,
           group := g, owners := o.extractLsb' 0 4, base := join3 b2 b1 b0, length := join3 l2 l1 l0,
           sealOffset := join2 s1 s0 }
  | _ => none

/-- R187 GROUP. -/
def readGroup : List Byte → Option GroupFields
  | [t, f, p1, p0, k, r, q1, q0, m, e] =>
    some { trigger := t, timeBaseB := f.getLsbD 0, stampBaseB := f.getLsbD 1, overflowTrip := f.getLsbD 2,
           clearAuto := f.getLsbD 3, drainErrorTrip := f.getLsbD 4, faultLine0 := f.getLsbD 5, faultLine1 := f.getLsbD 6,
           phase := join2 p1 p0, skip := k, releaseLine := r, quota := join2 q1 q0, missLimit := m, eventMask := e }
  | _ => none

/-- R187 SAFE. -/
def readSafe : List Byte → Option SafeFields
  | [f, g, a2, a1, a0, d3, d2, d1, d0, m] =>
    some { enabled := f.getLsbD 0, group := g, addr := join3 a2 a1 a0, data := join4 d3 d2 d1 d0, mask := m.extractLsb' 0 4 }
  | _ => none

/-- R187 WATCH, its 15 writable bytes. -/
def readWatch : List Byte → Option WatchFields
  | [f, t, g, l, a2, a1, a0, r3, r2, r1, r0, c3, c2, c1, c0] =>
    some { trip := f.getLsbD 0, settlePresent := f.getLsbD 1, settleBaseB := f.getLsbD 2, reportRestore := f.getLsbD 3,
           tripGroup := t, settleGroup := g, settleLength := l, addr := join3 a2 a1 a0,
           reference := join4 r3 r2 r1 r0, compareMask := join4 c3 c2 c1 c0 }
  | _ => none

/-- R187 TIMEBASE, its 5 writable bytes. -/
def readTimebase : List Byte → Option TimebaseFields
  | [d1, d0, p1, p0, f] => some { divider := join2 d1 d0, period := join2 p1 p0, bLock := f.getLsbD 0 }
  | _ => none

/-- R187 LINES, its 12 writable bytes. -/
def readLines : List Byte → Option LinesFields
  | [c0, q0, c1, q1, c2, q2, c3, q3, a0, f0, a1, f1] =>
    some { release0 := ⟨c0, q0⟩, release1 := ⟨c1, q1⟩, release2 := ⟨c2, q2⟩, release3 := ⟨c3, q3⟩,
           fault0 := ⟨a0, f0⟩, fault1 := ⟨a1, f1⟩ }
  | _ => none

/-! ### Record layouts (R187), written -/

/-- R187 WINDOW; an absent seal word is sent with its own bytes, which the part ignores (R185). -/
def writeWindow (f : WindowFields) : List Byte :=
  [flagByte f.enabled f.readOwn f.foreignPass f.sealPresent false false false, f.group, f.owners.setWidth 8] ++
    split3 f.base ++ split3 f.length ++ split2 f.sealOffset

/-- R187 GROUP. -/
def writeGroup (f : GroupFields) : List Byte :=
  [f.trigger, flagByte f.timeBaseB f.stampBaseB f.overflowTrip f.clearAuto f.drainErrorTrip f.faultLine0 f.faultLine1] ++
    split2 f.phase ++ [f.skip, f.releaseLine] ++ split2 f.quota ++ [f.missLimit, f.eventMask]

/-- R187 SAFE. -/
def writeSafe (f : SafeFields) : List Byte :=
  [flagByte f.enabled false false false false false false, f.group] ++ split3 f.addr ++ split4 f.data ++ [f.mask.setWidth 8]

/-- R187 WATCH, its 15 writable bytes. -/
def writeWatch (f : WatchFields) : List Byte :=
  [flagByte f.trip f.settlePresent f.settleBaseB f.reportRestore false false false, f.tripGroup, f.settleGroup, f.settleLength] ++
    split3 f.addr ++ split4 f.reference ++ split4 f.compareMask

/-- R187 TIMEBASE, its 5 writable bytes. -/
def writeTimebase (f : TimebaseFields) : List Byte :=
  split2 f.divider ++ split2 f.period ++ [flagByte f.bLock false false false false false false]

/-- R187 LINES, its 12 writable bytes. -/
def writeLines (f : LinesFields) : List Byte :=
  [f.release0.choice, f.release0.qual, f.release1.choice, f.release1.qual, f.release2.choice, f.release2.qual,
   f.release3.choice, f.release3.qual, f.fault0.choice, f.fault0.qual, f.fault1.choice, f.fault1.qual]

/-! ### Commands -/

/-- A record that must have its kind's length (R155). -/
def recordOr {α : Type} (r : Option α) (f : α → Instr) : Except Status Instr :=
  match r with
  | some x => .ok (f x)
  | none => .error .badValue

/-- R155, R160: WRITE_TABLE of a kind; a kind that names no table is BAD_INDEX before any length is checked. -/
def decodeWriteTable (kind index : Byte) (record : List Byte) : Except Status Instr :=
  match kind.toNat with
  | 0 => recordOr (readWindow record) (.writeTableWindow index)
  | 1 => recordOr (readGroup record) (.writeTableGroup index)
  | 2 => recordOr (readSafe record) (.writeTableSafe index)
  | 3 => recordOr (readWatch record) (.writeTableWatch index)
  | 4 => recordOr (readTimebase record) (.writeTableTimebase index)
  | 5 => recordOr (readLines record) (.writeTableLines index)
  | 6 => match record with
    | [b] => .ok (.writeTableMemport index b)
    | _ => .error .badValue
  | _ => .error .badIndex

/-- R155: READ_TABLE; a kind that names no table is BAD_INDEX before its length is checked (DEDUCED, notes/assumptions/13.md: a frame
with no kind byte is BAD_VALUE). -/
def decodeReadTable : List Byte → Except Status Instr
  | [] => .error .badValue
  | kind :: rest =>
    if tableSize kind = none then .error .badIndex
    else match rest with
      | [index] => .ok (.readTable kind index)
      | _ => .error .badValue

/-- R155: an option byte that names nothing fails with BAD_VALUE directly after the rule's BAD_INDEX check of the number. -/
def badOption (n limit : Byte) : Except Status Instr :=
  if n.toNat ≤ limit.toNat then .error .badValue else .error .badIndex

/-- 11.4: GROUP_STOP's option byte. -/
def decodeGroupStop (g o : Byte) : Except Status Instr :=
  match o.toNat with
  | 0 => .ok (.groupStopDiscard g)
  | 1 => .ok (.groupStopFlush g)
  | _ => badOption g 7#8

/-- 11.4: READ_STATUS's clear byte. -/
def decodeReadStatus (g o : Byte) : Except Status Instr :=
  match o.toNat with
  | 0 => .ok (.readStatus g)
  | 1 => .ok (.readStatusClear g)
  | _ => badOption g 7#8

/-- 11.4, R68: TIMEBASE_CONTROL's action byte; a base that names no base is BAD_INDEX first. -/
def decodeTimebase (b o : Byte) : Except Status Instr :=
  match o.toNat with
  | 0 => .ok (.timebaseStart b)
  | 1 => .ok (.timebaseStop b)
  | 2 => .ok (.timebaseZero b)
  | _ => badOption b 2#8

/-- A command whose field length is 1 (R155). -/
def one (f : Byte → Instr) : List Byte → Except Status Instr
  | [b] => .ok (f b)
  | _ => .error .badValue

/-- A command whose field length is 2 (R155). -/
def two (f : Byte → Byte → Except Status Instr) : List Byte → Except Status Instr
  | [a, b] => f a b
  | _ => .error .badValue

/-- A command whose field length is 0 (R155). -/
def zero (c : Instr) : List Byte → Except Status Instr
  | [] => .ok c
  | _ => .error .badValue

/-- 11.4: SET_REFERENCE's nine bytes. -/
def decodeSetReference : List Byte → Except Status Instr
  | [w, r3, r2, r1, r0, c3, c2, c1, c0] => .ok (.setReference w (join4 r3 r2 r1 r0) (join4 c3 c2 c1 c0))
  | _ => .error .badValue

/-- 11.4: PEEK's three bytes. -/
def decodePeek : List Byte → Except Status Instr
  | [a2, a1, a0] => .ok (.peek (join3 a2 a1 a0))
  | _ => .error .badValue

/-- 11.4: POKE's eight bytes. -/
def decodePoke : List Byte → Except Status Instr
  | [a2, a1, a0, d3, d2, d1, d0, m] => .ok (.poke (join3 a2 a1 a0) (join4 d3 d2 d1 d0) (m.extractLsb' 0 4))
  | _ => .error .badValue

/-- WRITE_TABLE's fields: table kind, index, record (11.4; DEDUCED, notes/assumptions/13.md for too few bytes). -/
def decodeWrite : List Byte → Except Status Instr
  | [] => .error .badValue
  | [kind] => if tableSize kind = none then .error .badIndex else .error .badValue
  | kind :: index :: record => decodeWriteTable kind index record

/-- R155 and 11.4: the command a code and its field bytes name, or the status that refuses it: BAD_COMMAND for a code that names
none, else the length check and the checks of an option's or a table kind's own encoding. -/
def decodeCommand (code : Byte) (fields : List Byte) : Except Status Instr :=
  match code.toNat with
  | 0x00 => .ok .nop
  | 0x01 => .ok .readResult
  | 0x10 => decodeReadTable fields
  | 0x11 => decodeWrite fields
  | 0x20 => one .groupStart fields
  | 0x21 => two decodeGroupStop fields
  | 0x22 => one .sealBatch fields
  | 0x23 => one .release fields
  | 0x24 => two decodeReadStatus fields
  | 0x30 => one .forceFault fields
  | 0x31 => two (fun g f => .ok (.clearFault g f)) fields
  | 0x40 => one .armWatch fields
  | 0x41 => one .disarmWatch fields
  | 0x42 => decodeSetReference fields
  | 0x50 => two decodeTimebase fields
  | 0x60 => decodePeek fields
  | 0x61 => decodePoke fields
  | 0x70 => zero .popEvent fields
  | 0x7F => zero .softReset fields
  | _ => .error .badCommand

/-- 11.4: the code and field bytes of a management command; none for a command that no frame carries. -/
def encodeCommand : Instr → Option (Byte × List Byte)
  | .nop => some (0x00#8, [])
  | .readResult => some (0x01#8, [])
  | .readTable k i => some (0x10#8, [k, i])
  | .writeTableWindow i f => some (0x11#8, 0#8 :: i :: writeWindow f)
  | .writeTableGroup i f => some (0x11#8, 1#8 :: i :: writeGroup f)
  | .writeTableSafe i f => some (0x11#8, 2#8 :: i :: writeSafe f)
  | .writeTableWatch i f => some (0x11#8, 3#8 :: i :: writeWatch f)
  | .writeTableTimebase i f => some (0x11#8, 4#8 :: i :: writeTimebase f)
  | .writeTableLines i f => some (0x11#8, 5#8 :: i :: writeLines f)
  | .writeTableMemport i b => some (0x11#8, [6#8, i, b])
  | .groupStart g => some (0x20#8, [g])
  | .groupStopDiscard g => some (0x21#8, [g, 0#8])
  | .groupStopFlush g => some (0x21#8, [g, 1#8])
  | .sealBatch g => some (0x22#8, [g])
  | .release g => some (0x23#8, [g])
  | .readStatus g => some (0x24#8, [g, 0#8])
  | .readStatusClear g => some (0x24#8, [g, 1#8])
  | .forceFault g => some (0x30#8, [g])
  | .clearFault g f => some (0x31#8, [g, f])
  | .armWatch w => some (0x40#8, [w])
  | .disarmWatch w => some (0x41#8, [w])
  | .setReference w r c => some (0x42#8, w :: (split4 r ++ split4 c))
  | .timebaseStart b => some (0x50#8, [b, 0#8])
  | .timebaseStop b => some (0x50#8, [b, 1#8])
  | .timebaseZero b => some (0x50#8, [b, 2#8])
  | .popEvent => some (0x70#8, [])
  | .peek a => some (0x60#8, split3 a)
  | .poke a d m => some (0x61#8, split3 a ++ split4 d ++ [m.setWidth 8])
  | .softReset => some (0x7F#8, [])
  | .upstreamRequest _ _ _ _ => none
  | .responseIssue _ _ => none
  | .memoryGrant => none
  | .transactionPerformed _ _ => none
  | .drainTakeItem => none
  | .endReport => none
  | .tick _ => none
  | .periodMark _ => none
  | .settleWindowEnd _ => none
  | .releaseLineQualifiedEdge _ _ _ => none
  | .faultLineQualifiedEdge _ _ _ => none
  | .frameStart => none
  | .frameEnd _ => none
  | .softResetComplete => none
  | .powerOnReset => none
  | .powerOnResetEnd _ _ => none

/-- R149: the bytes the host sends for a command: code, length, field bytes, CRC. -/
def frameBytes (code : Byte) (fields : List Byte) : List Byte :=
  let covered := code :: byteOf fields.length :: fields
  covered ++ [crc covered]

end Wire

end Sys2Proof
end

