-- ==== Sys2Proof/WellFormed.lean ====
section
/-! DEFINITION. Which commands are well formed: those whose operands alone no rule refuses, that is, whose index names a record
and whose fields lie in the ranges the rules give (R24, R28, R33, R68, R69, R103, R121, R126, R132, R155, R160, R161, R163,
R164). An ill-formed command is still taken by the link and refused there with BAD_INDEX or BAD_VALUE. Requests, answers, ticks
and edges carry operands of exactly their range (R183), so each of them is well formed. -/

namespace Sys2Proof

open Wire

/-- The index names one of the kind's records (R160). -/
def indexBelow (n : Nat) (b : Byte) : Bool := decide (b.toNat < n)

/-- R160: the table kind names a table and the index one of its records. -/
def readTableInRange (kind index : Byte) : Bool :=
  match tableSize kind with
  | some n => indexBelow n index
  | none => false

/-- A command whose operands alone no rule refuses. -/
def wellFormed : Instr → Bool
  | .readTable k i => readTableInRange k i
  | .writeTableWindow i f => indexBelow 16 i && windowInRange f
  | .writeTableGroup i f => indexBelow 8 i && groupInRange f
  | .writeTableSafe i f => indexBelow 128 i && safeInRange f
  | .writeTableWatch i f => indexBelow 12 i && watchInRange f
  | .writeTableTimebase i f => indexBelow 2 i && timebaseInRange i f
  | .writeTableLines i f => indexBelow 1 i && linesInRange f
  | .writeTableMemport i b => indexBelow 1 i && burstInRange b
  | .groupStart g => indexBelow 8 g
  | .groupStopDiscard g => indexBelow 8 g
  | .groupStopFlush g => indexBelow 8 g
  | .sealBatch g => indexBelow 8 g
  | .release g => indexBelow 8 g
  | .readStatus g => indexBelow 8 g
  | .readStatusClear g => indexBelow 8 g
  | .forceFault g => indexBelow 8 g
  | .clearFault g f => indexBelow 8 g && indexBelow 2 f
  | .armWatch w => indexBelow 12 w
  | .disarmWatch w => indexBelow 12 w
  | .setReference w _ _ => indexBelow 12 w
  | .timebaseStart b => indexBelow 3 b
  | .timebaseStop b => indexBelow 3 b
  | .timebaseZero b => indexBelow 3 b
  | .peek a => decide (a.toNat ≤ Config.lastWord)
  | .poke a _ _ => decide (a.toNat ≤ Config.lastWord)
  | .upstreamRequest _ _ _ _ => true
  | .responseIssue _ _ => true
  | .memoryGrant => true
  | .transactionPerformed _ _ => true
  | .drainTakeItem => true
  | .endReport => true
  | .tick _ => true
  | .periodMark _ => true
  | .settleWindowEnd _ => true
  | .releaseLineQualifiedEdge _ _ _ => true
  | .faultLineQualifiedEdge _ _ _ => true
  | .frameStart => true
  | .frameEnd _ => true
  | .nop => true
  | .readResult => true
  | .popEvent => true
  | .softReset => true
  | .softResetComplete => true
  | .powerOnReset => true
  | .powerOnResetEnd _ _ => true

end Sys2Proof
end

