-- ==== Sys2Proof/Machine/State.lean ====
section
/-! DEFINITION. The state of the part: every register, table, record, queue, counter, mode and pin the manual names, as plain
data, block by block (spec/00_scope.md, "Block diagram"), with the values of the power-on reset. INVENTORY.md lists each field
with its rule. -/

namespace Sys2Proof.Machine

/-- No command stops this block: every row of the table has an effect the manual gives, in every state (INVENTORY.md,
"Faults"). The type has no constructor, so no meaning can answer with a fault. -/
inductive Fault where
  deriving DecidableEq, Repr

/-- The refusals of a step. -/
inductive Refusal where
  /-- Raised only by an arm of `exec` whose command has no meaning yet; no arm of this model uses it. Safe: the model stops
  where the hardware goes on. -/
  | notModelled (mnemonic : String)
  deriving DecidableEq, Repr

/-! ### Upstream port (chapter 1) -/

/-- R3: the states of a request-table slot. -/
inductive SlotState where
  | free | queued | held | performing | answering
  deriving DecidableEq, Repr

/-- R5, R62: a snapshot; `value` is 0 in the lanes that are not covered. -/
structure Snapshot where
  value : Word
  covered : Mask
  deriving DecidableEq, Repr

/-- R2: the causes of a REFUSED response. -/
inductive RefusalCause where
  | foreign | faulted | stopping | poolFull | quota
  deriving DecidableEq, Repr

/-- R2: the causes of an ERROR response. -/
inductive ErrorCause where
  | memory | reset
  deriving DecidableEq, Repr

/-- R2: the responses. -/
inductive Response where
  | data (word : Word)
  | done
  | staged
  | stagedSealed
  | stagedSealPending
  | refused (cause : RefusalCause)
  | error (cause : ErrorCause)
  deriving DecidableEq, Repr

/-- R3: a prepared response; `performed` tells a response from a performed transaction from one prepared at decode, which a
soft reset replaces (R21; DEDUCED, notes/assumptions/19.md). -/
structure Prepared where
  response : Response
  performed : Bool
  deriving DecidableEq, Repr

/-- R3: one request-table slot; its initiator and tag are its place in the table. -/
structure Slot where
  state : SlotState
  kind : ReqKind
  addr : WordAddr
  order : Nat
  snapshot : Option Snapshot
  prepared : Option Prepared
  returnMark : Option (Fin 8)
  deriving DecidableEq, Repr

/-- R183: what UQ_TAKEN, UQ_AWAY and UQ_AWAYCODE show. -/
inductive Indication where
  | idle | taken | awayTagBusy | awayResetting
  deriving DecidableEq, Repr

/-- R183: what US_VALID and the response group show. -/
structure Issued where
  init : BitVec 2
  tag : BitVec 2
  response : Response
  deriving DecidableEq, Repr

/-- The upstream port (R3, R10, R15). -/
structure Upstream where
  slots : Vector Slot 16
  passQueue : List (Fin 16)
  holdList : List (Fin 16)
  nextOrder : Nat
  indication : Indication
  issued : Option Issued
  deriving DecidableEq, Repr

/-! ### Window table and groups (chapters 2 and 3) -/

/-- R22: what becomes of a foreign write. -/
inductive ForeignPolicy where
  | refuse | pass
  deriving DecidableEq, Repr

/-- R22: a window record; base and length stand in the width of their layout (R187). -/
structure Window where
  enabled : Bool
  base : Addr24
  length : Addr24
  group : Fin 8
  owners : BitVec 4
  foreign : ForeignPolicy
  readOwn : Bool
  sealOffset : Option (BitVec 16)
  deriving DecidableEq, Repr

/-- R27: what gives a group's release points. -/
inductive Trigger where
  | immediate | timed | line | manual
  deriving DecidableEq, Repr

/-- R27: what a refusal for POOL_FULL or QUOTA also does; and what a batch retired with errors does. -/
inductive TripPolicy where
  | quiet | trip
  deriving DecidableEq, Repr

/-- R27: how a fault is cleared. -/
inductive ClearMode where
  | latched | auto
  deriving DecidableEq, Repr

/-- R27: a group's configuration; `overflow` is REFUSE or TRIP, `drainError` REPORT or TRIP. -/
structure GroupConfig where
  trigger : Trigger
  base : Base
  phase : Nat
  skip : Nat
  releaseLine : Fin 4
  quota : Nat
  overflow : TripPolicy
  missLimit : Nat
  clearMode : ClearMode
  faultLine0 : Bool
  faultLine1 : Bool
  drainError : TripPolicy
  eventMask : BitVec 8
  stampBase : Base
  deriving DecidableEq, Repr

/-- R32: the states of a group. -/
inductive GroupState where
  | off | active | stopping | safing | faulted
  deriving DecidableEq, Repr

/-- R43: the states of a batch. -/
inductive BatchState where
  | opened | closed | queued | draining
  deriving DecidableEq, Repr

/-- R43: why a batch was sealed. -/
inductive SealCause where
  | command | sealWord | flush | pendingSeal
  deriving DecidableEq, Repr

/-- R40: a staging entry; its group is its batch's. -/
structure Entry where
  addr : WordAddr
  data : Word
  mask : Mask
  position : Nat
  deriving DecidableEq, Repr

/-- R43: a batch; its group is the record that holds it, and `closed` is the manual's SEALED. -/
structure Batch where
  seq : Seq
  state : BatchState
  entries : List Entry
  sealCause : Option SealCause
  errorsSeen : Nat
  deriving DecidableEq, Repr

/-- R110: the causes of a trip. -/
inductive FaultCause where
  | line0 | line1 | watch | pool | missLimit | drainError | forced
  deriving DecidableEq, Repr

/-- R30: the first fault cause, with the watch number for WATCH. -/
structure FirstFault where
  cause : FaultCause
  watch : Option (Fin 12)
  deriving DecidableEq, Repr

/-- R94: a group's retirement record. -/
structure Retirement where
  lastSeq : Option Seq
  entries : Nat
  errors : Nat
  stampCount : Nat
  stampIndex : BitVec 16
  deriving DecidableEq, Repr

/-- R35: the options of GROUP_STOP. -/
inductive StopOption where
  | discard | flush
  deriving DecidableEq, Repr

/-- R27, R30, R42, R76, R170: everything one group holds. -/
structure Group where
  config : GroupConfig
  state : GroupState
  opened : Option Batch
  other : Option Batch
  sealPending : Bool
  nextSeq : Seq
  consecutive : Nat
  causes : BitVec 7
  first : Option FirstFault
  safeIncomplete : Bool
  misses : Nat
  overruns : Nat
  refused : Nat
  trips : Nat
  drainErrors : Nat
  refusalReported : Bool
  retirement : Retirement
  held : Nat
  skipRemaining : Nat
  stopOption : StopOption
  deriving DecidableEq, Repr

/-! ### Release scheduler (chapter 4) -/

/-- R66: a time base; `interval` counts the cycles passed in the current tick interval (R67). -/
structure TimeBase where
  divider : Nat
  period : Nat
  bLock : Bool
  running : Bool
  count : Nat
  periodIndex : BitVec 16
  pendingPeriod : Option Nat
  interval : Nat
  deriving DecidableEq, Repr

/-- R73: the edges a release line accepts. -/
inductive EdgeChoice where
  | rising | falling | both
  deriving DecidableEq, Repr

/-- R72: a release line; levels are `true` for HIGH. -/
structure ReleaseLine where
  edge : EdgeChoice
  qual : Nat
  level : Bool
  count : Nat
  pin : Bool
  deriving DecidableEq, Repr

/-- R107: a fault line; `activeHigh` is its active level. -/
structure FaultLine where
  activeHigh : Bool
  qual : Nat
  level : Bool
  count : Nat
  pin : Bool
  deriving DecidableEq, Repr

/-- R83: an item of the release queue. -/
inductive Item where
  | batch (group : Fin 8) (seq : Seq)
  | safe (group : Fin 8)
  deriving DecidableEq, Repr

/-! ### Drain engine and memory port (chapter 5) -/

/-- R86: the progress through the current item. -/
inductive Progress where
  | writing | ending
  deriving DecidableEq, Repr

/-- R86: the drain engine. It is IDLE when no item is current. `safeNext` is the next entry of a safe job; a batch's next entry
is the first of its list (R90). `taken` is the number of entries the batch held when taken (R94). -/
structure Drain where
  current : Option Item
  progress : Progress
  safeNext : Fin 128
  written : Nat
  errors : Nat
  taken : Nat
  clearanceWait : Vector Bool 8
  deriving DecidableEq, Repr

/-- R100, R101: who raised a transaction. -/
inductive Requester where
  | pass (slot : Fin 16)
  | drain
  | probe (watch : Fin 12)
  | peek
  | poke
  deriving DecidableEq, Repr

/-- R100: the transaction at the memory port. -/
structure Transaction where
  requester : Requester
  kind : ReqKind
  addr : WordAddr
  deriving DecidableEq, Repr

/-- R102: the arbiter's turn. -/
inductive Turn where
  | drain | pass | service
  deriving DecidableEq, Repr

/-- R104: a request of the service list. -/
inductive ServiceRequest where
  | probe (watch : Fin 12)
  | peek (addr : WordAddr)
  | poke (addr : WordAddr) (data : Word) (mask : Mask)
  deriving DecidableEq, Repr

/-- R100, R102, R103, R104: the memory port, which is IDLE when it has no current transaction. -/
structure Port where
  current : Option Transaction
  turn : Turn
  run : Nat
  burst : Nat
  service : List ServiceRequest
  deriving DecidableEq, Repr

/-! ### Fault unit and watch unit (chapters 6 and 7) -/

/-- R120: a safe-image table entry. -/
structure SafeEntry where
  enabled : Bool
  addr : WordAddr
  data : Word
  mask : Mask
  group : Fin 8
  deriving DecidableEq, Repr

/-- What a comparison of a shadow found (R130). -/
inductive Found where
  | agrees | differs
  deriving DecidableEq, Repr

/-- R131: where an arming came from; RE_ARM keeps the prior state. -/
inductive Origin where
  | arm
  | reArm (prior : Found)
  deriving DecidableEq, Repr

/-- R131: the states of a watch: DISARMED, ARMING, and MATCH or MISMATCH. -/
inductive WatchState where
  | disarmed
  | arming (origin : Origin)
  | compared (found : Found)
  deriving DecidableEq, Repr

/-- R131: a watch's probe. -/
inductive Probe where
  | none | raised | inFlight | orphaned
  deriving DecidableEq, Repr

/-- R130: what a reported mismatch does beside its record. -/
inductive WatchAction where
  | report | trip
  deriving DecidableEq, Repr

/-- R130, R131: a watch. -/
structure Watch where
  addr : WordAddr
  reference : Word
  compareMask : Word
  action : WatchAction
  tripGroup : Fin 8
  settleGroup : Option (Fin 8)
  settleBase : Base
  settleLength : Nat
  reportRestore : Bool
  state : WatchState
  shadow : Word
  probe : Probe
  deferred : Bool
  marks : Nat
  deriving DecidableEq, Repr

/-! ### Management link and event queue (chapters 8 and 9) -/

/-- R152: a pending command with its fields. -/
inductive PendingCommand where
  | peek (addr : WordAddr)
  | poke (addr : WordAddr) (data : Word) (mask : Mask)
  | softReset
  deriving DecidableEq, Repr

/-- R152: the result slot. -/
structure ResultSlot where
  status : Status
  echo : Byte
  data : List Byte
  deriving DecidableEq, Repr

/-- R154: a rejection notice. -/
structure Notice where
  status : Status
  echo : Byte
  deriving DecidableEq, Repr

/-- R152: what the next frame shifts out. -/
inductive ReplyChoice where
  | slot | notice | link
  deriving DecidableEq, Repr

/-- R148, R151: a frame in progress: the choice and the reply fixed at its start, and whether RESET_N was asserted in it. -/
structure Frame where
  choice : ReplyChoice
  reply : List Byte
  dropped : Bool
  deriving DecidableEq, Repr

/-- R166: the blocks that have reported their part of the soft reset done. -/
structure BlockReports where
  upstream : Bool
  drain : Bool
  port : Bool
  watches : Bool
  deriving DecidableEq, Repr

/-- R152, R166: the management link; the command slot is IDLE when no command is pending. -/
structure Link where
  pending : Option PendingCommand
  result : ResultSlot
  notice : Option Notice
  choice : ReplyChoice
  frame : Option Frame
  reports : BlockReports
  deriving DecidableEq, Repr

/-- R125: what cleared a fault. -/
inductive ClearCause where
  | command | auto
  deriving DecidableEq, Repr

/-- R141, R143, R145: what a mismatch report names. -/
inductive MismatchCause where
  | write | reference | settleEnd
  deriving DecidableEq, Repr

/-- R169 and 9.2: what the submitting block fills in, kind by kind. -/
inductive EventBody where
  | batchRetired (group : Fin 8) (seq : Seq) (cause : Option SealCause) (errors : Nat)
  | releaseMissed (group : Fin 8) (seq : Seq) (consecutive : Nat)
  | releaseOverrun (group : Fin 8) (seq : Seq) (state : BatchState) (overruns : Nat)
  | writeRefused (group : Fin 8) (cause : RefusalCause) (init : BitVec 2)
  | faultTripped (group : Fin 8) (cause : FaultCause) (detail : Nat)
  | safeApplied (group : Fin 8) (failed written : Nat)
  | faultCleared (group : Fin 8) (seq : Seq) (cause : ClearCause) (forced : Bool)
  | groupStopped (group : Fin 8) (option : StopOption)
  | watchArmed (watch : Fin 12) (found : Found) (reArm : Bool)
  | watchArmFailed (watch : Fin 12) (reArm : Bool)
  | watchMismatch (watch : Fin 12) (cause : MismatchCause)
  | watchRestored (watch : Fin 12)
  | partReset (discarded : Nat)
  deriving DecidableEq, Repr

/-- R169: an event record: its body, A's count and period index when it was stored, and the lost count. -/
structure EventRecord where
  body : EventBody
  stampCount : Nat
  stampIndex : BitVec 16
  lost : Nat
  deriving DecidableEq, Repr

/-- R172, R173: the event queue, oldest record first. -/
structure EventQueue where
  records : List EventRecord
  lost : Nat
  deriving DecidableEq, Repr

/-- The whole part, the contents of the SRAM behind it as far as they are known (DESIGN CHOICE, notes/assumptions/1.md), and the queue of
commands that are waiting, which is the model's own. -/
structure State where
  upstream : Upstream
  windows : Vector Window 16
  groups : Vector Group 8
  freeSlots : Nat
  baseA : TimeBase
  baseB : TimeBase
  releaseLines : Vector ReleaseLine 4
  faultLines : Vector FaultLine 2
  releaseQueue : List Item
  drain : Drain
  port : Port
  safeTable : Vector SafeEntry 128
  watches : Vector Watch 12
  link : Link
  events : EventQueue
  inReset : Bool
  mem : List Host.Cell
  pending : List Instr
  deriving DecidableEq, Repr

/-! ### The values of the power-on reset -/

/-- R20: a FREE slot; what it holds beside its state has no meaning (DESIGN CHOICE, notes/assumptions/17.md). -/
def Slot.reset : Slot :=
  { state := .free, kind := .read, addr := 0, order := 0, snapshot := none, prepared := none, returnMark := none }

/-- R20. -/
def Upstream.reset : Upstream :=
  { slots := Vector.replicate 16 Slot.reset, passQueue := [], holdList := [], nextOrder := 0, indication := .idle,
    issued := none }

/-- R26. -/
def Window.reset : Window :=
  { enabled := false, base := 0, length := 0, group := 0, owners := 0, foreign := .refuse, readOwn := false,
    sealOffset := none }

/-- R29. -/
def GroupConfig.reset : GroupConfig :=
  { trigger := .immediate, base := .timeA, phase := 0, skip := 0, releaseLine := 0, quota := 0, overflow := .quiet,
    missLimit := 0, clearMode := .latched, faultLine0 := false, faultLine1 := false, drainError := .quiet, eventMask := 0,
    stampBase := .timeA }

/-- R39. -/
def Retirement.reset : Retirement :=
  { lastSeq := none, entries := 0, errors := 0, stampCount := 0, stampIndex := 0 }

/-- R39, R64, R76. -/
def Group.reset : Group :=
  { config := GroupConfig.reset, state := .off, opened := none, other := none, sealPending := false, nextSeq := 0,
    consecutive := 0, causes := 0, first := none, safeIncomplete := false, misses := 0, overruns := 0, refused := 0,
    trips := 0, drainErrors := 0, refusalReported := false, retirement := Retirement.reset, held := 0, skipRemaining := 0,
    stopOption := .discard }

/-- R71. -/
def TimeBase.reset : TimeBase :=
  { divider := 1, period := 1024, bLock := false, running := false, count := 0, periodIndex := 0, pendingPeriod := none,
    interval := 0 }

/-- R72, R73, with the pin LOW (DESIGN CHOICE, notes/assumptions/17.md). -/
def ReleaseLine.reset : ReleaseLine := { edge := .rising, qual := 0, level := false, count := 0, pin := false }

/-- R109, with the pin LOW (DESIGN CHOICE, notes/assumptions/17.md). -/
def FaultLine.reset : FaultLine := { activeHigh := true, qual := 0, level := false, count := 0, pin := false }

/-- R86, R105. -/
def Drain.reset : Drain :=
  { current := none, progress := .writing, safeNext := 0, written := 0, errors := 0, taken := 0,
    clearanceWait := Vector.replicate 8 false }

/-- R103, R105. -/
def Port.reset : Port :=
  { current := none, turn := .drain, run := 0, burst := Config.burstReset, service := [] }

/-- R129. -/
def SafeEntry.reset : SafeEntry := { enabled := false, addr := 0, data := 0, mask := 0, group := 0 }

/-- R147. -/
def Watch.reset : Watch :=
  { addr := 0, reference := 0, compareMask := 0, action := .report, tripGroup := 0, settleGroup := none, settleBase := .timeA,
    settleLength := 0, reportRestore := false, state := .disarmed, shadow := 0, probe := .none, deferred := false,
    marks := 0 }

/-- No block has reported (R166). -/
def BlockReports.reset : BlockReports := { upstream := false, drain := false, port := false, watches := false }

/-- R168. -/
def Link.reset : Link :=
  { pending := none, result := { status := .reset, echo := 0, data := [] }, notice := none, choice := .slot, frame := none,
    reports := BlockReports.reset }

/-- R179. -/
def EventQueue.reset : EventQueue := { records := [], lost := 0 }

/-- The machine right after a power-on reset has ended with every line pin LOW, over an SRAM of unknown contents
(DESIGN CHOICE, notes/assumptions/17.md). -/
def State.reset : State :=
  { upstream := Upstream.reset
    windows := Vector.replicate 16 Window.reset
    groups := Vector.replicate 8 Group.reset
    freeSlots := Config.poolSlots
    baseA := TimeBase.reset
    baseB := TimeBase.reset
    releaseLines := Vector.replicate 4 ReleaseLine.reset
    faultLines := Vector.replicate 2 FaultLine.reset
    releaseQueue := []
    drain := Drain.reset
    port := Port.reset
    safeTable := Vector.replicate 128 SafeEntry.reset
    watches := Vector.replicate 12 Watch.reset
    link := Link.reset
    events := EventQueue.reset
    inReset := false
    mem := []
    pending := [] }

end Sys2Proof.Machine
end

