-- ==== Sys2Proof/Machine/Ops.lean ====
section
/-! DEFINITION. The named operations every meaning is built from: lanes of a word, the SRAM's known contents, access to the
records of State by their numbers, saturating counters, and lookups of windows and entries. -/

namespace Sys2Proof.Machine

/-! ### Lanes (00, "Word") -/

/-- Lane `i` of a word; lane 0 is the least significant byte. -/
def lane (w : Word) (i : Nat) : Byte := w.extractLsb' (8 * i) 8

/-- The word of four lanes. -/
def joinLanes (l0 l1 l2 l3 : Byte) : Word := l3 ++ l2 ++ l1 ++ l0

/-- The lane of `new` where the mask enables it, else of `old`. -/
def pickLane (mask : Mask) (old new : Word) (i : Nat) : Byte := if mask.getLsbD i then lane new i else lane old i

/-- A word whose enabled lanes are those of `new` and whose other lanes keep their bytes (R49, R137). -/
def mergeLanes (mask : Mask) (old new : Word) : Word :=
  joinLanes (pickLane mask old new 0) (pickLane mask old new 1) (pickLane mask old new 2) (pickLane mask old new 3)

/-! ### The SRAM's known contents (DESIGN CHOICE, notes/assumptions/1.md) -/

/-- Bytes of the SRAM: 16 MiB (00, "Word"). -/
def memBytes : Nat := 16777216

/-- The byte address of a word's lane. -/
def byteAddr (a : WordAddr) (i : Nat) : Nat := 4 * a.toNat + i

/-- The byte known at an address, if one is. An unlisted byte has no known value. -/
def readByte : List Host.Cell → Nat → Option Byte
  | [], _ => none
  | (b, v) :: rest, a => if b = a then some v else readByte rest a

/-- Lists a byte at its place. -/
def writeByte : List Host.Cell → Nat → Byte → List Host.Cell
  | [], a, v => [(a, v)]
  | (b, w) :: rest, a, v =>
    if a < b then (a, v) :: (b, w) :: rest
    else if a = b then (a, v) :: rest
    else (b, w) :: writeByte rest a v

/-- Makes a byte unknown. -/
def forgetByte (m : List Host.Cell) (a : Nat) : List Host.Cell := m.filter (fun c => c.1 != a)

/-- The canonical form: addresses strictly rise and lie inside the SRAM. An unlisted byte has no value, so no entry equals what
an unlisted address reads as. -/
def memoryWf : List Host.Cell → Bool
  | [] => true
  | [c] => decide (c.1 < memBytes)
  | c :: d :: rest => decide (c.1 < d.1) && memoryWf (d :: rest)

/-- The lane the memory answers: the known byte, or the lane of M_RDATA where none is known. -/
def answerLane (m : List Host.Cell) (a : WordAddr) (rdata : Word) (i : Nat) : Byte :=
  (readByte m (byteAddr a i)).getD (lane rdata i)

/-- The word a successful read answers (R100, R184). -/
def readWord (m : List Host.Cell) (a : WordAddr) (rdata : Word) : Word :=
  joinLanes (answerLane m a rdata 0) (answerLane m a rdata 1) (answerLane m a rdata 2) (answerLane m a rdata 3)

/-- Writes one lane where the mask enables it. -/
def writeLane (mask : Mask) (data : Word) (a : WordAddr) (m : List Host.Cell) (i : Nat) : List Host.Cell :=
  if mask.getLsbD i then writeByte m (byteAddr a i) (lane data i) else m

/-- R100: the enabled lanes of the word take the write's bytes. -/
def writeWord (m : List Host.Cell) (a : WordAddr) (data : Word) (mask : Mask) : List Host.Cell :=
  writeLane mask data a (writeLane mask data a (writeLane mask data a (writeLane mask data a m 0) 1) 2) 3

/-- The four bytes of a word whose value is no longer known (R11, R91, R105). -/
def forgetWord (m : List Host.Cell) (a : WordAddr) : List Host.Cell :=
  forgetByte (forgetByte (forgetByte (forgetByte m (byteAddr a 0)) (byteAddr a 1)) (byteAddr a 2)) (byteAddr a 3)

/-- The word at an address, where all four of its bytes are known. -/
def knownWord (m : List Host.Cell) (a : WordAddr) : Option Word :=
  match readByte m (byteAddr a 0), readByte m (byteAddr a 1), readByte m (byteAddr a 2), readByte m (byteAddr a 3) with
  | some l0, some l1, some l2, some l3 => some (joinLanes l0 l1 l2 l3)
  | _, _, _, _ => none

/-- What a transaction's answer does to the contents (R100, R11, R91; DESIGN CHOICE, notes/assumptions/1.md, 3.md): a successful read tells the
word, a successful write sets its enabled lanes, a failed write leaves the word unknown, a failed read changes nothing. -/
def memoryAfter (m : List Host.Cell) (t : Transaction) (error : Bool) (rdata : Word) : List Host.Cell :=
  match t.kind, error with
  | .read, false => writeWord m t.addr (readWord m t.addr rdata) 0xF#4
  | .read, true => m
  | .write d k, false => writeWord m t.addr d k
  | .write _ _, true => forgetWord m t.addr

/-! ### Counters -/

/-- 00, "Counters": a count that stays at its limit. -/
def satInc (limit n : Nat) : Nat := min (n + 1) limit

/-- A 16-bit saturating counter's increment. -/
def bump (n : Nat) : Nat := satInc Config.counterMax n

/-! ### Records by number -/

/-- The eight groups in increasing order of number. -/
def groupNumbers : List (Fin 8) := [0, 1, 2, 3, 4, 5, 6, 7]

/-- The twelve watches in increasing order of number. -/
def watchNumbers : List (Fin 12) := [0, 1, 2, 3, 4, 5, 6, 7, 8, 9, 10, 11]

/-- The sixteen request-table slots. -/
def slotNumbers : List (Fin 16) := [0, 1, 2, 3, 4, 5, 6, 7, 8, 9, 10, 11, 12, 13, 14, 15]

/-- The slot of an initiator and tag (R3). -/
def slotOf (init tag : BitVec 2) : Fin 16 := ⟨init.toNat * 4 + tag.toNat, by omega⟩

/-- The initiator of a slot (R3). -/
def slotInit (i : Fin 16) : BitVec 2 := BitVec.ofNat 2 (i.val / 4)

/-- The tag of a slot (R3). -/
def slotTag (i : Fin 16) : BitVec 2 := BitVec.ofNat 2 (i.val % 4)

def State.group (s : State) (g : Fin 8) : Group := s.groups[g]

def State.setGroup (s : State) (g : Fin 8) (x : Group) : State := { s with groups := s.groups.set g x }

def State.watch (s : State) (w : Fin 12) : Watch := s.watches[w]

def State.setWatch (s : State) (w : Fin 12) (x : Watch) : State := { s with watches := s.watches.set w x }

def State.slot (s : State) (i : Fin 16) : Slot := s.upstream.slots[i]

def State.setSlot (s : State) (i : Fin 16) (x : Slot) : State :=
  { s with upstream := { s.upstream with slots := s.upstream.slots.set i x } }

def State.base (s : State) : Base → TimeBase
  | .timeA => s.baseA
  | .timeB => s.baseB

def State.setBase (s : State) (b : Base) (x : TimeBase) : State :=
  match b with
  | .timeA => { s with baseA := x }
  | .timeB => { s with baseB := x }

def State.setPassQueue (s : State) (q : List (Fin 16)) : State := { s with upstream := { s.upstream with passQueue := q } }

def State.setHoldList (s : State) (q : List (Fin 16)) : State := { s with upstream := { s.upstream with holdList := q } }

def State.setIndication (s : State) (x : Indication) : State := { s with upstream := { s.upstream with indication := x } }

def State.setIssued (s : State) (x : Option Issued) : State := { s with upstream := { s.upstream with issued := x } }

/-- R183: another cycle of the upstream link: UQ_TAKEN, UQ_AWAY and US_VALID stand for one cycle. Every command is a cycle of its
own (DESIGN CHOICE, notes/assumptions/18.md), so each meaning begins here. -/
def State.newCycle (s : State) : State := { s with upstream := { s.upstream with indication := .idle, issued := none } }

def State.setNextOrder (s : State) (n : Nat) : State := { s with upstream := { s.upstream with nextOrder := n } }

def State.setDrain (s : State) (d : Drain) : State := { s with drain := d }

def State.setPort (s : State) (p : Port) : State := { s with port := p }

def State.setLink (s : State) (l : Link) : State := { s with link := l }

def State.setFreeSlots (s : State) (n : Nat) : State := { s with freeSlots := n }

def State.setReleaseQueue (s : State) (q : List Item) : State := { s with releaseQueue := q }

def State.setEvents (s : State) (e : EventQueue) : State := { s with events := e }

def State.setMem (s : State) (m : List Host.Cell) : State := { s with mem := m }

def State.setReleaseLine (s : State) (n : Fin 4) (x : ReleaseLine) : State := { s with releaseLines := s.releaseLines.set n x }

def State.setFaultLine (s : State) (n : Fin 2) (x : FaultLine) : State := { s with faultLines := s.faultLines.set n x }

/-! ### Lookups -/

/-- R4: the record is enabled and its range contains the word. -/
def Window.covers (w : Window) (a : WordAddr) : Bool :=
  w.enabled && decide (w.base.toNat ≤ a.toNat) && decide (a.toNat < w.base.toNat + w.length.toNat)

/-- R4: the enabled window of a word; enabled windows do not overlap (R23), so there is at most one. -/
def State.windowOf (s : State) (a : WordAddr) : Option Window := s.windows.toList.find? (fun w => w.covers a)

/-- The group that owns the word's enabled window. -/
def State.wordGroup (s : State) (a : WordAddr) : Option (Fin 8) := (s.windowOf a).map (·.group)

/-- R5, R6: the initiator is an owner of the window. -/
def Window.owned (w : Window) (init : BitVec 2) : Bool := w.owners.getLsbD init.toNat

/-- R22: the word is the window's seal word. -/
def Window.isSealWord (w : Window) (a : WordAddr) : Bool :=
  match w.sealOffset with
  | some o => a.toNat == w.base.toNat + o.toNat
  | none => false

/-- The group of an item. -/
def Item.group : Item → Fin 8
  | .batch g _ => g
  | .safe g => g

/-- Whether an item is a safe job. -/
def Item.isSafe : Item → Bool
  | .batch _ _ => false
  | .safe _ => true

/-- The item is group `g`'s batch item. -/
def Item.isBatchOf (g : Fin 8) : Item → Bool
  | .batch h _ => h == g
  | .safe _ => false

/-- R86: an item of `g` is current ("the drain engine is draining an item of group g"). -/
def State.itemCurrent (s : State) (g : Fin 8) : Bool :=
  match s.drain.current with
  | some it => it.group == g
  | none => false

/-- The entry of a batch for a word (R47, R62). -/
def Batch.entryFor (b : Batch) (a : WordAddr) : Option Entry := b.entries.find? (fun e => e.addr == a)

/-- The number of staging entries of an optional batch. -/
def entryCount : Option Batch → Nat
  | some b => b.entries.length
  | none => 0

/-- The group's other batch is DRAINING. -/
def Group.draining (gr : Group) : Bool :=
  match gr.other with
  | some b => b.state == .draining
  | none => false

/-- R166: SOFT_RESET has been taken and has not completed. -/
def State.softResetting (s : State) : Bool :=
  match s.link.pending with
  | some .softReset => true
  | _ => false

end Sys2Proof.Machine
end

