-- ==== Sys2Proof/Machine/Events.lean ====
section
/-! DEFINITION. The event queue (chapter 9): submitting a record through its group's mask, storing it with A's stamp and the
pending lost count, dropping it when the queue is full. -/

namespace Sys2Proof.Machine

/-- R169: the group a record names, for the eight group kinds. -/
def EventBody.group? : EventBody → Option (Fin 8)
  | .batchRetired g _ _ _ => some g
  | .releaseMissed g _ _ => some g
  | .releaseOverrun g _ _ _ => some g
  | .writeRefused g _ _ => some g
  | .faultTripped g _ _ => some g
  | .safeApplied g _ _ => some g
  | .faultCleared g _ _ _ => some g
  | .groupStopped g _ => some g
  | .watchArmed _ _ _ => none
  | .watchArmFailed _ _ => none
  | .watchMismatch _ _ => none
  | .watchRestored _ => none
  | .partReset _ => none

/-- 11.7: the kind's code. -/
def EventBody.kindCode : EventBody → Nat
  | .batchRetired _ _ _ _ => 1
  | .releaseMissed _ _ _ => 2
  | .releaseOverrun _ _ _ _ => 3
  | .writeRefused _ _ _ => 4
  | .faultTripped _ _ _ => 5
  | .safeApplied _ _ _ => 6
  | .faultCleared _ _ _ _ => 7
  | .groupStopped _ _ => 8
  | .watchArmed _ _ _ => 9
  | .watchArmFailed _ _ => 10
  | .watchMismatch _ _ => 11
  | .watchRestored _ => 12
  | .partReset _ => 13

/-- R171 and R187 GROUP byte 9: a group kind passes when its group's mask enables it; other kinds are governed by no mask. -/
def State.eventEnabled (s : State) (b : EventBody) : Bool :=
  match b.group? with
  | some g => (s.group g).config.eventMask.getLsbD (b.kindCode - 1)
  | none => true

/-- R172: the record as it is stored, stamped with A's reading and the pending lost count. -/
def State.stamped (s : State) (b : EventBody) : EventRecord :=
  { body := b, stampCount := s.baseA.count, stampIndex := s.baseA.periodIndex, lost := s.events.lost }

/-- R172, R173: stored at the tail while fewer than 32 records are held; otherwise counted as lost. -/
def State.store (s : State) (b : EventBody) : State :=
  if s.events.records.length < Config.eventRecords then
    s.setEvents { records := s.events.records ++ [s.stamped b], lost := 0 }
  else
    s.setEvents { s.events with lost := satInc Config.lostMax s.events.lost }

/-- R171: a record its group's mask does not enable leaves no trace. -/
def State.submit (s : State) (b : EventBody) : State := if s.eventEnabled b then s.store b else s

end Sys2Proof.Machine
end

