-- ==== Sys2Proof/Machine/Flags.lean ====
section
/-! DEFINITION. The flags and levels computed from State: the attention line (R177), active fault lines (R107), active trip
sources (R111), the memory face (R184), and what waits at the arbiter (R89, R90, R102). -/

namespace Sys2Proof.Machine

/-- R177: the attention line is asserted exactly when the event queue holds at least one record. -/
def State.attention (s : State) : Bool := !s.events.records.isEmpty

/-- R107: a fault line is active while its qualified level equals its active level. -/
def FaultLine.active (l : FaultLine) : Bool := l.level == l.activeHigh

/-- R107. -/
def State.lineActive (s : State) (n : Fin 2) : Bool := s.faultLines[n].active

/-- R27: the group's fault-line enable for a line. -/
def GroupConfig.lineEnabled (c : GroupConfig) (n : Fin 2) : Bool := if n = 0 then c.faultLine0 else c.faultLine1

/-- R111: a watch whose action is TRIP and which is in MISMATCH is an active source of its trip group, deferred or not. -/
def Watch.activeFor (w : Watch) (g : Fin 8) : Bool :=
  w.action == .trip && w.tripGroup == g && w.state == .compared .differs

/-- R111: a group's active sources, as levels of this moment. -/
def State.activeSource (s : State) (g : Fin 8) : Bool :=
  (s.lineActive 0 && (s.group g).config.faultLine0) || (s.lineActive 1 && (s.group g).config.faultLine1) ||
    s.watches.toList.any (fun w => w.activeFor g)

/-- R90, R97: the write the drain engine has raised while progress is WRITING: the first entry of the draining batch, or the
safe entry at the next index. -/
def State.drainWrite (s : State) : Option (WordAddr × Word × Mask) :=
  match s.drain.current, s.drain.progress with
  | some (.batch g _), .writing =>
    match (s.group g).other with
    | some b => b.entries.head?.map (fun e => (e.addr, e.data, e.mask))
    | none => none
  | some (.safe _), .writing =>
    let e := s.safeTable[s.drain.safeNext]
    some (e.addr, e.data, e.mask)
  | _, _ => none

/-- R89: the word lies in an enabled window of the group whose item is current. -/
def State.wordHeld (s : State) (a : WordAddr) : Bool :=
  match s.wordGroup a with
  | some g => s.itemCurrent g
  | none => false

/-- R89: probes are not held; a peek or poke is, while its word's group has an item current (DEDUCED, notes/assumptions/25.md). -/
def State.serviceHeld (s : State) : ServiceRequest → Bool
  | .probe _ => false
  | .peek a => s.wordHeld a
  | .poke a _ _ => s.wordHeld a

/-- R104: the foremost request of the service list that is not held. -/
def State.serviceFront (s : State) : Option ServiceRequest := s.port.service.find? (fun r => !s.serviceHeld r)

/-- R102: the requester has a transaction ready to present. -/
def State.waiting (s : State) : Turn → Bool
  | .pass => !s.upstream.passQueue.isEmpty
  | .drain => s.drainWrite.isSome
  | .service => s.serviceFront.isSome

/-- R184: M_REQ, M_WE, M_ADDR, M_BE and M_WDATA, from the transaction at the port; `none` where the manual gives a signal no value
(DESIGN CHOICE, notes/assumptions/30.md). -/
structure MemoryFace where
  req : Bool
  we : Option Bool
  addr : Option WordAddr
  be : Option Mask
  wdata : Option Word
  deriving DecidableEq, Repr

/-- R184: the memory face. M_REQ is low while the port is IDLE; the manual gives the other signals no value then, and M_BE and
M_WDATA none for a read. -/
def State.memoryFace (s : State) : MemoryFace :=
  match s.port.current with
  | none => { req := false, we := none, addr := none, be := none, wdata := none }
  | some t =>
    match t.kind with
    | .read => { req := true, we := some false, addr := some t.addr, be := none, wdata := none }
    | .write d m => { req := true, we := some true, addr := some t.addr, be := some m, wdata := some d }

end Sys2Proof.Machine
end

