-- ==== Sys2Proof/Machine/Operands.lean ====
section
/-! DEFINITION. The encodings the part sends (chapter 11): status and state codes, the records READ_TABLE returns (R187), the
status record (11.6), event records (11.7), replies (R151, R186) and the response signals (R183). The encodings it reads are in
Sys2Proof/Decode.lean; here their fields become records of State. -/

namespace Sys2Proof.Machine

open Wire

/-! ### Codes -/

/-- R186: the status codes. -/
def statusCode : Status → Byte
  | .ok => 0x00
  | .pending => 0x01
  | .reset => 0x02
  | .frameShort => 0x10
  | .badCrc => 0x11
  | .busy => 0x12
  | .badCommand => 0x13
  | .badIndex => 0x14
  | .badValue => 0x15
  | .badState => 0x16
  | .overlap => 0x17
  | .memoryError => 0x18

def GroupState.code : GroupState → Byte
  | .off => 0
  | .active => 1
  | .stopping => 2
  | .safing => 3
  | .faulted => 4

def BatchState.code : BatchState → Byte
  | .opened => 0
  | .closed => 1
  | .queued => 2
  | .draining => 3

def Found.code : Found → Byte
  | .agrees => 2
  | .differs => 3

def WatchState.code : WatchState → Byte
  | .disarmed => 0
  | .arming _ => 1
  | .compared f => f.code

def FaultCause.code : FaultCause → Byte
  | .line0 => 1
  | .line1 => 2
  | .watch => 3
  | .pool => 4
  | .missLimit => 5
  | .drainError => 6
  | .forced => 7

def SealCause.code : SealCause → Byte
  | .command => 1
  | .sealWord => 2
  | .flush => 3
  | .pendingSeal => 4

def RefusalCause.code : RefusalCause → Byte
  | .foreign => 1
  | .faulted => 2
  | .stopping => 3
  | .poolFull => 4
  | .quota => 5

def Probe.code : Probe → Byte
  | .none => 0
  | .raised => 1
  | .inFlight => 2
  | .orphaned => 3

def Trigger.code : Trigger → Byte
  | .immediate => 0
  | .timed => 1
  | .line => 2
  | .manual => 3

def EdgeChoice.code : EdgeChoice → Byte
  | .rising => 0
  | .falling => 1
  | .both => 2

def ClearCause.code : ClearCause → Byte
  | .command => 1
  | .auto => 2

def StopOption.code : StopOption → Byte
  | .discard => 1
  | .flush => 2

def MismatchCause.code : MismatchCause → Byte
  | .write => 1
  | .reference => 2
  | .settleEnd => 3

/-- 11.4: the code of a pending command. -/
def PendingCommand.code : PendingCommand → Byte
  | .peek _ => 0x60
  | .poke _ _ _ => 0x61
  | .softReset => 0x7F

/-- R183: US_CODE. -/
def Response.code : Response → BitVec 3
  | .data _ => 0
  | .done => 1
  | .staged => 2
  | .stagedSealed => 3
  | .stagedSealPending => 4
  | .refused _ => 5
  | .error _ => 6

/-- R183: US_CAUSE, 0 but for REFUSED and ERROR. -/
def Response.cause : Response → BitVec 3
  | .refused c => c.code.setWidth 3
  | .error .memory => 1
  | .error .reset => 2
  | .data _ => 0
  | .done => 0
  | .staged => 0
  | .stagedSealed => 0
  | .stagedSealPending => 0

/-- R183: US_DATA, the read word for DATA and 0 otherwise. -/
def Response.word : Response → Word
  | .data w => w
  | .done => 0
  | .staged => 0
  | .stagedSealed => 0
  | .stagedSealPending => 0
  | .refused _ => 0
  | .error _ => 0

/-! ### Records from the fields of WRITE_TABLE -/

/-- The group number in a byte, for a byte already checked to be at most 7. -/
def groupField (b : Byte) : Fin 8 := ⟨b.toNat % 8, Nat.mod_lt _ (by decide)⟩

/-- R185: a base's flag bit. -/
def baseField (b : Bool) : Base := if b then .timeB else .timeA

/-- R185: an optional field with its presence bit. -/
def optionalField {α : Type} (present : Bool) (value : α) : Option α := if present then some value else none

/-- R22, R187 WINDOW. -/
def windowRecord (f : WindowFields) : Window :=
  { enabled := f.enabled, base := f.base, length := f.length, group := groupField f.group, owners := f.owners,
    foreign := if f.foreignPass then .pass else .refuse, readOwn := f.readOwn,
    sealOffset := optionalField f.sealPresent f.sealOffset }

/-- R187 GROUP byte 0. -/
def triggerField (b : Byte) : Trigger :=
  match b.toNat with
  | 0 => .immediate
  | 1 => .timed
  | 2 => .line
  | _ => .manual

/-- R187: a policy's flag bit. -/
def tripField (b : Bool) : TripPolicy := if b then .trip else .quiet

/-- R27, R187 GROUP. -/
def groupRecord (f : GroupFields) : GroupConfig :=
  { trigger := triggerField f.trigger, base := baseField f.timeBaseB, phase := f.phase.toNat, skip := f.skip.toNat,
    releaseLine := ⟨f.releaseLine.toNat % 4, Nat.mod_lt _ (by decide)⟩, quota := f.quota.toNat,
    overflow := tripField f.overflowTrip, missLimit := f.missLimit.toNat,
    clearMode := if f.clearAuto then .auto else .latched, faultLine0 := f.faultLine0, faultLine1 := f.faultLine1,
    drainError := tripField f.drainErrorTrip, eventMask := f.eventMask, stampBase := baseField f.stampBaseB }

/-- A word address from its three bytes, already checked to be in range (R185). -/
def wordField (a : Addr24) : WordAddr := a.setWidth 22

/-- R120, R187 SAFE. -/
def safeRecord (f : SafeFields) : SafeEntry :=
  { enabled := f.enabled, addr := wordField f.addr, data := f.data, mask := f.mask, group := groupField f.group }

/-- R132, R187 WATCH: the configuration fields, the run state kept. -/
def Watch.configure (x : Watch) (f : WatchFields) : Watch :=
  { x with
    addr := wordField f.addr
    reference := f.reference
    compareMask := f.compareMask
    action := if f.trip then .trip else .report
    tripGroup := groupField f.tripGroup
    settleGroup := optionalField f.settlePresent (groupField f.settleGroup)
    settleBase := baseField f.settleBaseB
    settleLength := f.settleLength.toNat
    reportRestore := f.reportRestore }

/-- R187 LINES. -/
def edgeField (b : Byte) : EdgeChoice :=
  match b.toNat with
  | 0 => .rising
  | 1 => .falling
  | _ => .both

/-! ### Records READ_TABLE returns (R187) -/

/-- Whether an optional field is present. -/
def present {α : Type} (o : Option α) : Bool := o.isSome

/-- The base's flag bit. -/
def Base.bit : Base → Bool
  | .timeA => false
  | .timeB => true

def TripPolicy.bit : TripPolicy → Bool
  | .quiet => false
  | .trip => true

/-- R187 WINDOW, 11 bytes. -/
def Window.bytes (w : Window) : List Byte :=
  [flagByte w.enabled w.readOwn (w.foreign == .pass) (present w.sealOffset) false false false, byteOf w.group.val,
    w.owners.setWidth 8] ++ split3 w.base ++ split3 w.length ++ split2 (w.sealOffset.getD 0)

/-- R187 GROUP, 10 bytes. -/
def GroupConfig.bytes (c : GroupConfig) : List Byte :=
  [c.trigger.code, flagByte (Base.bit c.base) (Base.bit c.stampBase) c.overflow.bit (c.clearMode == .auto) c.drainError.bit
    c.faultLine0 c.faultLine1] ++ split2Nat c.phase ++ [byteOf c.skip, byteOf c.releaseLine.val] ++ split2Nat c.quota ++
    [byteOf c.missLimit, c.eventMask]

/-- R187 SAFE, 10 bytes. -/
def SafeEntry.bytes (e : SafeEntry) : List Byte :=
  [flagByte e.enabled false false false false false false, byteOf e.group.val] ++ split3 (e.addr.setWidth 24) ++ split4 e.data ++
    [e.mask.setWidth 8]

/-- R187 WATCH byte 17: arming origin, prior state, deferred flag. -/
def Watch.armingByte (x : Watch) : Byte :=
  match x.state with
  | .arming .arm => flagByte true false false false x.deferred false false
  | .arming (.reArm prior) => flagByte true true true (prior == .differs) x.deferred false false
  | .disarmed => flagByte false false false false x.deferred false false
  | .compared _ => flagByte false false false false x.deferred false false

/-- R187 WATCH, 23 bytes. -/
def Watch.bytes (x : Watch) : List Byte :=
  [flagByte (x.action == .trip) (present x.settleGroup) (Base.bit x.settleBase) x.reportRestore false false false,
    byteOf x.tripGroup.val, byteOf ((x.settleGroup.getD 0).val), byteOf x.settleLength] ++ split3 (x.addr.setWidth 24) ++
    split4 x.reference ++ split4 x.compareMask ++ [x.state.code, x.probe.code, x.armingByte, byteOf x.marks] ++ split4 x.shadow

/-- R187 TIMEBASE, 12 bytes. -/
def TimeBase.bytes (t : TimeBase) : List Byte :=
  split2Nat t.divider ++ split2Nat t.period ++
    [flagByte t.bLock false false false false false false,
     flagByte t.running (present t.pendingPeriod) false false false false false] ++
    split2Nat t.count ++ split2 t.periodIndex ++ split2Nat (t.pendingPeriod.getD 0)

def ReleaseLine.bytes (l : ReleaseLine) : List Byte := [l.edge.code, byteOf l.qual]

def FaultLine.bytes (l : FaultLine) : List Byte := [if l.activeHigh then 0 else 1, byteOf l.qual]

/-- R187 LINES, 14 bytes, with the qualified levels and the fault lines' activity. -/
def State.linesBytes (s : State) : List Byte :=
  s.releaseLines[0].bytes ++ s.releaseLines[1].bytes ++ s.releaseLines[2].bytes ++ s.releaseLines[3].bytes ++
    s.faultLines[0].bytes ++ s.faultLines[1].bytes ++
    [flagByte s.releaseLines[0].level s.releaseLines[1].level s.releaseLines[2].level s.releaseLines[3].level false false false,
     flagByte s.faultLines[0].level s.faultLines[1].level (s.lineActive 0) (s.lineActive 1) false false false]

/-! ### The status record (11.6) -/

def batchSeq (b : Option Batch) : Seq := (b.map (·.seq)).getD 0

/-- 11.6, 37 bytes. -/
def Group.statusBytes (gr : Group) : List Byte :=
  [gr.state.code,
   flagByte (present gr.opened) (present gr.other) gr.sealPending gr.safeIncomplete gr.refusalReported (present gr.first)
     (present gr.retirement.lastSeq)] ++
    split2 (batchSeq gr.opened) ++ split2Nat (entryCount gr.opened) ++
    [(gr.other.map (·.state.code)).getD 0] ++ split2 (batchSeq gr.other) ++ split2Nat (entryCount gr.other) ++
    split2 gr.nextSeq ++ [byteOf gr.consecutive, gr.causes.setWidth 8,
      (gr.first.map (·.cause.code)).getD 0, byteOf ((gr.first.bind (·.watch)).getD 0).val] ++
    split2Nat gr.misses ++ split2Nat gr.overruns ++ split2Nat gr.refused ++ split2Nat gr.trips ++ split2Nat gr.drainErrors ++
    split2 (gr.retirement.lastSeq.getD 0) ++ split2Nat gr.retirement.entries ++ split2Nat gr.retirement.errors ++
    split2Nat gr.retirement.stampCount ++ split2 gr.retirement.stampIndex

/-! ### Event records (R169, 9.2, 11.7) -/

/-- R169: the group or watch a record concerns. -/
def EventBody.index : EventBody → Nat
  | .batchRetired g _ _ _ => g.val
  | .releaseMissed g _ _ => g.val
  | .releaseOverrun g _ _ _ => g.val
  | .writeRefused g _ _ => g.val
  | .faultTripped g _ _ => g.val
  | .safeApplied g _ _ => g.val
  | .faultCleared g _ _ _ => g.val
  | .groupStopped g _ => g.val
  | .watchArmed w _ _ => w.val
  | .watchArmFailed w _ => w.val
  | .watchMismatch w _ => w.val
  | .watchRestored w => w.val
  | .partReset _ => 0

/-- 9.2: the sequence, for the kinds that name one. -/
def EventBody.sequence : EventBody → Option Seq
  | .batchRetired _ q _ _ => some q
  | .releaseMissed _ q _ => some q
  | .releaseOverrun _ q _ _ => some q
  | .faultCleared _ q _ _ => some q
  | .writeRefused _ _ _ => none
  | .faultTripped _ _ _ => none
  | .safeApplied _ _ _ => none
  | .groupStopped _ _ => none
  | .watchArmed _ _ _ => none
  | .watchArmFailed _ _ => none
  | .watchMismatch _ _ => none
  | .watchRestored _ => none
  | .partReset _ => none

/-- 9.2, 11.7: the cause byte, for the kinds and cases that carry one. -/
def EventBody.causeByte : EventBody → Option Byte
  | .batchRetired _ _ c _ => c.map (·.code)
  | .releaseMissed _ _ _ => none
  | .releaseOverrun _ _ st _ => some st.code
  | .writeRefused _ c _ => some c.code
  | .faultTripped _ c _ => some c.code
  | .safeApplied _ failed _ => if failed = 0 then none else some (byteOf failed)
  | .faultCleared _ _ c _ => some c.code
  | .groupStopped _ o => some o.code
  | .watchArmed _ f _ => some f.code
  | .watchArmFailed _ _ => none
  | .watchMismatch _ c => some c.code
  | .watchRestored _ => none
  | .partReset _ => none

/-- 9.2: the detail. -/
def EventBody.detail : EventBody → Nat
  | .batchRetired _ _ _ e => e
  | .releaseMissed _ _ n => n
  | .releaseOverrun _ _ _ n => n
  | .writeRefused _ _ i => i.toNat
  | .faultTripped _ _ d => d
  | .safeApplied _ _ w => w
  | .faultCleared _ _ _ forced => forced.toNat
  | .groupStopped _ _ => 0
  | .watchArmed _ _ r => r.toNat
  | .watchArmFailed _ r => r.toNat
  | .watchMismatch _ _ => 0
  | .watchRestored _ => 0
  | .partReset n => n

/-- 11.7, 13 bytes. -/
def EventRecord.bytes (r : EventRecord) : List Byte :=
  [byteOf r.body.kindCode, byteOf r.body.index,
   flagByte (present r.body.sequence) (present r.body.causeByte) false false false false false] ++
    split2 (r.body.sequence.getD 0) ++ [r.body.causeByte.getD 0] ++ split2Nat r.body.detail ++
    split2Nat r.stampCount ++ split2 r.stampIndex ++ [byteOf r.lost]

/-! ### Replies (R151, R186) -/

/-- R151, R186: a reply's bytes: status with the notice mark in bit 7, echo, length, data, CRC. -/
def replyBytes (notice : Bool) (status : Status) (echo : Byte) (data : List Byte) : List Byte :=
  let covered := (if notice then statusCode status ||| 0x80#8 else statusCode status) :: echo :: byteOf data.length :: data
  covered ++ [crc covered]

/-- R151: the result slot's reply. -/
def State.slotReply (s : State) : List Byte :=
  replyBytes false s.link.result.status s.link.result.echo s.link.result.data

/-- R158, 11.4: the link-status reply. -/
def State.linkReply (s : State) : List Byte :=
  replyBytes false .ok 0x00#8
    [if s.link.pending.isSome then 1 else 0, (s.link.pending.map (·.code)).getD 0, byteOf s.events.records.length,
     if s.attention then 1 else 0]

/-- R151: the reply fixed at a frame's start by the reply choice; NOTICE is chosen only with a notice present
(DESIGN CHOICE, notes/assumptions/26.md). -/
def State.chosenReply (s : State) : List Byte :=
  match s.link.choice, s.link.notice with
  | .slot, _ => s.slotReply
  | .link, _ => s.linkReply
  | .notice, some n => replyBytes true n.status n.echo []
  | .notice, none => s.slotReply

/-- R148, R151, R168: what MDO carries in a frame: the reply, then 0x00 for every further byte; nothing (high impedance) outside one
and while RESET_N is asserted. In what is left of a frame that a reset has dropped it carries 0x00 (DESIGN CHOICE,
notes/assumptions/29.md). -/
def State.mdoByte (s : State) (n : Nat) : Option Byte :=
  if s.inReset then none else s.link.frame.map (fun f => f.reply.getD n 0)

/-! ### The upstream link's outputs (R183) -/

/-- R183: the output signals of the upstream link in the cycle of the last command (DESIGN CHOICE, notes/assumptions/18.md); `none`
where the manual gives a signal no value: UQ_AWAYCODE without UQ_AWAY, the response group without US_VALID. -/
structure UpstreamFace where
  taken : Bool
  away : Bool
  awayCode : Option (BitVec 1)
  valid : Bool
  init : Option (BitVec 2)
  tag : Option (BitVec 2)
  code : Option (BitVec 3)
  cause : Option (BitVec 3)
  data : Option Word
  deriving DecidableEq, Repr

/-- R183: UQ_AWAYCODE, 0 for TAG_BUSY and 1 for RESETTING. -/
def Indication.awayCode : Indication → Option (BitVec 1)
  | .awayResetting => some 1
  | .awayTagBusy => some 0
  | .taken => none
  | .idle => none

/-- R183: what the upstream link shows. -/
def State.upstreamFace (s : State) : UpstreamFace :=
  let i := s.upstream.indication
  let r := s.upstream.issued
  { taken := i == .taken
    away := i == .awayTagBusy || i == .awayResetting
    awayCode := i.awayCode
    valid := r.isSome
    init := r.map (·.init)
    tag := r.map (·.tag)
    code := r.map (·.response.code)
    cause := r.map (·.response.cause)
    data := r.map (·.response.word) }

/-- 11.8: ATTN_N, low while the event queue holds a record. -/
def State.attnN (s : State) : Bool := !s.attention

end Sys2Proof.Machine
end

