-- ==== Sys2Proof/Machine/Batches.lean ====
section
/-! DEFINITION. Batches and the staging pool (chapter 3): opening, queuing, sealing and discarding a batch, the seal request, the
staging of an owner write, and the snapshot of a word. -/

namespace Sys2Proof.Machine

/-! ### Opening and queuing -/

/-- R34, R46: a new empty OPEN batch takes the group's next sequence. -/
def Group.openBatch (gr : Group) : Group :=
  { gr with
    opened := some { seq := gr.nextSeq, state := .opened, entries := [], sealCause := none, errorsSeen := 0 }
    nextSeq := gr.nextSeq + 1 }

/-- R34: entry to ACTIVE sets consecutive misses to 0 and opens a batch. -/
def Group.enterActive (gr : Group) : Group := Group.openBatch { gr with state := .active, consecutive := 0 }

/-- R78, R83: the group's SEALED batch enters QUEUED and joins the release queue at its tail. -/
def State.queueOther (s : State) (g : Fin 8) : State :=
  match (s.group g).other with
  | some b =>
    (s.setGroup g { s.group g with other := some { b with state := .queued } }).setReleaseQueue
      (s.releaseQueue ++ [.batch g b.seq])
  | none => s

/-! ### Sealing -/

/-- R54: the batch closes with its cause and errors seen 0. -/
def Batch.close (b : Batch) (cause : SealCause) : Batch :=
  { b with state := .closed, sealCause := some cause, errorsSeen := 0 }

/-- R54: seals the group's OPEN batch. An ACTIVE group opens the next one and queues the sealed batch at once under trigger
IMMEDIATE; a group that is STOPPING opens none and queues it at once. -/
def State.sealOpen (s : State) (g : Fin 8) (cause : SealCause) : State :=
  let gr := s.group g
  match gr.opened with
  | none => s
  | some b =>
    if gr.state = .active then
      let s := s.setGroup g (Group.openBatch { gr with opened := none, other := some (b.close cause) })
      if gr.config.trigger = .immediate then s.queueOther g else s
    else (s.setGroup g { gr with opened := none, other := some (b.close cause) }).queueOther g

/-- R53: what a seal request did. -/
inductive SealEffect where
  | closed (seq : Seq)
  | pendingSet (seq : Seq)
  | alreadyPending (seq : Seq)
  | badState
  deriving DecidableEq, Repr

/-- R53: a seal request, from the SEAL command or an accepted seal-word write. -/
def State.sealRequest (s : State) (g : Fin 8) (cause : SealCause) : State × SealEffect :=
  let gr := s.group g
  match gr.state, gr.opened with
  | .active, some b =>
    if gr.other.isNone then (s.sealOpen g cause, .closed b.seq)
    else if gr.sealPending then (s, .alreadyPending b.seq)
    else (s.setGroup g { gr with sealPending := true }, .pendingSet b.seq)
  | .stopping, some b => if gr.sealPending then (s, .alreadyPending b.seq) else (s, .badState)
  | _, _ => (s, .badState)

/-! ### Discards -/

/-- R60: the entries of the batches that a trip, a DISCARD or a soft reset discards: the OPEN one, and a SEALED or QUEUED one. -/
def Group.discardable (gr : Group) : Nat :=
  entryCount gr.opened + (if gr.draining then 0 else entryCount gr.other)

/-- R60 on the group's own record; seal pending is cleared by every event that discards (R35, R65, R115). -/
def Group.discard (gr : Group) : Group :=
  { gr with
    opened := none
    other := if gr.draining then gr.other else none
    held := gr.held - gr.discardable
    sealPending := false }

/-- R60: discards the group's OPEN batch and its SEALED or QUEUED batch; slots return to the free list, a queued item leaves the
release queue and those behind it close up. A DRAINING batch is kept. -/
def State.discardBatches (s : State) (g : Fin 8) : State :=
  { s with
    groups := s.groups.set g (s.group g).discard
    freeSlots := s.freeSlots + (s.group g).discardable
    releaseQueue := s.releaseQueue.filter (fun it => !it.isBatchOf g) }

/-! ### Staging an owner write -/

/-- R9, R57: the group controller's answer to a staging request. -/
inductive StageAnswer where
  | accepted (response : Response)
  | refused (cause : RefusalCause)
  deriving DecidableEq, Repr

/-- R49: the write merged into the entry it coalesces with. -/
def Entry.coalesce (e : Entry) (data : Word) (mask : Mask) : Entry :=
  { e with data := mergeLanes mask e.data data, mask := e.mask ||| mask }

/-- R49: the OPEN batch with the word's entry coalesced. -/
def Batch.coalesce (b : Batch) (a : WordAddr) (data : Word) (mask : Mask) : Batch :=
  { b with entries := b.entries.map (fun e => if e.addr = a then e.coalesce data mask else e) }

/-- R48: the OPEN batch with a new entry at its tail; in an OPEN batch every entry that joined is still there, so the entry's
position is the list's length. -/
def Batch.append (b : Batch) (a : WordAddr) (data : Word) (mask : Mask) : Batch :=
  { b with entries := b.entries ++ [{ addr := a, data := data, mask := mask, position := b.entries.length }] }

/-- R47: the staging decision; `none` accepts, with the new state of the pool and the OPEN batch. -/
def State.stageEntry (s : State) (g : Fin 8) (b : Batch) (a : WordAddr) (data : Word) (mask : Mask) :
    State × Option RefusalCause :=
  let gr := s.group g
  if mask = 0#4 then (s, none)
  else if (b.entryFor a).isSome then (s.setGroup g { gr with opened := some (b.coalesce a data mask) }, none)
  else if gr.config.quota ≤ gr.held then (s, some .quota)
  else if s.freeSlots = 0 then (s, some .poolFull)
  else
    ((s.setGroup g { gr with opened := some (b.append a data mask), held := gr.held + 1 }).setFreeSlots (s.freeSlots - 1), none)

/-- R57: the response to an accepted seal-word write. -/
def SealEffect.response : SealEffect → Response
  | .closed _ => .stagedSealed
  | .pendingSet _ => .stagedSealPending
  | .alreadyPending _ => .stagedSealPending
  | .badState => .staged

/-- R47, R57: a staging request; an accepted write to the seal word then makes its seal request in the same step. -/
def State.stage (s : State) (g : Fin 8) (a : WordAddr) (data : Word) (mask : Mask) (sealWord : Bool) : State × StageAnswer :=
  match (s.group g).opened with
  | none => (s, .accepted .staged)
  | some b =>
    match s.stageEntry g b a data mask with
    | (s, some cause) => (s, .refused cause)
    | (s, none) =>
      if sealWord then
        let r := s.sealRequest g .sealWord
        (r.1, .accepted r.2.response)
      else (s, .accepted .staged)

/-! ### Snapshots -/

/-- The entry of an optional batch for a word. -/
def entryOf (b : Option Batch) (a : WordAddr) : Option Entry := b.bind (fun b => b.entryFor a)

/-- The lanes an entry covers; no entry covers none. -/
def coveredLanes : Option Entry → Mask
  | some e => e.mask
  | none => 0#4

/-- The bytes an entry gives over those below it. -/
def overlay (e : Option Entry) (below : Word) : Word :=
  match e with
  | some e => mergeLanes e.mask below e.data
  | none => below

/-- R62: lane by lane, the OPEN batch's byte, else the other batch's byte not yet written, else uncovered. -/
def State.snapshot (s : State) (g : Fin 8) (a : WordAddr) : Snapshot :=
  let gr := s.group g
  { value := overlay (entryOf gr.opened a) (overlay (entryOf gr.other a) 0#32)
    covered := coveredLanes (entryOf gr.opened a) ||| coveredLanes (entryOf gr.other a) }

end Sys2Proof.Machine
end

