-- ==== Sys2Proof/Machine/Faults.lean ====
section
/-! DEFINITION. Trips and clearings (chapter 6): what a trip source does to a group by its state, the first trip with its discards,
safe job and record, the second fault, the clearing, and a fault line that becomes active. This is the block's one shared way
into fault handling (every trip source goes through `State.tripSource`), with the way back beside it. -/

namespace Sys2Proof.Machine

/-- R110: a trip source, with what its FAULT_TRIPPED detail needs (R117). -/
inductive TripSource where
  | line (n : Fin 2)
  | watch (w : Fin 12)
  | pool (held : Nat)
  | missLimit (consecutive : Nat)
  | drainError (errors : Nat)
  | forced
  deriving DecidableEq, Repr

/-- R110: the source's cause. -/
def TripSource.cause : TripSource → FaultCause
  | .line n => if n = 0 then .line0 else .line1
  | .watch _ => .watch
  | .pool _ => .pool
  | .missLimit _ => .missLimit
  | .drainError _ => .drainError
  | .forced => .forced

/-- R117: the detail of the FAULT_TRIPPED record. -/
def TripSource.detail : TripSource → Nat
  | .line _ => 0
  | .watch w => w.val
  | .pool h => h
  | .missLimit n => n
  | .drainError e => e
  | .forced => 0

/-- R114: the first fault cause, with the watch number for WATCH. -/
def TripSource.firstFault (t : TripSource) : FirstFault :=
  match t with
  | .watch w => { cause := .watch, watch := some w }
  | _ => { cause := t.cause, watch := none }

/-- 11.6 byte 14: the bit of a cause in the cause set. -/
def FaultCause.bit : FaultCause → BitVec 7
  | .line0 => 0x01#7
  | .line1 => 0x02#7
  | .watch => 0x04#7
  | .pool => 0x08#7
  | .missLimit => 0x10#7
  | .drainError => 0x20#7
  | .forced => 0x40#7

/-- R114: what the first trip writes in the group's own record, after the discards of R115. -/
def Group.firstTrip (gr : Group) (t : TripSource) : Group :=
  { gr.discard with
    state := .safing
    causes := t.cause.bit
    first := some t.firstFault
    safeIncomplete := false
    trips := bump gr.trips }

/-- R116: the safe job joins directly behind the last safe job, or at the head. -/
def joinSafe (q : List Item) (g : Fin 8) : List Item :=
  q.takeWhile (·.isSafe) ++ .safe g :: q.dropWhile (·.isSafe)

/-- R114 to R117: the first trip, in one step. -/
def State.firstTrip (s : State) (g : Fin 8) (t : TripSource) : State :=
  let s' := s.discardBatches g
  State.submit
    { s' with
      groups := s'.groups.set g ((s.group g).firstTrip t)
      releaseQueue := joinSafe s'.releaseQueue g }
    (.faultTripped g t.cause t.detail)

/-- R118: a second fault adds its cause and counts. -/
def State.secondFault (s : State) (g : Fin 8) (t : TripSource) : State :=
  s.setGroup g { s.group g with causes := (s.group g).causes ||| t.cause.bit, trips := bump (s.group g).trips }

/-- R112: a trip source decided by the group's state; none is taken while a soft reset is in progress (R38). -/
def State.tripSource (s : State) (g : Fin 8) (t : TripSource) : State :=
  if s.softResetting then s
  else match (s.group g).state with
    | .off => s
    | .active => s.firstTrip g t
    | .stopping => s.firstTrip g t
    | .safing => s.secondFault g t
    | .faulted => s.secondFault g t

/-- R125: clears a FAULTED group: causes emptied, ACTIVE with a new OPEN batch, FAULT_CLEARED with its sequence (R170). -/
def State.clearGroup (s : State) (g : Fin 8) (cause : ClearCause) (forced : Bool) : State :=
  (s.setGroup g (Group.enterActive { s.group g with causes := 0, first := none, safeIncomplete := false })).submit
    (.faultCleared g (s.group g).nextSeq cause forced)

/-- R108: fault line `n` becomes active: a report to every group that enables it, in increasing order of number (R83 for the safe
jobs; for the event records DESIGN CHOICE, notes/assumptions/32.md). -/
def State.lineBecomesActive (s : State) (n : Fin 2) : State :=
  groupNumbers.foldl (fun s g => if (s.group g).config.lineEnabled n then s.tripSource g (.line n) else s) s

/-- R108: replaces a fault line's record; if the line passes from inactive to active, it becomes active. -/
def State.changeFaultLine (s : State) (n : Fin 2) (l : FaultLine) : State :=
  let before := s.lineActive n
  let s := s.setFaultLine n l
  if !before && l.active then s.lineBecomesActive n else s

end Sys2Proof.Machine
end

