-- ==== Sys2Proof/Machine/Watches.lean ====
section
/-! DEFINITION. The watch unit (chapter 7): comparing a shadow, reporting and deferring a mismatch, following landed writes, the
results of probes, settle windows, arming and disarming. -/

namespace Sys2Proof.Machine

/-- R130: the bits the compare mask selects have the same value in the word as in the reference. -/
def Watch.compare (w : Watch) (x : Word) : Found :=
  if x &&& w.compareMask = w.reference &&& w.compareMask then .agrees else .differs

/-- R141, R143, R145: WATCH_MISMATCH, then the trip source of a TRIP watch. -/
def State.reportMismatch (s : State) (w : Fin 12) (cause : MismatchCause) : State :=
  let s' := s.submit (.watchMismatch w cause)
  if (s.watch w).action = .trip then s'.tripSource (s.watch w).tripGroup (.watch w) else s'

/-- R141: a transition from MATCH to MISMATCH by a write or a re-arm: reported at once, or deferred while a settle window is
open. -/
def State.toMismatch (s : State) (w : Fin 12) : State :=
  let x := s.watch w
  if x.marks = 0 then (s.setWatch w { x with state := .compared .differs }).reportMismatch w .write
  else s.setWatch w { x with state := .compared .differs, deferred := true }

/-- R142: a return to MATCH: a deferred mismatch is dropped with its flag, else WATCH_RESTORED where report restore is yes. -/
def State.toMatch (s : State) (w : Fin 12) : State :=
  let x := s.watch w
  let s' := s.setWatch w { x with state := .compared .agrees, deferred := false }
  if x.deferred then s'
  else if x.reportRestore then s'.submit (.watchRestored w)
  else s'

/-- R145: the deferred mismatch is reported with cause SETTLE_END and its flag cleared. -/
def State.settleReport (s : State) (w : Fin 12) : State :=
  (s.setWatch w { s.watch w with deferred := false }).reportMismatch w .settleEnd

/-- R137: the watch's shadow and reference compared, against what it last found. -/
def State.transition (s : State) (w : Fin 12) (before after : Found) : State :=
  match before, after with
  | .agrees, .agrees => s
  | .agrees, .differs => s.toMismatch w
  | .differs, .differs => s
  | .differs, .agrees => s.toMatch w

/-- R104: a probe raised at the tail of the service list. -/
def State.raiseProbe (s : State) (w : Fin 12) : State := s.setPort { s.port with service := s.port.service ++ [.probe w] }

/-! ### Safe jobs of one event (R83) -/

/-- The safe jobs of `before` stay where they are; the others take the groups of `gs`, in that order. -/
def fillSafe (before : List Item) : List (Fin 8) → List Item → List Item
  | _, [] => []
  | [], q => q
  | g :: gs, it :: q =>
    if it.isSafe && !before.contains it then .safe g :: fillSafe before gs q else it :: fillSafe before (g :: gs) q

/-- R83: the safe jobs that have joined since `before` stand in increasing order of group number. -/
def inGroupOrder (before q : List Item) : List Item :=
  fillSafe before (groupNumbers.filter (fun g => q.contains (.safe g) && !before.contains (.safe g))) q

/-- R83, R140: one event dealt with at every watch in increasing order of number; each trip source follows its watch's own record, and
the safe jobs that several trips queue join the release queue in increasing order of group number. -/
def State.eachWatch (s : State) (f : State → Fin 12 → State) : State :=
  let s' := watchNumbers.foldl f s
  s'.setReleaseQueue (inGroupOrder s.releaseQueue s'.releaseQueue)

/-- R137: a landed write the memory took updates the shadow and is compared. -/
def State.shadowWrite (s : State) (w : Fin 12) (data : Word) (mask : Mask) (before : Found) : State :=
  let x := s.watch w
  let shadow := mergeLanes mask x.shadow data
  (s.setWatch w { x with shadow := shadow }).transition w before (x.compare shadow)

/-- R138: a failed write re-arms the watch. -/
def State.reArm (s : State) (w : Fin 12) (prior : Found) : State :=
  (s.setWatch w { s.watch w with state := .arming (.reArm prior), probe := .raised }).raiseProbe w

/-- R137, R138: one landed-write report at one watch. -/
def State.landedAt (addr : WordAddr) (data : Word) (mask : Mask) (error : Bool) (s : State) (w : Fin 12) : State :=
  match (s.watch w).state with
  | .compared found =>
    if (s.watch w).addr = addr then (if error then s.reArm w found else s.shadowWrite w data mask found) else s
  | .disarmed => s
  | .arming _ => s

/-- R140, R83: one landed-write report, dealt with at every watch. -/
def State.landedWrite (s : State) (addr : WordAddr) (data : Word) (mask : Mask) (error : Bool) : State :=
  s.eachWatch (State.landedAt addr data mask error)

/-! ### Probe results -/

/-- R134: the first probe of an arming has read the word. -/
def State.armed (s : State) (w : Fin 12) (word : Word) : State :=
  let x := s.watch w
  let found := x.compare word
  (s.setWatch w { x with shadow := word, state := .compared found, probe := .none }).submit (.watchArmed w found false)

/-- R139: what follows WATCH_ARMED of a re-arm. -/
def State.reArmed (s : State) (w : Fin 12) (word : Word) (prior : Found) : State :=
  let x := s.watch w
  let found := x.compare word
  let s' := (s.setWatch w { x with shadow := word, state := .compared found, probe := .none }).submit (.watchArmed w found true)
  match prior, found with
  | .differs, .differs =>
    if x.deferred && x.marks == 0 then s'.settleReport w else s'
  | .agrees, .agrees => s'
  | .agrees, .differs => s'.transition w .agrees .differs
  | .differs, .agrees => s'.transition w .differs .agrees

/-- R136: the run state of a disarmed watch, whose probe field is dealt with beside it. -/
def Watch.disarm (x : Watch) : Watch := { x with state := .disarmed, deferred := false, marks := 0 }

/-- R135: a failed probe disarms the watch. -/
def State.armFailed (s : State) (w : Fin 12) (reArm : Bool) : State :=
  (s.setWatch w { (s.watch w).disarm with probe := .none }).submit (.watchArmFailed w reArm)

/-- R134, R135, R136, R139: a probe's result; one that reaches a watch whose probe is not IN_FLIGHT is discarded. -/
def State.probeResult (s : State) (w : Fin 12) (error : Bool) (word : Word) : State :=
  let x := s.watch w
  match x.probe, x.state with
  | .inFlight, .arming .arm => if error then s.armFailed w false else s.armed w word
  | .inFlight, .arming (.reArm prior) => if error then s.armFailed w true else s.reArmed w word prior
  | .inFlight, .disarmed => s.setWatch w { x with probe := .none }
  | .inFlight, .compared _ => s.setWatch w { x with probe := .none }
  | .orphaned, _ => s.setWatch w { x with probe := .none }
  | .raised, _ => s
  | .none, _ => s

/-! ### Settle windows -/

/-- R144: a retirement of the settle group opens or restarts the window of a watch that is not DISARMED. -/
def Watch.openWindow (x : Watch) (g : Fin 8) : Watch :=
  if x.settleGroup = some g && x.state != .disarmed && x.settleLength != 0 then { x with marks := x.settleLength } else x

/-- R144: the retirement reported to every watch. -/
def State.openWindows (s : State) (g : Fin 8) : State :=
  watchNumbers.foldl (fun s w => s.setWatch w ((s.watch w).openWindow g)) s

/-- R145: the window has ended: a MISMATCH held back is reported. -/
def State.windowEnd (s : State) (w : Fin 12) : State :=
  if (s.watch w).state = .compared .differs && (s.watch w).deferred then s.settleReport w else s

/-- R145: one period mark at one watch with an open window. -/
def State.settleMarkAt (s : State) (w : Fin 12) : State :=
  let x := s.watch w
  let s' := s.setWatch w { x with marks := x.marks - 1 }
  if x.marks = 1 then s'.windowEnd w else s'

/-- R145, R83: a period mark of a base reaches every watch with that settle base and an open window. -/
def State.settleMarks (s : State) (b : Base) : State :=
  s.eachWatch (fun s w => if (s.watch w).settleBase = b && (s.watch w).marks != 0 then s.settleMarkAt w else s)

/-! ### Arming and disarming -/

/-- R133: ARMING with origin ARM, and a probe at the tail of the service list. -/
def State.armWatch (s : State) (w : Fin 12) : State :=
  (s.setWatch w { s.watch w with state := .arming .arm, probe := .raised, deferred := false, marks := 0 }).raiseProbe w

/-- R136: the probe field at DISARM. -/
def Probe.afterDisarm : Probe → Probe
  | .none => .none
  | .raised => .none
  | .inFlight => .orphaned
  | .orphaned => .orphaned

/-- R104, R136: a raised probe is withdrawn from the service list. -/
def State.withdrawProbe (s : State) (w : Fin 12) : State :=
  s.setPort { s.port with service := s.port.service.filter (fun r => r != .probe w) }

/-- R136: the watch is disarmed; a raised probe is withdrawn, one in flight is orphaned. -/
def State.disarmWatch (s : State) (w : Fin 12) : State :=
  let x := s.watch w
  let s' := s.setWatch w { x.disarm with probe := x.probe.afterDisarm }
  if x.probe = .raised then s'.withdrawProbe w else s'

/-- R143: the new reference and compare mask, and the watch evaluated against them at once; a transition is reported with cause
REFERENCE and never deferred. -/
def State.setReference (s : State) (w : Fin 12) (reference compareMask : Word) : State :=
  let x := { s.watch w with reference := reference, compareMask := compareMask }
  let s' := s.setWatch w x
  match x.state with
  | .compared .agrees =>
    if x.compare x.shadow = .differs then
      (s'.setWatch w { x with state := .compared .differs }).reportMismatch w .reference
    else s'
  | .compared .differs => if x.compare x.shadow = .agrees then s'.toMatch w else s'
  | .disarmed => s'
  | .arming _ => s'

end Sys2Proof.Machine
end

