-- ==== Sys2Proof/Machine/Release.lean ====
section
/-! DEFINITION. The release scheduler (chapter 4): release points and what they do, candidates and skip, ticks and period marks of
the two time bases with B's locked restart, and the qualification of release and fault lines. -/

namespace Sys2Proof.Machine

/-! ### Release points -/

/-- R82: what a release point did. -/
inductive ReleaseOutcome where
  | queued (seq : Seq)
  | missed (seq : Seq) (consecutive : Nat)
  | overrun (seq : Seq) (state : BatchState)
  | cleared
  | notCleared
  | ignored
  deriving DecidableEq, Repr

/-- R79: a miss: counters, RELEASE_MISSED, then the MISS_LIMIT trip source where the limit is reached. -/
def State.miss (s : State) (g : Fin 8) : State × ReleaseOutcome :=
  let gr := s.group g
  let n := satInc Config.missesMax gr.consecutive
  let seq := (gr.opened.map (·.seq)).getD 0
  let s := (s.setGroup g { gr with misses := bump gr.misses, consecutive := n }).submit (.releaseMissed g seq n)
  (if gr.config.missLimit ≠ 0 ∧ n = gr.config.missLimit then s.tripSource g (.missLimit n) else s, .missed seq n)

/-- R80: an overrun. -/
def State.overrun (s : State) (g : Fin 8) (b : Batch) : State × ReleaseOutcome :=
  let gr := s.group g
  ((s.setGroup g { gr with overruns := bump gr.overruns }).submit (.releaseOverrun g b.seq b.state (bump gr.overruns)),
   .overrun b.seq b.state)

/-- R78: the SEALED batch is queued and consecutive misses set to 0. -/
def State.queueSealed (s : State) (g : Fin 8) (b : Batch) : State × ReleaseOutcome :=
  ((s.setGroup g { s.group g with consecutive := 0 }).queueOther g, .queued b.seq)

/-- R127: whether a release point clears the FAULTED group: clear mode AUTO, no active source, safe-incomplete clear. -/
def State.autoClears (s : State) (g : Fin 8) : Bool :=
  (s.group g).config.clearMode == .auto && !s.activeSource g && !(s.group g).safeIncomplete

/-- R77: a release point of the group, by the group's state and other batch; none is taken during a soft reset (R38). -/
def State.releasePoint (s : State) (g : Fin 8) : State × ReleaseOutcome :=
  if s.softResetting then (s, .ignored)
  else match (s.group g).state with
    | .active =>
      match (s.group g).other with
      | none => s.miss g
      | some b => if b.state = .closed then s.queueSealed g b else s.overrun g b
    | .faulted => if s.autoClears g then (s.clearGroup g .auto false, .cleared) else (s, .notCleared)
    | .off => (s, .ignored)
    | .stopping => (s, .ignored)
    | .safing => (s, .ignored)

/-- R76: a candidate is passed over by the group's state or by skip, or is a release point. -/
def State.candidate (s : State) (g : Fin 8) : State :=
  let gr := s.group g
  match gr.state with
  | .off => s
  | .stopping => s
  | .safing => s
  | .active =>
    if gr.skipRemaining = 0 then ((s.setGroup g { gr with skipRemaining := gr.config.skip }).releasePoint g).1
    else s.setGroup g { gr with skipRemaining := gr.skipRemaining - 1 }
  | .faulted =>
    if gr.skipRemaining = 0 then ((s.setGroup g { gr with skipRemaining := gr.config.skip }).releasePoint g).1
    else s.setGroup g { gr with skipRemaining := gr.skipRemaining - 1 }

/-! ### Time bases -/

/-- R75: the group is TIMED on the base and its phase is the base's count. -/
def State.phaseMatch (s : State) (b : Base) (g : Fin 8) : Bool :=
  (s.group g).config.trigger == .timed && (s.group g).config.base == b && (s.group g).config.phase == (s.base b).count

/-- R75: the count has changed: each phase match is a candidate, in increasing order of group (R83 for the items that join the
release queue; for the event records DESIGN CHOICE, notes/assumptions/32.md). -/
def State.phaseMatches (s : State) (b : Base) : State :=
  groupNumbers.foldl (fun s g => if s.phaseMatch b g then s.candidate g else s) s

/-- R67, R70: the base's record at a period mark. -/
def TimeBase.marked (t : TimeBase) : TimeBase :=
  { t with
    count := 0
    periodIndex := t.periodIndex + 1
    period := t.pendingPeriod.getD t.period
    pendingPeriod := none
    interval := 0 }

/-- R67, R75, R145: a period mark of a base: its record, the phase matches of count 0, then the watches' settle marks
(DESIGN CHOICE, notes/assumptions/7.md for the order). -/
def State.ownMark (s : State) (b : Base) : State :=
  ((s.setBase b (s.base b).marked).phaseMatches b).settleMarks b

/-- R70: A's period mark restarts B where B runs locked: a period mark of B, unless B's count is 0. -/
def State.restartB (s : State) : State :=
  if s.baseB.running && s.baseB.bLock then
    if s.baseB.count = 0 then s.setBase .timeB { s.baseB with interval := 0 } else s.ownMark .timeB
  else s

/-- R67, R70: a period mark of a base, with what A's does to B. -/
def State.mark (s : State) (b : Base) : State :=
  match b with
  | .timeA => (s.ownMark .timeA).restartB
  | .timeB => s.ownMark .timeB

/-- R67: the base is RUNNING and its count is at period minus one, so that its next tick is a period mark. -/
def State.atMark (s : State) (b : Base) : Bool := (s.base b).running && (s.base b).count + 1 == (s.base b).period

/-- R67, R70: the next tick makes a period mark of the base: its own, or for B the locked restart that A's mark makes. -/
def State.markDue (s : State) (b : Base) : Bool :=
  match b with
  | .timeA => s.atMark .timeA
  | .timeB => s.atMark .timeB || (s.atMark .timeA && s.baseB.running && s.baseB.bLock && s.baseB.count != 0)

/-- R67: a tick of a running base. -/
def State.tickBase (s : State) (b : Base) : State :=
  let t := s.base b
  if t.count + 1 < t.period then (s.setBase b { t with count := t.count + 1, interval := 0 }).phaseMatches b
  else s.mark b

/-! ### Lines -/

/-- R73: the edge choice accepts an edge to this level. -/
def EdgeChoice.accepts : EdgeChoice → Bool → Bool
  | .rising, high => high
  | .falling, high => !high
  | .both, _ => true

/-- R73: a candidate for every LINE group of the line, in increasing order of group (R83 for the items that join the release queue;
for the event records DESIGN CHOICE, notes/assumptions/32.md). -/
def State.lineCandidates (s : State) (n : Fin 4) : State :=
  groupNumbers.foldl
    (fun s g =>
      if (s.group g).config.trigger = .line && (s.group g).config.releaseLine = n then s.candidate g else s) s

/-- R72: the count of consecutive cycles at the differing level after `cycles` more; `none` once it has reached the setting. -/
def qualify (qual count cycles : Nat) : Option Nat := if qual ≤ count + cycles then none else some (count + cycles)

/-- R72, R73: `cycles` part-clock cycles of a release line whose pin stands at `high`. -/
def State.sampleReleaseLine (s : State) (n : Fin 4) (high : Bool) (cycles : Nat) : State :=
  let l := { s.releaseLines[n] with pin := high }
  if cycles = 0 then s.setReleaseLine n l
  else if high = l.level then s.setReleaseLine n { l with count := 0 }
  else match qualify l.qual l.count cycles with
    | some c => s.setReleaseLine n { l with count := c }
    | none =>
      let s := s.setReleaseLine n { l with level := high, count := 0 }
      if l.edge.accepts high then s.lineCandidates n else s

/-- R107, R108: `cycles` part-clock cycles of a fault line whose pin stands at `high`. -/
def State.sampleFaultLine (s : State) (n : Fin 2) (high : Bool) (cycles : Nat) : State :=
  let l := { s.faultLines[n] with pin := high }
  if cycles = 0 then s.setFaultLine n l
  else if high = l.level then s.setFaultLine n { l with count := 0 }
  else match qualify l.qual l.count cycles with
    | some c => s.setFaultLine n { l with count := c }
    | none => s.changeFaultLine n { l with level := high, count := 0 }

/-! ### The part clock (DESIGN CHOICE, notes/assumptions/5.md) -/

/-- R67: a cycle passes in a running base's tick interval. -/
def TimeBase.cycle (t : TimeBase) : TimeBase := if t.running then { t with interval := t.interval + 1 } else t

/-- R67: a tick is due when a divider's worth of cycles has passed. -/
def TimeBase.tickDue (t : TimeBase) : Bool := t.running && decide (t.divider ≤ t.interval)

/-- R67: the tick that is due, if one is. -/
def State.tickIfDue (s : State) (b : Base) : State := if (s.base b).tickDue then s.tickBase b else s

/-- R72: one cycle of one release line against its own pin. -/
def State.cycleReleaseLine (s : State) (n : Fin 4) : State := s.sampleReleaseLine n s.releaseLines[n].pin 1

/-- R107: one cycle of one fault line against its own pin. -/
def State.cycleFaultLine (s : State) (n : Fin 2) : State := s.sampleFaultLine n s.faultLines[n].pin 1

/-- One part-clock cycle: the one-cycle signals of the upstream link fall (R183); both tick intervals advance, then A's tick and
then B's where due (R67, R70: A's mark restarts B's interval, which removes B's tick); then the release lines and the fault
lines in order of number. While RESET_N is asserted nothing else than the signals moves. -/
def State.cycle (s : State) : State :=
  let s := s.newCycle
  if s.inReset then s
  else
    let s := (s.setBase .timeA s.baseA.cycle).setBase .timeB s.baseB.cycle
    let s := (s.tickIfDue .timeA).tickIfDue .timeB
    let s := [0, 1, 2, 3].foldl State.cycleReleaseLine s
    [0, 1].foldl State.cycleFaultLine s

end Sys2Proof.Machine
end

