-- ==== Sys2Proof/Machine/Upstream.lean ====
section
/-! DEFINITION. The upstream port (chapter 1): taking a request or turning it away, decode and the routes, refusals and their
reports, the hold list at an item's start and end, return clearance, and the issuing of responses. -/

namespace Sys2Proof.Machine

/-- A slot enters ANSWERING with its prepared response; its return mark is removed (R19). -/
def State.answer (s : State) (i : Fin 16) (r : Response) (performed : Bool) : State :=
  s.setSlot i { s.slot i with
    state := .answering, prepared := some { response := r, performed := performed }, returnMark := none }

/-! ### Decode (R4 to R7, R9) -/

/-- Where decode sends a request that is not held (R4, R5, R6). -/
inductive Route where
  | pass
  | forward (snap : Snapshot)
  | covered (snap : Snapshot)
  | stage (window : Window)
  | refuse (group : Fin 8) (cause : RefusalCause)
  deriving DecidableEq, Repr

/-- R5: a read by an owner with read-own-writes on. A slot that already holds a snapshot keeps it and asks for none. -/
def State.routeOwnRead (s : State) (x : Slot) (g : Fin 8) : Route :=
  match x.snapshot with
  | some _ => .pass
  | none =>
    let snap := s.snapshot g x.addr
    if snap.covered = 0x0#4 then .pass
    else if snap.covered = 0xF#4 then .covered snap
    else .forward snap

/-- R6: a write by an owner. -/
def routeOwnWrite (w : Window) : GroupState → Route
  | .off => .pass
  | .active => .stage w
  | .stopping => .refuse w.group .stopping
  | .safing => .refuse w.group .faulted
  | .faulted => .refuse w.group .faulted

/-- R6: a write by a foreign initiator. -/
def routeForeignWrite (w : Window) : Route :=
  match w.foreign with
  | .pass => .pass
  | .refuse => .refuse w.group .foreign

/-- R5, R6: a request to a window of a group that is not OFF and not held. -/
def State.routeIn (s : State) (i : Fin 16) (w : Window) : Route :=
  let x := s.slot i
  match x.kind with
  | .read => if w.owned (slotInit i) && w.readOwn then s.routeOwnRead x w.group else .pass
  | .write _ _ => if w.owned (slotInit i) then routeOwnWrite w (s.group w.group).state else routeForeignWrite w

/-- R4, cases 1, 4 and 5: the route of a slot's request, holding apart. -/
def State.route (s : State) (i : Fin 16) : Route :=
  match s.windowOf (s.slot i).addr with
  | none => .pass
  | some w => if (s.group w.group).state = .off then .pass else s.routeIn i w

/-- R4, case 3: an earlier-taken request of the same word is HELD. -/
def State.earlierHeld (s : State) (i : Fin 16) : Bool :=
  slotNumbers.any (fun j =>
    (s.slot j).state == .held && (s.slot j).addr == (s.slot i).addr && decide ((s.slot j).order < (s.slot i).order))

/-- R4, cases 2 and 3: decode holds the request. -/
def State.holds (s : State) (i : Fin 16) : Bool :=
  match s.windowOf (s.slot i).addr with
  | none => false
  | some w => s.itemCurrent w.group || s.earlierHeld i

/-- R7, R170: a refusal counts, and the first since the flag was clear submits WRITE_REFUSED. -/
def State.reportRefusal (s : State) (g : Fin 8) (cause : RefusalCause) (init : BitVec 2) : State :=
  let gr := s.group g
  let s' := s.setGroup g { gr with refused := bump gr.refused, refusalReported := true }
  if gr.refusalReported then s' else s'.submit (.writeRefused g cause init)

/-- R6, R7: a refused write is answered and reported. -/
def State.refuse (s : State) (i : Fin 16) (g : Fin 8) (cause : RefusalCause) : State :=
  (s.answer i (.refused cause) false).reportRefusal g cause (slotInit i)

/-- R9, R51: an owner write handed for staging. A refusal with overflow policy TRIP reports its POOL trip source after the
refusal's own report (DEDUCED, notes/assumptions/14.md), and the trip is applied in the same step, before any other write is
decoded (DESIGN CHOICE, notes/assumptions/27.md). -/
def State.stageSlot (s : State) (i : Fin 16) (w : Window) (data : Word) (mask : Mask) : State :=
  match s.stage w.group (s.slot i).addr data mask (w.isSealWord (s.slot i).addr) with
  | (s', .accepted r) => s'.answer i r false
  | (s', .refused cause) =>
    let s'' := s'.refuse i w.group cause
    if (s.group w.group).config.overflow = .trip then s''.tripSource w.group (.pool (s.group w.group).held) else s''

/-- The route makes a QUEUED slot, which the pass queue takes (R5, R10). -/
def Route.toMemory : Route → Bool
  | .pass => true
  | .forward _ => true
  | .covered _ => false
  | .stage _ => false
  | .refuse _ _ => false

/-- The route's effect on the slot and the group, the pass queue apart. -/
def State.follow (s : State) (i : Fin 16) (r : Route) : State :=
  let x := s.slot i
  match r with
  | .pass => s.setSlot i { x with state := .queued }
  | .forward snap => s.setSlot i { x with state := .queued, snapshot := some snap }
  | .covered snap => (s.setSlot i { x with snapshot := some snap }).answer i (.data snap.value) false
  | .stage w =>
    match x.kind with
    | .write d m => s.stageSlot i w d m
    | .read => s
  | .refuse g cause => s.refuse i g cause

/-- R4: decode at taking. -/
def State.decodeTaken (s : State) (i : Fin 16) : State :=
  if s.holds i then (s.setSlot i { s.slot i with state := .held }).setHoldList (s.upstream.holdList ++ [i])
  else
    let r := s.route i
    let s' := s.follow i r
    if r.toMemory then s'.setPassQueue (s'.upstream.passQueue ++ [i]) else s'

/-- R1: the slot of a taken request. The mask of a READ is not kept. -/
def Slot.taken (kind : ReqKind) (addr : WordAddr) (order : Nat) : Slot :=
  { state := .queued, kind := kind, addr := addr, order := order, snapshot := none, prepared := none, returnMark := none }

/-- R1: a request that is not turned away. -/
def State.takeRequest (s : State) (i : Fin 16) (kind : ReqKind) (addr : WordAddr) : State :=
  State.decodeTaken
    (((s.setIndication .taken).setSlot i (Slot.taken kind addr s.upstream.nextOrder)).setNextOrder (s.upstream.nextOrder + 1)) i

/-- R1: RESET_N is asserted, or a soft reset is in progress. -/
def State.resetting (s : State) : Bool := s.inReset || s.softResetting

/-- UPSTREAM_REQUEST (R1, R8). -/
def State.upstreamRequest (s : State) (init tag : BitVec 2) (kind : ReqKind) (addr : WordAddr) : State :=
  if s.resetting then s.setIndication .awayResetting
  else if (s.slot (slotOf init tag)).state ≠ .free then s.setIndication .awayTagBusy
  else s.takeRequest (slotOf init tag) kind addr

/-! ### Responses (R2, R12) -/

/-- R12: another slot that is not FREE has the same initiator, the same word and an earlier taking order. -/
def State.waitsBehind (s : State) (i : Fin 16) : Bool :=
  slotNumbers.any (fun j =>
    j != i && (s.slot j).state != .free && slotInit j == slotInit i && (s.slot j).addr == (s.slot i).addr &&
      decide ((s.slot j).order < (s.slot i).order))

/-- R2: an issued slot is FREE, without response, snapshot or return mark. -/
def Slot.freed (x : Slot) : Slot := { x with state := .free, snapshot := none, prepared := none, returnMark := none }

/-! ### Hold and return (R15, R18, R19) -/

/-- The slot's word lies in an enabled window of the group. -/
def State.slotIn (s : State) (g : Fin 8) (i : Fin 16) : Bool := s.wordGroup (s.slot i).addr == some g

/-- R15: at an item's start the group's queued slots move to the hold list, in their order. -/
def State.holdAtStart (s : State) (g : Fin 8) : State :=
  let moved := s.upstream.passQueue.filter (s.slotIn g)
  let s' := (s.setPassQueue (s.upstream.passQueue.filter (fun i => !s.slotIn g i))).setHoldList (s.upstream.holdList ++ moved)
  moved.foldl (fun s i => s.setSlot i { s.slot i with state := .held }) s'

/-- R18: one slot decoded again; it is not held, and it is collected where it returns to the pass queue. A POOL trip that the slot's
refusal reports is applied before the next slot is decoded (DESIGN CHOICE, notes/assumptions/27.md). -/
def reDecode (acc : State × List (Fin 16)) (i : Fin 16) : State × List (Fin 16) :=
  let r := acc.1.route i
  (acc.1.follow i r, if r.toMemory then acc.2 ++ [i] else acc.2)

/-- R18, R19: at an item's end the group's held slots leave the hold list and are decoded again in hold order; those that return
to the pass queue stand at its head, in hold order, with a return mark. That the mark replaces one that the slot still carries for
another group, whose clearance then no longer waits for it, is the model's choice (DESIGN CHOICE, notes/assumptions/33.md). -/
def State.returnHeld (s : State) (g : Fin 8) : State :=
  let released := s.upstream.holdList.filter (s.slotIn g)
  let r := released.foldl reDecode (s.setHoldList (s.upstream.holdList.filter (fun i => !s.slotIn g i)), [])
  let s' := r.1.setPassQueue (r.2 ++ r.1.upstream.passQueue)
  r.2.foldl (fun s i => s.setSlot i { s.slot i with returnMark := some g }) s'

/-- R19: no slot carries a return mark for the group. -/
def State.unmarked (s : State) (g : Fin 8) : Bool := slotNumbers.all (fun i => (s.slot i).returnMark != some g)

/-- R19, R99: return clearance is reported for a group at the first moment at which no slot carries its mark; the report clears the
group's clearance-wait flag. -/
def State.reportClearance (s : State) : State :=
  groupNumbers.foldl
    (fun s g => if s.unmarked g then s.setDrain { s.drain with clearanceWait := s.drain.clearanceWait.set g false } else s) s

/-! ### Soft reset at the upstream port (R21) -/

/-- R21: what SOFT_RESET does to one slot. -/
def Slot.softReset (x : Slot) : Slot :=
  let away := { x with
    state := .answering, snapshot := none, prepared := some { response := .error .reset, performed := false }, returnMark := none }
  match x.state with
  | .free => x
  | .performing => x
  | .queued => away
  | .held => away
  | .answering =>
    match x.prepared with
    | some p => if p.performed then x else away
    | none => away

/-- R21: every slot is treated by its state, and the pass queue and the hold list are emptied. -/
def State.softResetSlots (s : State) : State :=
  { s with upstream := { s.upstream with slots := s.upstream.slots.map Slot.softReset, passQueue := [], holdList := [] } }

/-! ### Reports of a soft reset (R166) -/

/-- R166, R21: every request-table slot is FREE. -/
def State.allFree (s : State) : Bool := slotNumbers.all (fun i => (s.slot i).state == .free)

/-- R166, R147: no probe has been granted and not yet performed. -/
def State.noProbeInPort (s : State) : Bool :=
  match s.port.current with
  | some t => match t.requester with
    | .probe _ => false
    | _ => true
  | none => true

/-- R106: the drain engine is IDLE and the port is IDLE. -/
def State.portDone (s : State) : Bool := s.drain.current.isNone && s.port.current.isNone

/-- R166: the blocks whose part of the soft reset is done at this moment report, each once. -/
def State.newReports (s : State) : BlockReports :=
  { upstream := s.link.reports.upstream || s.allFree
    drain := s.link.reports.drain || s.drain.current.isNone
    port := s.link.reports.port || s.portDone
    watches := s.link.reports.watches || s.noProbeInPort }

/-- R106: at the memory port's report the arbiter's turn returns to DRAIN and its run count to 0. -/
def State.portReport (s : State) : State :=
  if s.newReports.port && !s.link.reports.port then s.setPort { s.port with turn := .drain, run := 0 } else s

/-- R166: the block reports of a step taken during a soft reset. -/
def State.reportBlocks (s : State) : State :=
  if s.softResetting then s.portReport.setLink { s.link with reports := s.newReports } else s

/-- RESPONSE_ISSUE (R2, R12): the slot in ANSWERING issues its response where R12 allows, and becomes FREE. -/
def State.issueResponse (s : State) (init tag : BitVec 2) : State :=
  let i := slotOf init tag
  let x := s.slot i
  match x.state, x.prepared with
  | .answering, some p =>
    if s.waitsBehind i then s
    else
      State.reportBlocks
        ((s.setIssued (some { init := init, tag := tag, response := p.response })).setSlot i x.freed)
  | _, _ => s

end Sys2Proof.Machine
end

