-- ==== Sys2Proof/Machine/Drain.lean ====
section
/-! DEFINITION. The drain engine (sections 5.1 to 5.6): taking an item, its start, the writing of a batch's and a safe job's
entries, retirement, completion of a safe job, and the end report. -/

namespace Sys2Proof.Machine

/-! ### Retirement (R93 to R95) -/

/-- R94: the retirement record. -/
def State.retirementRecord (s : State) (g : Fin 8) (b : Batch) : Retirement :=
  let t := s.base (s.group g).config.stampBase
  { lastSeq := some b.seq, entries := s.drain.taken, errors := b.errorsSeen, stampCount := t.count, stampIndex := t.periodIndex }

/-- R56, R37, R38: the group controller's part of a retirement: during a soft reset the group enters OFF; else a pending seal is
made, and a STOPPING group left with no batch enters OFF and submits GROUP_STOPPED. -/
def State.followUp (s : State) (g : Fin 8) : State :=
  let gr := s.group g
  if s.softResetting then s.setGroup g { gr with state := .off }
  else if gr.sealPending then (s.setGroup g { gr with sealPending := false }).sealOpen g .pendingSeal
  else if gr.state = .stopping then (s.setGroup g { gr with state := .off }).submit (.groupStopped g gr.stopOption)
  else s

/-- R93: retirement: the record, BATCH_RETIRED, the group controller's part, the settle windows, and progress ENDING; then the
DRAIN_ERROR trip source of R95 where the policy is TRIP and writes failed. -/
def State.retire (s : State) (g : Fin 8) (b : Batch) : State :=
  let gr := s.group g
  let s := s.setGroup g { gr with retirement := s.retirementRecord g b }
  let s := s.submit (.batchRetired g b.seq b.sealCause b.errorsSeen)
  let s := (s.setGroup g { s.group g with other := none }).followUp g
  let s := s.openWindows g
  let s := s.setDrain { s.drain with progress := .ending }
  if gr.config.drainError = .trip ∧ b.errorsSeen ≠ 0 then s.tripSource g (.drainError b.errorsSeen) else s

/-- R90, R91: the write of the batch's first remaining entry has been performed. -/
def State.entryWritten (s : State) (g : Fin 8) (error : Bool) : State :=
  let gr := s.group g
  match gr.other with
  | none => s
  | some b =>
    match b.entries with
    | [] => s
    | _ :: rest =>
      let b := { b with entries := rest, errorsSeen := if error then b.errorsSeen + 1 else b.errorsSeen }
      let s := (s.setGroup g { gr with
        other := some b, held := gr.held - 1, drainErrors := if error then bump gr.drainErrors else gr.drainErrors }).setFreeSlots
          (s.freeSlots + 1)
      if rest.isEmpty then s.retire g b else s

/-! ### Safe jobs (R97, R98, R123) -/

/-- The safe-image table's indices in increasing order. -/
def safeIndices : List (Fin 128) := List.finRange 128

/-- R97: the first enabled safe entry of the group at or after an index. -/
def State.nextSafe (s : State) (g : Fin 8) (start : Nat) : Option (Fin 128) :=
  safeIndices.find? (fun i => decide (start ≤ i.val) && s.safeTable[i].enabled && s.safeTable[i].group == g)

/-- R98, R123: the safe job completes: FAULTED, or OFF during a soft reset; safe-incomplete where writes failed; SAFE_APPLIED;
progress ENDING. -/
def State.completeSafe (s : State) (g : Fin 8) : State :=
  let gr := s.group g
  let s := s.setGroup g { gr with
    state := if s.softResetting then .off else .faulted
    safeIncomplete := gr.safeIncomplete || decide (s.drain.errors ≠ 0) }
  let s := s.submit (.safeApplied g s.drain.errors s.drain.written)
  s.setDrain { s.drain with progress := .ending }

/-- R97: the next safe entry, or the completion. -/
def State.advanceSafe (s : State) (g : Fin 8) (start : Nat) : State :=
  match s.nextSafe g start with
  | some i => s.setDrain { s.drain with safeNext := i }
  | none => s.completeSafe g

/-- R97: the write of the safe entry has been performed. -/
def State.safeEntryWritten (s : State) (g : Fin 8) (error : Bool) : State :=
  let d := s.drain
  (s.setDrain { d with written := d.written + 1, errors := if error then d.errors + 1 else d.errors }).advanceSafe g
    (d.safeNext.val + 1)

/-- R101: a DRAIN write has been performed. -/
def State.drainPerformed (s : State) (error : Bool) : State :=
  match s.drain.current with
  | some (.batch g _) => s.entryWritten g error
  | some (.safe g) => s.safeEntryWritten g error
  | none => s

/-! ### Taking an item (R87, R88) -/

/-- R99: the group's clearance-wait flag is clear. -/
def State.cleared (s : State) (it : Item) : Bool := !s.drain.clearanceWait[it.group]

/-- R87: the foremost safe job whose group is clear; a batch item only where no safe job stands in the queue. -/
def State.pickItem (s : State) : Option Item :=
  if s.releaseQueue.any (·.isSafe) then s.releaseQueue.find? (fun it => it.isSafe && s.cleared it)
  else s.releaseQueue.find? s.cleared

/-- R84, R87: the item leaves the queue and is current with progress WRITING. -/
def State.makeCurrent (s : State) (it : Item) : State :=
  (s.setReleaseQueue (s.releaseQueue.erase it)).setDrain
    { s.drain with current := some it, progress := .writing, written := 0, errors := 0 }

/-- R87: the group controller sets the batch to DRAINING; a batch with no entries retires at once (R93). -/
def State.startBatch (s : State) (g : Fin 8) : State :=
  match (s.group g).other with
  | none => s
  | some b =>
    let b := { b with state := .draining }
    let s := (s.setGroup g { s.group g with other := some b }).setDrain { s.drain with taken := b.entries.length }
    if b.entries.isEmpty then s.retire g b else s

/-- R87, R88, R90, R97: takes an item and reports its start. -/
def State.takeItem (s : State) (it : Item) : State :=
  let s := (s.makeCurrent it).holdAtStart it.group
  match it with
  | .batch g _ => s.startBatch g
  | .safe g => s.advanceSafe g 0

/-- DRAIN_TAKE_ITEM (R87): the IDLE engine takes the item it picks; with none to take it waits. -/
def State.decideItem (s : State) : State :=
  if s.inReset || s.drain.current.isSome then s
  else match s.pickItem with
    | some it => s.takeItem it
    | none => s

/-- R96: the end report: the group's held requests return, its clearance-wait flag is set, the engine is IDLE, and clearance is
reported at once where nothing was returned. -/
def State.reportEnd (s : State) (g : Fin 8) : State :=
  let s := s.returnHeld g
  let s := s.setDrain { s.drain with current := none, clearanceWait := s.drain.clearanceWait.set g true }
  s.reportClearance.reportBlocks

/-- END_REPORT (R96): the engine's next act once progress is ENDING. -/
def State.endItem (s : State) : State :=
  match s.drain.current with
  | none => s
  | some it => if s.drain.progress = .ending then s.reportEnd it.group else s

end Sys2Proof.Machine
end

