-- ==== Sys2Proof/Machine/Port.lean ====
section
/-! DEFINITION. The memory port and its arbiter (sections 5.7 and 5.8), and what a performed transaction does at its requester. -/

namespace Sys2Proof.Machine

/-! ### The arbiter (R102) -/

/-- R102: the order in which the requesters are looked at, from the one the turn names. -/
def lookOrder : Turn → List Turn
  | .drain => [.drain, .pass, .service]
  | .pass => [.pass, .service, .drain]
  | .service => [.service, .drain, .pass]

/-- R102: the first requester looked at that is waiting. -/
def State.choose (s : State) : Option Turn := (lookOrder s.port.turn).find? s.waiting

/-- R102: DRAIN was looked at and found not waiting. -/
def State.drainPassed (s : State) : Bool :=
  ((lookOrder s.port.turn).takeWhile (fun r => !s.waiting r)).contains .drain

/-- R102: the run count at the decision, which returns to 0 when DRAIN is passed over. -/
def State.runAtDecision (s : State) : Nat := if s.drainPassed then 0 else s.port.run

/-- R102: the turn and run count after a grant. -/
def afterGrant (granted : Turn) (run burst : Nat) : Turn × Nat :=
  match granted with
  | .drain => if run + 1 < burst then (.drain, run + 1) else (.pass, 0)
  | .pass => (.service, run)
  | .service => (.drain, run)

/-- R100, R102: the port becomes BUSY with a transaction, and the arbiter sets its values. -/
def State.grant (s : State) (granted : Turn) (t : Transaction) : State :=
  let r := afterGrant granted s.runAtDecision s.port.burst
  s.setPort { s.port with current := some t, turn := r.1, run := r.2 }

/-- R10: the head of the pass queue enters PERFORMING. -/
def State.grantPass (s : State) : State :=
  match s.upstream.passQueue with
  | [] => s
  | i :: rest =>
    let x := s.slot i
    ((s.grant .pass { requester := .pass i, kind := x.kind, addr := x.addr }).setPassQueue rest).setSlot i
      { x with state := .performing }

/-- R90, R97: the write the engine has raised. -/
def State.grantDrain (s : State) : State :=
  match s.drainWrite with
  | none => s
  | some (a, d, m) => s.grant .drain { requester := .drain, kind := .write d m, addr := a }

/-- R104: the transaction of a request of the service list. -/
def State.serviceTransaction (s : State) : ServiceRequest → Transaction
  | .probe w => { requester := .probe w, kind := .read, addr := (s.watch w).addr }
  | .peek a => { requester := .peek, kind := .read, addr := a }
  | .poke a d m => { requester := .poke, kind := .write d m, addr := a }

/-- R133: a granted probe is IN_FLIGHT. -/
def State.markGranted (s : State) : ServiceRequest → State
  | .probe w => s.setWatch w { s.watch w with probe := .inFlight }
  | .peek _ => s
  | .poke _ _ _ => s

/-- R104: the foremost request that is not held leaves the list and is granted. -/
def State.grantService (s : State) : State :=
  match s.serviceFront with
  | none => s
  | some r =>
    let s' := s.grant .service (s.serviceTransaction r)
    (s'.setPort { s'.port with service := s.port.service.erase r }).markGranted r

/-- MEMORY_GRANT (R100, R102): with the port IDLE and a requester waiting, one grant. -/
def State.arbitrate (s : State) : State :=
  if s.inReset || s.port.current.isSome then s
  else match s.choose with
    | none => s
    | some .drain => s.grantDrain
    | some .pass => s.grantPass
    | some .service => s.grantService

/-! ### Completion of a pending command (R157) -/

/-- R157: the pending command completes: the result slot takes its outcome, the command slot returns to IDLE; reply choice and
notice do not change. -/
def State.completeCommand (s : State) (status : Status) (code : Byte) (data : List Byte) : State :=
  s.setLink { s.link with pending := none, result := { status := status, echo := code, data := data } }

/-! ### Answers (R100, R101) -/

/-- R11: the response of a performed read. -/
def Slot.readResponse (x : Slot) (word : Word) : Response :=
  match x.snapshot with
  | none => .data word
  | some snap => .data (mergeLanes snap.covered word snap.value)

/-- R11: the performed pass slot is answered; an error discards the snapshot. -/
def State.passPerformed (s : State) (i : Fin 16) (error : Bool) (word : Word) : State :=
  let x := s.slot i
  if error then (s.setSlot i { x with snapshot := none }).answer i (.error .memory) true
  else match x.kind with
    | .read => s.answer i (x.readResponse word) true
    | .write _ _ => s.answer i .done true

/-- R163: the PEEK completes. -/
def State.peekPerformed (s : State) (error : Bool) (word : Word) : State :=
  if error then s.completeCommand .memoryError 0x60#8 [] else s.completeCommand .ok 0x60#8 (Wire.split4 word)

/-- R164: the POKE completes. -/
def State.pokePerformed (s : State) (error : Bool) : State :=
  if error then s.completeCommand .memoryError 0x61#8 [] else s.completeCommand .ok 0x61#8 []

/-- R101: the answer goes to the requester. -/
def State.toRequester (s : State) (r : Requester) (error : Bool) (word : Word) : State :=
  match r with
  | .pass i => s.passPerformed i error word
  | .drain => s.drainPerformed error
  | .probe w => s.probeResult w error word
  | .peek => s.peekPerformed error word
  | .poke => s.pokePerformed error

/-- R101: a performed write is reported to the watch unit, before the retirement it may bring (R140). -/
def State.reportLanded (s : State) (t : Transaction) (error : Bool) : State :=
  match t.kind with
  | .write d m => s.landedWrite t.addr d m error
  | .read => s

/-- R100, R101: the memory's answer: contents, landed-write report, requester, then return clearance (R19) and the block reports
(R166) of the step. That the watch records of a safe job's last write come before its SAFE_APPLIED is the model's choice (DESIGN
CHOICE, notes/assumptions/31.md); for a batch R174 states it. -/
def State.perform (s : State) (t : Transaction) (error : Bool) (rdata : Word) : State :=
  let word := readWord s.mem t.addr rdata
  let s := (s.setPort { s.port with current := none }).setMem (memoryAfter s.mem t error rdata)
  ((s.reportLanded t error).toRequester t.requester error word).reportClearance.reportBlocks

/-- TRANSACTION_PERFORMED (R100): M_ACK with no transaction at the port changes nothing (DEDUCED, notes/assumptions/10.md). -/
def State.performed (s : State) (error : Bool) (rdata : Word) : State :=
  match s.port.current with
  | none => s
  | some t => s.perform t error rdata

end Sys2Proof.Machine
end

