-- ==== Sys2Proof/Machine/Link.lean ====
section
/-! DEFINITION. The management link (chapter 8): frames and their ends, rejection and refusal, immediate and pending commands. Each
management command of the table is a frame that carries it (DESIGN CHOICE, notes/assumptions/11.md). -/

namespace Sys2Proof.Machine

open Wire

/-- What an immediate command answers (R156): a refusal with no effect, or its result data and its effect. -/
abbrev CommandResult := Except Status (List Byte × State)

/-- R152, R156: the result slot written, and the reply choice SLOT. -/
def State.writeResult (s : State) (status : Status) (code : Byte) (data : List Byte) : State :=
  s.setLink { s.link with result := { status := status, echo := code, data := data }, choice := .slot }

/-- R155: a refused command writes the result slot with its status and no data, and has no other effect. -/
def State.refuseCommand (s : State) (status : Status) (code : Byte) : State := s.writeResult status code []

/-- R154: a rejected frame sets the notice and the reply choice NOTICE. -/
def State.rejectFrame (s : State) (status : Status) (echo : Byte) : State :=
  s.setLink { s.link with notice := some { status := status, echo := echo }, choice := .notice }

/-- R148: MSEL_N is high again. -/
def State.noFrame (s : State) : State := s.setLink { s.link with frame := none }

/-- The reply choice a frame was started with; a frame that is taken whole starts and ends in one step
(DESIGN CHOICE, notes/assumptions/11.md). -/
def State.frameChoice (s : State) : ReplyChoice :=
  match s.link.frame with
  | some f => f.choice
  | none => s.link.choice

/-- R151: the end of a frame with at least one whole byte: a notice it shifted out is removed. -/
def State.closeFrame (s : State) : State :=
  s.setLink { s.link with notice := if s.frameChoice = .notice then none else s.link.notice, frame := none }

/-- R148: the frame is dropped: RESET_N is asserted, or was during the frame. -/
def State.frameDropped (s : State) : Bool :=
  s.inReset || (match s.link.frame with
    | some f => f.dropped
    | none => false)

/-- R148, R151: a frame that holds a whole byte ends, and is dropped or goes on as `k`. -/
def State.endFrame (s : State) (k : State → State) : State :=
  if s.frameDropped then s.newCycle.noFrame else k s.newCycle.closeFrame

/-- R153: while the command slot is PENDING, every command but NOP and READ_RESULT is rejected with BUSY. -/
def State.unlessBusy (s : State) (code : Byte) (k : State → State) : State :=
  if s.link.pending.isSome then s.rejectFrame .busy code else k s

/-- R156, R155: an immediate command is taken with its result, or refused. -/
def immediate (code : Byte) (f : State → CommandResult) (s : State) : State :=
  match f s with
  | .ok (data, s') => s'.writeResult .ok code data
  | .error status => s.refuseCommand status code

/-- R157: a pending command is accepted: command slot PENDING, result slot PENDING, reply choice SLOT. -/
def State.makePending (s : State) (c : PendingCommand) : State :=
  (s.writeResult .pending c.code []).setLink { (s.writeResult .pending c.code []).link with pending := some c }

/-- A whole frame that carries a command with this code, from the end of the frame on. -/
def command (code : Byte) (body : State → State) (s : State) : State := s.endFrame (fun s => s.unlessBusy code body)

/-- R158: NOP's frame. -/
def nopBody (s : State) : State := s.setLink { s.link with choice := .link }

/-- R158: READ_RESULT's frame. -/
def readResultBody (s : State) : State := s.setLink { s.link with choice := .slot }

/-- A group number field's check (BAD_INDEX above 7). -/
def withGroup (g : Byte) (f : Fin 8 → CommandResult) : CommandResult :=
  match index? 8 g with
  | some g => f g
  | none => .error .badIndex

/-- A watch number field's check (BAD_INDEX above 11). -/
def withWatch (w : Byte) (f : Fin 12 → CommandResult) : CommandResult :=
  match index? 12 w with
  | some w => f w
  | none => .error .badIndex

end Sys2Proof.Machine
end

