-- ==== Sys2Proof/Machine/GroupCommands.lean ====
section
/-! DEFINITION. The commands addressed to a group (sections 2.3, 2.4, 3.4, 4.5, 6.2, 6.6): GROUP_START, GROUP_STOP, SEAL, RELEASE,
READ_STATUS, FORCE_FAULT and CLEAR_FAULT. -/

namespace Sys2Proof.Machine

open Wire

/-! ### GROUP_START (R33) -/

/-- R33: a TIMED group's phase must be less than its base's period, and than its pending period where one is present. -/
def State.phaseTooHigh (s : State) (c : GroupConfig) : Bool :=
  c.trigger == .timed &&
    (decide ((s.base c.base).period ≤ c.phase) ||
      (match (s.base c.base).pendingPeriod with
        | some p => decide (p ≤ c.phase)
        | none => false))

/-- R33: an enabled window of the group has a seal word outside itself. -/
def Window.sealOutside (w : Window) (g : Fin 8) : Bool :=
  w.enabled && w.group == g &&
    (match w.sealOffset with
      | some o => decide (w.length.toNat ≤ o.toNat)
      | none => false)

/-- R33: a fault line enabled for the group is active. -/
def State.enabledLineActive (s : State) (g : Fin 8) : Bool :=
  (s.lineActive 0 && (s.group g).config.faultLine0) || (s.lineActive 1 && (s.group g).config.faultLine1)

/-- R33, R34, R76: the start. -/
def Group.start (gr : Group) : Group :=
  Group.enterActive { gr with causes := 0, first := none, safeIncomplete := false, skipRemaining := 0 }

/-- R33: GROUP_START's checks in order, and its effect. -/
def State.startGroup (s : State) (g : Fin 8) : CommandResult :=
  let gr := s.group g
  if gr.state ≠ .off then .error .badState
  else if gr.config.quota = 0 then .error .badValue
  else if s.phaseTooHigh gr.config then .error .badValue
  else if s.windows.toList.any (fun w => w.sealOutside g) then .error .badValue
  else if s.enabledLineActive g then .error .badState
  else .ok (split2 gr.nextSeq, s.setGroup g gr.start)

def groupStartBody (g : Byte) : State → State := immediate 0x20#8 (fun s => withGroup g s.startGroup)

/-- GROUP_START (R33). -/
def execGroupStart (g : Byte) (s : State) : Host.Outcome State Fault Refusal := .next (command 0x20#8 (groupStartBody g) s)

/-! ### GROUP_STOP (R35, R36) -/

/-- R35: a stop that takes the group to OFF at once submits GROUP_STOPPED with its option (R170). -/
def State.stopNow (s : State) (g : Fin 8) (o : StopOption) : State :=
  (s.setGroup g { s.group g with state := .off, stopOption := o }).submit (.groupStopped g o)

/-- R35: DISCARD of an ACTIVE or STOPPING group. -/
def State.stopDiscard (s : State) (g : Fin 8) : State :=
  let s := s.discardBatches g
  if (s.group g).draining then s.setGroup g { s.group g with state := .stopping, stopOption := .discard }
  else s.stopNow g .discard

/-- R36: FLUSH of an ACTIVE group: the OPEN batch alone is sealed and queued; with an other batch, a SEALED one is queued and
seal pending is set. -/
def State.stopFlush (s : State) (g : Fin 8) : State :=
  let s := s.setGroup g { s.group g with state := .stopping, stopOption := .flush }
  match (s.group g).other with
  | none => s.sealOpen g .flush
  | some b =>
    let s := s.setGroup g { s.group g with sealPending := true }
    if b.state = .closed then s.queueOther g else s

/-- R35: GROUP_STOP DISCARD by the group's state. -/
def State.groupStopDiscard (s : State) (g : Fin 8) : CommandResult :=
  match (s.group g).state with
  | .off => .error .badState
  | .active => let s := s.stopDiscard g; .ok ([(s.group g).state.code], s)
  | .stopping => let s := s.stopDiscard g; .ok ([(s.group g).state.code], s)
  | .safing => .error .busy
  | .faulted => .ok ([GroupState.off.code], s.stopNow g .discard)

/-- R35, R36: GROUP_STOP FLUSH by the group's state. -/
def State.groupStopFlush (s : State) (g : Fin 8) : CommandResult :=
  match (s.group g).state with
  | .off => .error .badState
  | .active => .ok ([GroupState.stopping.code], s.stopFlush g)
  | .stopping => .ok ([GroupState.stopping.code], s)
  | .safing => .error .busy
  | .faulted => .ok ([GroupState.off.code], s.stopNow g .flush)

def groupStopDiscardBody (g : Byte) : State → State := immediate 0x21#8 (fun s => withGroup g s.groupStopDiscard)

def groupStopFlushBody (g : Byte) : State → State := immediate 0x21#8 (fun s => withGroup g s.groupStopFlush)

/-- GROUP_STOP with option DISCARD (R35). -/
def execGroupStopDiscard (g : Byte) (s : State) : Host.Outcome State Fault Refusal :=
  .next (command 0x21#8 (groupStopDiscardBody g) s)

/-- GROUP_STOP with option FLUSH (R35, R36). -/
def execGroupStopFlush (g : Byte) (s : State) : Host.Outcome State Fault Refusal :=
  .next (command 0x21#8 (groupStopFlushBody g) s)

/-! ### SEAL (R53, R58) -/

/-- R58, 11.4: the result data of a seal outcome, with A's reading in the step of the seal. -/
def State.sealData (s : State) : SealEffect → Option (List Byte)
  | .closed q => some (1#8 :: (split2 q ++ split2Nat s.baseA.count ++ split2 s.baseA.periodIndex))
  | .pendingSet q => some (2#8 :: split2 q)
  | .alreadyPending q => some (3#8 :: split2 q)
  | .badState => none

/-- R53, R58: SEAL. -/
def State.sealGroup (s : State) (g : Fin 8) : CommandResult :=
  match s.sealData (s.sealRequest g .command).2 with
  | some data => .ok (data, (s.sealRequest g .command).1)
  | none => .error .badState

def sealBody (g : Byte) : State → State := immediate 0x22#8 (fun s => withGroup g s.sealGroup)

/-- SEAL (R58). -/
def execSeal (g : Byte) (s : State) : Host.Outcome State Fault Refusal := .next (command 0x22#8 (sealBody g) s)

/-! ### RELEASE (R82) -/

/-- R82, 11.4: the result data of a release outcome. -/
def ReleaseOutcome.data : ReleaseOutcome → Option (List Byte)
  | .queued q => some (1#8 :: split2 q)
  | .missed q n => some (2#8 :: (split2 q ++ [byteOf n]))
  | .overrun q st => some (3#8 :: (split2 q ++ [st.code]))
  | .cleared => some [4#8]
  | .notCleared => some [5#8]
  | .ignored => none

/-- R82: RELEASE is refused in OFF, STOPPING and SAFING, where a release point would be ignored; else it gives one release
point. -/
def State.releaseGroup (s : State) (g : Fin 8) : CommandResult :=
  match (s.releasePoint g).2.data with
  | some data => .ok (data, (s.releasePoint g).1)
  | none => .error .badState

def releaseBody (g : Byte) : State → State := immediate 0x23#8 (fun s => withGroup g s.releaseGroup)

/-- RELEASE (R82). -/
def execRelease (g : Byte) (s : State) : Host.Outcome State Fault Refusal := .next (command 0x23#8 (releaseBody g) s)

/-! ### READ_STATUS (R31) -/

/-- R31: the clear option. -/
def Group.clearCounters (gr : Group) : Group :=
  { gr with misses := 0, overruns := 0, refused := 0, trips := 0, drainErrors := 0, refusalReported := false }

def readStatusBody (g : Byte) : State → State :=
  immediate 0x24#8 (fun s => withGroup g (fun g => .ok ((s.group g).statusBytes, s)))

def readStatusClearBody (g : Byte) : State → State :=
  immediate 0x24#8 (fun s => withGroup g (fun g => .ok ((s.group g).statusBytes, s.setGroup g (s.group g).clearCounters)))

/-- READ_STATUS (R31). -/
def execReadStatus (g : Byte) (s : State) : Host.Outcome State Fault Refusal := .next (command 0x24#8 (readStatusBody g) s)

/-- READ_STATUS with its clear option (R31): the returned values are captured in the step of the clear. -/
def execReadStatusClear (g : Byte) (s : State) : Host.Outcome State Fault Refusal :=
  .next (command 0x24#8 (readStatusClearBody g) s)

/-! ### FORCE_FAULT and CLEAR_FAULT (R113, R126) -/

/-- R113: TRIPPED for a first trip, ADDED for a second fault. -/
def State.forceFault (s : State) (g : Fin 8) : CommandResult :=
  match (s.group g).state with
  | .off => .error .badState
  | .active => .ok ([1#8], s.tripSource g .forced)
  | .stopping => .ok ([1#8], s.tripSource g .forced)
  | .safing => .ok ([2#8], s.tripSource g .forced)
  | .faulted => .ok ([2#8], s.tripSource g .forced)

def forceFaultBody (g : Byte) : State → State := immediate 0x30#8 (fun s => withGroup g s.forceFault)

/-- FORCE_FAULT (R113). -/
def execForceFault (g : Byte) (s : State) : Host.Outcome State Fault Refusal := .next (command 0x30#8 (forceFaultBody g) s)

/-- R126: CLEAR_FAULT of a FAULTED group. -/
def State.clearFaulted (s : State) (g : Fin 8) (force : Bool) : CommandResult :=
  let gr := s.group g
  if s.activeSource g then .error .badState
  else if gr.safeIncomplete && !force then .error .badState
  else .ok (split2 gr.nextSeq, s.clearGroup g .command (force && gr.safeIncomplete))

/-- R126: CLEAR_FAULT by the group's state. -/
def State.clearFault (s : State) (g : Fin 8) (force : Bool) : CommandResult :=
  match (s.group g).state with
  | .safing => .error .busy
  | .off => .error .badState
  | .active => .error .badState
  | .stopping => .error .badState
  | .faulted => s.clearFaulted g force

/-- R126, R155: an option byte that names nothing is BAD_VALUE directly after the BAD_INDEX check. -/
def clearFaultBody (g force : Byte) : State → State :=
  immediate 0x31#8 (fun s => withGroup g (fun g =>
    if 1 < force.toNat then .error .badValue else s.clearFault g (force == 1#8)))

/-- CLEAR_FAULT (R126). -/
def execClearFault (g force : Byte) (s : State) : Host.Outcome State Fault Refusal :=
  .next (command 0x31#8 (clearFaultBody g force) s)

end Sys2Proof.Machine
end

