-- ==== Sys2Proof/Machine/Resets.lean ====
section
/-! DEFINITION. PEEK and POKE (R163, R164), and the resets: SOFT_RESET and its completion (R165, R166), the power-on reset and its
end. -/

namespace Sys2Proof.Machine

open Wire

/-! ### PEEK and POKE -/

/-- R157: a pending command that fails its checks is refused and does not make the slot PENDING. -/
def pendingCommand (code : Byte) (f : State → Except Status State) (s : State) : State :=
  match f s with
  | .ok s' => s'
  | .error status => s.refuseCommand status code

/-- R104: a peek or poke raised at the tail of the service list. -/
def State.raiseService (s : State) (r : ServiceRequest) : State := s.setPort { s.port with service := s.port.service ++ [r] }

/-- R163: PEEK. -/
def State.startPeek (a : Addr24) (s : State) : Except Status State :=
  if Config.lastWord < a.toNat then .error .badValue
  else .ok ((s.makePending (.peek (wordField a))).raiseService (.peek (wordField a)))

/-- R164: the word lies in an enabled window whose group is not OFF. -/
def State.wordInUse (s : State) (a : WordAddr) : Bool :=
  match s.wordGroup a with
  | some g => (s.group g).state != .off
  | none => false

/-- R164: POKE. -/
def State.startPoke (a : Addr24) (d : Word) (m : Mask) (s : State) : Except Status State :=
  if Config.lastWord < a.toNat then .error .badValue
  else if s.wordInUse (wordField a) then .error .badState
  else .ok ((s.makePending (.poke (wordField a) d m)).raiseService (.poke (wordField a) d m))

def peekBody (a : Addr24) : State → State := pendingCommand 0x60#8 (State.startPeek a)

def pokeBody (a : Addr24) (d : Word) (m : Mask) : State → State := pendingCommand 0x61#8 (State.startPoke a d m)

/-- PEEK (R163). -/
def execPeek (a : Addr24) (s : State) : Host.Outcome State Fault Refusal := .next (command 0x60#8 (peekBody a) s)

/-- POKE (R164). -/
def execPoke (a : Addr24) (d : Word) (m : Mask) (s : State) : Host.Outcome State Fault Refusal :=
  .next (command 0x61#8 (pokeBody a d m) s)

/-! ### Soft reset (R165) -/

/-- R38: the group's safe job is current with progress WRITING. -/
def State.safeWriting (s : State) (g : Fin 8) : Bool :=
  s.drain.current == some (.safe g) && s.drain.progress == .writing

/-- R38, R65: the state a group takes at the taking. -/
def State.softResetState (s : State) (g : Fin 8) : GroupState :=
  if (s.group g).draining then (if (s.group g).state = .safing then .safing else .stopping)
  else if s.safeWriting g then .safing
  else .off

/-- R38, R65, R76: one group at the taking. -/
def State.softResetGroup (s : State) (g : Fin 8) : State :=
  let state := s.softResetState g
  let s := s.discardBatches g
  s.setGroup g { s.group g with state := state, skipRemaining := 0 }

/-- R71: a time base at the taking. -/
def TimeBase.softReset (t : TimeBase) : TimeBase :=
  { t with
    running := false, count := 0, periodIndex := 0, interval := 0, period := t.pendingPeriod.getD t.period,
    pendingPeriod := none }

/-- R147: one watch at the taking. -/
def State.softResetWatch (s : State) (w : Fin 12) : State :=
  let s := s.disarmWatch w
  s.setWatch w { s.watch w with shadow := 0 }

/-- R165: what the taking of SOFT_RESET does at every block. -/
def State.softResetBlocks (s : State) : State :=
  let s := s.softResetSlots
  let s := groupNumbers.foldl State.softResetGroup s
  let s := (s.setBase .timeA s.baseA.softReset).setBase .timeB s.baseB.softReset
  let s := s.setReleaseQueue []
  watchNumbers.foldl State.softResetWatch s

/-- R38, R166: a group's counters and causes at the completion. -/
def Group.softResetDone (gr : Group) : Group :=
  { gr with
    misses := 0, overruns := 0, refused := 0, trips := 0, drainErrors := 0, consecutive := 0, causes := 0, first := none,
    safeIncomplete := false, refusalReported := false }

/-- R178: the records are discarded and one PART_RESET stored with their number. -/
def State.partReset (s : State) : State :=
  (s.setEvents { s.events with records := [] }).store (.partReset s.events.records.length)

/-- R166: the completion, in one step. -/
def State.completeReset (s : State) : State :=
  (State.partReset { s with groups := s.groups.map Group.softResetDone }).completeCommand .ok 0x7F#8 []

/-- R166: every block has reported. -/
def State.allReported (s : State) : Bool :=
  s.link.reports.upstream && s.link.reports.drain && s.link.reports.port && s.link.reports.watches

/-- R166: the soft reset completes once its four reports have arrived; before that it goes on. -/
def State.tryComplete (s : State) : State := if s.softResetting && s.allReported then s.completeReset else s

/-- R157, R165: SOFT_RESET is taken; it completes in this step where all four blocks are already done (R166). -/
def softResetBody (s : State) : State :=
  let s := s.makePending .softReset
  let s := s.setLink { s.link with reports := BlockReports.reset }
  s.softResetBlocks.reportClearance.reportBlocks.tryComplete

/-- SOFT_RESET (R165). -/
def execSoftReset (s : State) : Host.Outcome State Fault Refusal := .next (command 0x7F#8 softResetBody s)

/-- SOFT_RESET_COMPLETE (R166): the link's step once the last report has arrived (DEDUCED, notes/assumptions/9.md). -/
def execSoftResetComplete (s : State) : Host.Outcome State Fault Refusal := .next s.newCycle.tryComplete

/-! ### Power-on reset -/

/-- R105: the word of the transaction abandoned at the port is left as the memory gives it. -/
def State.memoryAbandoned (s : State) : List Host.Cell :=
  match s.port.current with
  | some t => forgetWord s.mem t.addr
  | none => s.mem

/-- R72, R73: the settings of a release line at the reset; its qualified level is set at the end of the reset. -/
def ReleaseLine.atReset (l : ReleaseLine) : ReleaseLine := { ReleaseLine.reset with level := l.level, pin := l.pin }

/-- R109: the settings of a fault line at the reset; its qualified level is set at the end of the reset. -/
def FaultLine.atReset (l : FaultLine) : FaultLine := { FaultLine.reset with level := l.level, pin := l.pin }

/-- R148: a frame in progress is dropped, and nothing is left to shift out (DESIGN CHOICE, notes/assumptions/29.md). -/
def Frame.atReset (f : Frame) : Frame := { f with reply := [], dropped := true }

/-- R20, R39, R64, R71, R85, R105, R129, R147, R168, R179: everything takes its reset value while RESET_N is asserted; what is
outside the part (the pins, MSEL_N, the SRAM but for an abandoned transaction's word) stays. -/
def State.powerOn (s : State) : State :=
  { State.reset with
    inReset := true
    releaseLines := s.releaseLines.map ReleaseLine.atReset
    faultLines := s.faultLines.map FaultLine.atReset
    link := { Link.reset with frame := s.link.frame.map Frame.atReset }
    mem := s.memoryAbandoned
    pending := s.pending }

/-- POWER_ON_RESET (R20, R39, R105, R168). -/
def execPowerOnReset (s : State) : Host.Outcome State Fault Refusal := .next s.powerOn

/-- R72: a release line at the end of the reset. -/
def ReleaseLine.atEnd (l : ReleaseLine) (high : Bool) : ReleaseLine := { l with level := high, pin := high, count := 0 }

/-- R109: a fault line at the end of the reset; no edge is made. -/
def FaultLine.atEnd (l : FaultLine) (high : Bool) : FaultLine := { l with level := high, pin := high, count := 0 }

/-- R72, R109: RESET_N rises; the qualified levels take the pins. -/
def State.powerOnEnd (s : State) (releasePins : BitVec 4) (faultPins : BitVec 2) : State :=
  if s.inReset then
    { s with
      inReset := false
      releaseLines := s.releaseLines.mapFinIdx (fun i l _ => l.atEnd (releasePins.getLsbD i))
      faultLines := s.faultLines.mapFinIdx (fun i l _ => l.atEnd (faultPins.getLsbD i)) }
  else s

/-- POWER_ON_RESET_END (R72, R109, R20). -/
def execPowerOnResetEnd (releasePins : BitVec 4) (faultPins : BitVec 2) (s : State) : Host.Outcome State Fault Refusal :=
  .next (s.newCycle.powerOnEnd releasePins faultPins)

end Sys2Proof.Machine
end

