-- ==== Sys2Proof/Machine/TableCommands.lean ====
section
/-! DEFINITION. READ_TABLE and the seven WRITE_TABLE commands (R160): each write with its owning rule's checks in order (R24, R28,
R121, R132, R69, R161, R103), and the record each kind reads. -/

namespace Sys2Proof.Machine

open Wire

/-! ### READ_TABLE (R25, R28, R71, R73, R103, R109, R121, R131) -/

/-- An index's check, and the record it names (R160). -/
def readAt (n : Nat) (index : Byte) (s : State) (f : Fin n → List Byte) : CommandResult :=
  match index? n index with
  | some i => .ok (f i, s)
  | none => .error .badIndex

/-- R160: the record of a kind as it stands. -/
def State.readTable (s : State) (kind index : Byte) : CommandResult :=
  match kind.toNat with
  | 0 => readAt 16 index s (fun i => s.windows[i].bytes)
  | 1 => readAt 8 index s (fun g => (s.group g).config.bytes)
  | 2 => readAt 128 index s (fun i => s.safeTable[i].bytes)
  | 3 => readAt 12 index s (fun w => (s.watch w).bytes)
  | 4 => readAt 2 index s (fun i => if i = 0 then s.baseA.bytes else s.baseB.bytes)
  | 5 => readAt 1 index s (fun _ => s.linesBytes)
  | 6 => readAt 1 index s (fun _ => [byteOf s.port.burst])
  | _ => .error .badIndex

def readTableBody (kind index : Byte) : State → State := immediate 0x10#8 (fun s => s.readTable kind index)

/-- READ_TABLE (R160). -/
def execReadTable (kind index : Byte) (s : State) : Host.Outcome State Fault Refusal :=
  .next (command 0x10#8 (readTableBody kind index) s)

/-- A taken WRITE_TABLE returns no data (R162). -/
def written (s : State) : CommandResult := .ok ([], s)

/-- WRITE_TABLE's index check, then the owning rule. -/
def writeAt (n : Nat) (index : Byte) (f : Fin n → CommandResult) : CommandResult :=
  match index? n index with
  | some i => f i
  | none => .error .badIndex

/-! ### Windows (R23, R24) -/

/-- R23: two ranges share a word address. -/
def Window.overlaps (v w : Window) : Bool :=
  decide (v.base.toNat < w.base.toNat + w.length.toNat) && decide (w.base.toNat < v.base.toNat + v.length.toNat)

/-- R24: the record is enabled and its group has an item current. -/
def State.windowBusy (s : State) (w : Window) : Bool := w.enabled && s.itemCurrent w.group

/-- R24: the record is enabled and its group is not OFF. -/
def State.windowInUse (s : State) (w : Window) : Bool := w.enabled && (s.group w.group).state != .off

/-- The sixteen window records. -/
def windowNumbers : List (Fin 16) := [0, 1, 2, 3, 4, 5, 6, 7, 8, 9, 10, 11, 12, 13, 14, 15]

/-- R24: the new record is enabled and overlaps another enabled record. -/
def State.overlapsOther (s : State) (n : Fin 16) (w : Window) : Bool :=
  w.enabled && windowNumbers.any (fun m => m != n && s.windows[m].enabled && s.windows[m].overlaps w)

/-- R24: WRITE_TABLE of window record `n`. -/
def State.writeWindow (s : State) (n : Fin 16) (f : WindowFields) : CommandResult :=
  let w := windowRecord f
  if !windowInRange f then .error .badValue
  else if s.windowBusy s.windows[n] || s.windowBusy w then .error .busy
  else if s.windowInUse s.windows[n] || s.windowInUse w then .error .badState
  else if s.overlapsOther n w then .error .overlap
  else written { s with windows := s.windows.set n w }

def writeTableWindowBody (index : Byte) (f : WindowFields) : State → State :=
  immediate 0x11#8 (fun s => writeAt 16 index (fun n => s.writeWindow n f))

/-- WRITE_TABLE WINDOW (R24). -/
def execWriteTableWindow (index : Byte) (f : WindowFields) (s : State) : Host.Outcome State Fault Refusal :=
  .next (command 0x11#8 (writeTableWindowBody index f) s)

/-! ### Group configurations (R28) -/

/-- R28: WRITE_TABLE of group `g`'s configuration. -/
def State.writeGroup (s : State) (g : Fin 8) (f : GroupFields) : CommandResult :=
  if !groupInRange f then .error .badValue
  else if (s.group g).state ≠ .off then .error .badState
  else written (s.setGroup g { s.group g with config := groupRecord f })

def writeTableGroupBody (index : Byte) (f : GroupFields) : State → State :=
  immediate 0x11#8 (fun s => writeAt 8 index (fun g => s.writeGroup g f))

/-- WRITE_TABLE GROUP (R28). -/
def execWriteTableGroup (index : Byte) (f : GroupFields) (s : State) : Host.Outcome State Fault Refusal :=
  .next (command 0x11#8 (writeTableGroupBody index f) s)

/-! ### Safe-image entries (R121) -/

/-- R121: WRITE_TABLE of safe-image entry `n`. -/
def State.writeSafe (s : State) (n : Fin 128) (f : SafeFields) : CommandResult :=
  let e := safeRecord f
  if !safeInRange f then .error .badValue
  else if (s.group s.safeTable[n].group).state = .safing ∨ (s.group e.group).state = .safing then .error .busy
  else written { s with safeTable := s.safeTable.set n e }

def writeTableSafeBody (index : Byte) (f : SafeFields) : State → State :=
  immediate 0x11#8 (fun s => writeAt 128 index (fun n => s.writeSafe n f))

/-- WRITE_TABLE SAFE (R121). -/
def execWriteTableSafe (index : Byte) (f : SafeFields) (s : State) : Host.Outcome State Fault Refusal :=
  .next (command 0x11#8 (writeTableSafeBody index f) s)

/-! ### Watches (R132) -/

/-- R132: WRITE_TABLE of watch `w`. -/
def State.writeWatch (s : State) (w : Fin 12) (f : WatchFields) : CommandResult :=
  if !watchInRange f then .error .badValue
  else if (s.watch w).state ≠ .disarmed then .error .badState
  else written (s.setWatch w ((s.watch w).configure f))

def writeTableWatchBody (index : Byte) (f : WatchFields) : State → State :=
  immediate 0x11#8 (fun s => writeAt 12 index (fun w => s.writeWatch w f))

/-- WRITE_TABLE WATCH (R132). -/
def execWriteTableWatch (index : Byte) (f : WatchFields) (s : State) : Host.Outcome State Fault Refusal :=
  .next (command 0x11#8 (writeTableWatchBody index f) s)

/-! ### Time bases (R69) -/

/-- R69: a written period below 16 is taken as 16. -/
def writtenPeriod (f : TimebaseFields) : Nat := max f.period.toNat Config.periodMin

/-- R69: an ACTIVE or FAULTED TIMED group on the base has a phase not less than the period. -/
def Group.phaseBlocks (gr : Group) (b : Base) (period : Nat) : Bool :=
  (gr.state == .active || gr.state == .faulted) && gr.config.trigger == .timed && gr.config.base == b &&
    decide (period ≤ gr.config.phase)

/-- R69: what a taken write does to the base. -/
def TimeBase.written (t : TimeBase) (f : TimebaseFields) : TimeBase :=
  let t := { t with divider := f.divider.toNat, bLock := f.bLock, interval := 0 }
  if t.running then { t with pendingPeriod := some (writtenPeriod f) }
  else { t with
    period := writtenPeriod f, pendingPeriod := none, count := if t.count < writtenPeriod f then t.count else 0 }

/-- R69: WRITE_TABLE of a time base. -/
def State.writeTimebase (s : State) (index : Byte) (b : Base) (f : TimebaseFields) : CommandResult :=
  if !timebaseInRange index f then .error .badValue
  else if (s.base b).running && s.groups.toList.any (fun gr => gr.phaseBlocks b (writtenPeriod f)) then .error .badValue
  else written (s.setBase b ((s.base b).written f))

def writeTableTimebaseBody (index : Byte) (f : TimebaseFields) : State → State :=
  immediate 0x11#8 (fun s => writeAt 2 index (fun i => s.writeTimebase index (if i = 0 then .timeA else .timeB) f))

/-- WRITE_TABLE TIMEBASE (R69). -/
def execWriteTableTimebase (index : Byte) (f : TimebaseFields) (s : State) : Host.Outcome State Fault Refusal :=
  .next (command 0x11#8 (writeTableTimebaseBody index f) s)

/-! ### Lines (R72, R73, R109, R161) -/

/-- R72, R73: a release line's new settings; a count in progress restarts, the qualified level stays. -/
def ReleaseLine.configure (l : ReleaseLine) (f : LineFields) : ReleaseLine :=
  { l with edge := edgeField f.choice, qual := f.qual.toNat, count := 0 }

/-- R109: a fault line's new settings; a count in progress restarts, the qualified level stays. -/
def FaultLine.configure (l : FaultLine) (f : LineFields) : FaultLine :=
  { l with activeHigh := f.choice.toNat == 0, qual := f.qual.toNat, count := 0 }

/-- R161, R109: WRITE_TABLE of the line configuration; a changed active level may make a fault line become active. Where one write
makes both active, line 0 is reported to its groups before line 1: R108 leaves either order (DESIGN CHOICE, notes/assumptions/28.md). -/
def State.writeLines (s : State) (f : LinesFields) : CommandResult :=
  if !linesInRange f then .error .badValue
  else
    let s := s.setReleaseLine 0 (s.releaseLines[0].configure f.release0)
    let s := s.setReleaseLine 1 (s.releaseLines[1].configure f.release1)
    let s := s.setReleaseLine 2 (s.releaseLines[2].configure f.release2)
    let s := s.setReleaseLine 3 (s.releaseLines[3].configure f.release3)
    let s := s.changeFaultLine 0 (s.faultLines[0].configure f.fault0)
    written (s.changeFaultLine 1 (s.faultLines[1].configure f.fault1))

def writeTableLinesBody (index : Byte) (f : LinesFields) : State → State :=
  immediate 0x11#8 (fun s => writeAt 1 index (fun _ => s.writeLines f))

/-- WRITE_TABLE LINES (R161). -/
def execWriteTableLines (index : Byte) (f : LinesFields) (s : State) : Host.Outcome State Fault Refusal :=
  .next (command 0x11#8 (writeTableLinesBody index f) s)

/-! ### Memory port (R103) -/

/-- R103: WRITE_TABLE of the drain burst. -/
def State.writeMemport (s : State) (burst : Byte) : CommandResult :=
  if !burstInRange burst then .error .badValue else written (s.setPort { s.port with burst := burst.toNat })

def writeTableMemportBody (index burst : Byte) : State → State :=
  immediate 0x11#8 (fun s => writeAt 1 index (fun _ => s.writeMemport burst))

/-- WRITE_TABLE MEMPORT (R103). -/
def execWriteTableMemport (index burst : Byte) (s : State) : Host.Outcome State Fault Refusal :=
  .next (command 0x11#8 (writeTableMemportBody index burst) s)

end Sys2Proof.Machine
end

