-- ==== Sys2Proof/Machine/WatchCommands.lean ====
section
/-! DEFINITION. The commands of the watch unit, the time bases and the event queue: ARM_WATCH (R133), DISARM_WATCH (R136),
SET_REFERENCE (R143), TIMEBASE_CONTROL (R68), POP_EVENT (R175), and NOP and READ_RESULT (R158). -/

namespace Sys2Proof.Machine

open Wire

/-! ### Watches -/

/-- R133: ARM_WATCH of a DISARMED watch. -/
def State.arm (s : State) (w : Fin 12) : CommandResult :=
  if (s.watch w).state ≠ .disarmed then .error .badState else .ok ([], s.armWatch w)

def armWatchBody (w : Byte) : State → State := immediate 0x40#8 (fun s => withWatch w s.arm)

/-- ARM_WATCH (R133). -/
def execArmWatch (w : Byte) (s : State) : Host.Outcome State Fault Refusal := .next (command 0x40#8 (armWatchBody w) s)

/-- R136: DISARM_WATCH of a watch that is not DISARMED. -/
def State.disarm (s : State) (w : Fin 12) : CommandResult :=
  if (s.watch w).state = .disarmed then .error .badState else .ok ([], s.disarmWatch w)

def disarmWatchBody (w : Byte) : State → State := immediate 0x41#8 (fun s => withWatch w s.disarm)

/-- DISARM_WATCH (R136). -/
def execDisarmWatch (w : Byte) (s : State) : Host.Outcome State Fault Refusal := .next (command 0x41#8 (disarmWatchBody w) s)

/-- R143: the result carries the watch's state after the command. -/
def State.newReference (s : State) (reference compareMask : Word) (w : Fin 12) : CommandResult :=
  let s := s.setReference w reference compareMask
  .ok ([(s.watch w).state.code], s)

def setReferenceBody (w : Byte) (reference compareMask : Word) : State → State :=
  immediate 0x42#8 (fun s => withWatch w (s.newReference reference compareMask))

/-- SET_REFERENCE (R143). -/
def execSetReference (w : Byte) (reference compareMask : Word) (s : State) : Host.Outcome State Fault Refusal :=
  .next (command 0x42#8 (setReferenceBody w reference compareMask) s)

/-! ### Time bases (R68) -/

/-- 11.3: the bases a base code names; none for a code that names no base. -/
def basesNamed (b : Byte) : Option (List Base) :=
  match b.toNat with
  | 0 => some [.timeA]
  | 1 => some [.timeB]
  | 2 => some [.timeA, .timeB]
  | _ => none

/-- 11.4: each named base's count and period index after the command. -/
def State.baseData (s : State) (bs : List Base) : List Byte :=
  bs.flatMap (fun b => split2Nat (s.base b).count ++ split2 (s.base b).periodIndex)

/-- R68: an action on every named base in one step, refused where any of them fails its check. -/
def State.controlBases (s : State) (b : Byte) (refuses : TimeBase → Bool) (f : TimeBase → TimeBase) : CommandResult :=
  match basesNamed b with
  | none => .error .badIndex
  | some bs =>
    if bs.any (fun b => refuses (s.base b)) then .error .badState
    else
      let s := bs.foldl (fun s b => s.setBase b (f (s.base b))) s
      .ok (s.baseData bs, s)

/-- R68 START: RUNNING, with a tick interval begun. -/
def TimeBase.start (t : TimeBase) : TimeBase := { t with running := true, interval := 0 }

/-- R68 STOP: STOPPED, the partly passed interval dropped. -/
def TimeBase.stop (t : TimeBase) : TimeBase := { t with running := false, interval := 0 }

/-- R68 ZERO. -/
def TimeBase.zeroed (t : TimeBase) : TimeBase := { t with count := 0, periodIndex := 0 }

def timebaseStartBody (b : Byte) : State → State :=
  immediate 0x50#8 (fun s => s.controlBases b (·.running) TimeBase.start)

def timebaseStopBody (b : Byte) : State → State :=
  immediate 0x50#8 (fun s => s.controlBases b (fun t => !t.running) TimeBase.stop)

def timebaseZeroBody (b : Byte) : State → State :=
  immediate 0x50#8 (fun s => s.controlBases b (·.running) TimeBase.zeroed)

/-- TIMEBASE_CONTROL with action START (R68). -/
def execTimebaseStart (b : Byte) (s : State) : Host.Outcome State Fault Refusal :=
  .next (command 0x50#8 (timebaseStartBody b) s)

/-- TIMEBASE_CONTROL with action STOP (R68). -/
def execTimebaseStop (b : Byte) (s : State) : Host.Outcome State Fault Refusal :=
  .next (command 0x50#8 (timebaseStopBody b) s)

/-- TIMEBASE_CONTROL with action ZERO (R68). -/
def execTimebaseZero (b : Byte) (s : State) : Host.Outcome State Fault Refusal :=
  .next (command 0x50#8 (timebaseZeroBody b) s)

/-! ### Event queue (R175) -/

/-- R175: the oldest record leaves, or EMPTY with the pending lost count. -/
def State.pop (s : State) : CommandResult :=
  match s.events.records with
  | [] => .ok ([0#8, 0#8, byteOf s.events.lost], s)
  | r :: rest => .ok (1#8 :: byteOf rest.length :: r.bytes, s.setEvents { s.events with records := rest })

def popEventBody : State → State := immediate 0x70#8 State.pop

/-- POP_EVENT (R175). -/
def execPopEvent (s : State) : Host.Outcome State Fault Refusal := .next (command 0x70#8 popEventBody s)

/-! ### NOP and READ_RESULT (R158) -/

/-- NOP (R158): accepted whatever the command slot's state. -/
def execNop (s : State) : Host.Outcome State Fault Refusal := .next (s.endFrame nopBody)

/-- READ_RESULT (R158): accepted whatever the command slot's state. -/
def execReadResult (s : State) : Host.Outcome State Fault Refusal := .next (s.endFrame readResultBody)

end Sys2Proof.Machine
end

