-- ==== Sys2Proof/Machine/Frames.lean ====
section
/-! DEFINITION. FRAME_START and FRAME_END (R148, R151, R153 to R158): the reply fixed at the start; at the end the frame is dropped,
rejected, refused, or its command taken in the same step. -/

namespace Sys2Proof.Machine

open Wire

/-- R151: MSEL_N falls and the reply is fixed; while RESET_N is asserted the frame is dropped from its start (R148, R168). -/
def State.startFrame (s : State) : State :=
  match s.link.frame with
  | some _ => s
  | none =>
    s.setLink { s.link with
      frame := some { choice := s.link.choice, reply := if s.inReset then [] else s.chosenReply, dropped := s.inReset } }

/-- FRAME_START (R151); MSEL_N is already low while a frame is in progress (DESIGN CHOICE, notes/assumptions/12.md). -/
def execFrameStart (s : State) : Host.Outcome State Fault Refusal := .next s.newCycle.startFrame

/-- R156, R157, R158: the command a frame carries, taken in the step in which the frame ends. No frame's bytes decode to one of
the last sixteen constructors. -/
def runCommand (c : Instr) (s : State) : State :=
  match c with
  | .nop => nopBody s
  | .readResult => readResultBody s
  | .readTable k i => readTableBody k i s
  | .writeTableWindow i f => writeTableWindowBody i f s
  | .writeTableGroup i f => writeTableGroupBody i f s
  | .writeTableSafe i f => writeTableSafeBody i f s
  | .writeTableWatch i f => writeTableWatchBody i f s
  | .writeTableTimebase i f => writeTableTimebaseBody i f s
  | .writeTableLines i f => writeTableLinesBody i f s
  | .writeTableMemport i b => writeTableMemportBody i b s
  | .groupStart g => groupStartBody g s
  | .groupStopDiscard g => groupStopDiscardBody g s
  | .groupStopFlush g => groupStopFlushBody g s
  | .sealBatch g => sealBody g s
  | .release g => releaseBody g s
  | .readStatus g => readStatusBody g s
  | .readStatusClear g => readStatusClearBody g s
  | .forceFault g => forceFaultBody g s
  | .clearFault g f => clearFaultBody g f s
  | .armWatch w => armWatchBody w s
  | .disarmWatch w => disarmWatchBody w s
  | .setReference w r m => setReferenceBody w r m s
  | .timebaseStart b => timebaseStartBody b s
  | .timebaseStop b => timebaseStopBody b s
  | .timebaseZero b => timebaseZeroBody b s
  | .popEvent => popEventBody s
  | .peek a => peekBody a s
  | .poke a d m => pokeBody a d m s
  | .softReset => softResetBody s
  | .upstreamRequest _ _ _ _ => s
  | .responseIssue _ _ => s
  | .memoryGrant => s
  | .transactionPerformed _ _ => s
  | .drainTakeItem => s
  | .endReport => s
  | .tick _ => s
  | .periodMark _ => s
  | .settleWindowEnd _ => s
  | .releaseLineQualifiedEdge _ _ _ => s
  | .faultLineQualifiedEdge _ _ _ => s
  | .frameStart => s
  | .frameEnd _ => s
  | .softResetComplete => s
  | .powerOnReset => s
  | .powerOnResetEnd _ _ => s

/-- R158: NOP and READ_RESULT are accepted whatever the state of the command slot. -/
def alwaysAccepted (code : Byte) : Bool := code == 0x00#8 || code == 0x01#8

/-- R155: an accepted frame is decoded and its command taken or refused. -/
def takeFrame (code : Byte) (fields : List Byte) (s : State) : State :=
  match decodeCommand code fields with
  | .ok c => runCommand c s
  | .error status => s.refuseCommand status code

/-- R153: the BUSY check, the last of the three. -/
def checkBusy (code : Byte) (fields : List Byte) (s : State) : State :=
  if alwaysAccepted code then takeFrame code fields s else s.unlessBusy code (takeFrame code fields)

/-- R153: a frame whose length byte is there: FRAME_SHORT, BAD_CRC, then BUSY. Bytes after the CRC are padding (R149). -/
def checkFrame (code len : Byte) (body : List Byte) (s : State) : State :=
  let fields := body.take len.toNat
  match body.drop len.toNat with
  | [] => s.rejectFrame .frameShort code
  | c :: _ => if c = crc (code :: len :: fields) then checkBusy code fields s else s.rejectFrame .badCrc code

/-- R153: the bytes of a frame that holds at least one whole byte. -/
def frameBody (code : Byte) (rest : List Byte) (s : State) : State :=
  match rest with
  | [] => s.rejectFrame .frameShort code
  | len :: body => checkFrame code len body s

/-- R148, R153: MSEL_N rises; a frame in which no whole byte was sampled has no effect. -/
def State.finishFrame (s : State) (bytes : List Byte) : State :=
  match bytes with
  | [] => s.newCycle.noFrame
  | code :: rest => s.endFrame (frameBody code rest)

/-- FRAME_END (R153), with the bits sampled on MDI. -/
def execFrameEnd (mdi : List Bool) (s : State) : Host.Outcome State Fault Refusal := .next (s.finishFrame (bytesOfBits mdi))

end Sys2Proof.Machine
end

