-- ==== Sys2Proof/Machine/Parts.lean ====
section
/-! DEFINITION. The meanings of the steps that are not management commands: the upstream link's, the memory port's, the drain
engine's, the time bases', the lines' and the settle windows'. While RESET_N is asserted none of them has an effect but the
turning away of a request and the following of a pin (DEDUCED, notes/assumptions/22.md). -/

namespace Sys2Proof.Machine

/-- UPSTREAM_REQUEST (R1, R4 to R9). -/
def execUpstreamRequest (init tag : BitVec 2) (kind : ReqKind) (addr : WordAddr) (s : State) :
    Host.Outcome State Fault Refusal := .next (s.newCycle.upstreamRequest init tag kind addr)

/-- RESPONSE_ISSUE (R2, R12). -/
def execResponseIssue (init tag : BitVec 2) (s : State) : Host.Outcome State Fault Refusal := .next (s.newCycle.issueResponse init tag)

/-- MEMORY_GRANT (R102). -/
def execMemoryGrant (s : State) : Host.Outcome State Fault Refusal := .next s.newCycle.arbitrate

/-- TRANSACTION_PERFORMED (R100, R101). -/
def execTransactionPerformed (error : Bool) (rdata : Word) (s : State) : Host.Outcome State Fault Refusal :=
  .next (s.newCycle.performed error rdata)

/-- DRAIN_TAKE_ITEM (R87). -/
def execDrainTakeItem (s : State) : Host.Outcome State Fault Refusal := .next s.newCycle.decideItem

/-- END_REPORT (R96). -/
def execEndReport (s : State) : Host.Outcome State Fault Refusal := .next s.newCycle.endItem

/-- TICK (R67): a STOPPED base makes no ticks; the tick that finds the count at period minus one is the period mark
(DEDUCED, notes/assumptions/6.md). -/
def execTick (b : Base) (s : State) : Host.Outcome State Fault Refusal :=
  .next (if (s.base b).running then s.newCycle.tickBase b else s.newCycle)

/-- PERIOD_MARK (R67, R70): the tick of a running base whose count is at period minus one (DEDUCED, notes/assumptions/6.md). -/
def execPeriodMark (b : Base) (s : State) : Host.Outcome State Fault Refusal :=
  .next (if s.atMark b then s.newCycle.mark b else s.newCycle)

/-- SETTLE_WINDOW_END (R145): what the mark that brings a watch's settle marks remaining to 0 does at the watch, when the next tick is
that mark (DESIGN CHOICE, notes/assumptions/8.md); with its settle base STOPPED the window stays open. -/
def execSettleWindowEnd (w : Fin 12) (s : State) : Host.Outcome State Fault Refusal :=
  .next (if (s.watch w).marks = 1 && s.markDue (s.watch w).settleBase then s.newCycle.settleMarkAt w else s.newCycle)

/-- RELEASE_LINE_QUALIFIED_EDGE (R72, R73); while RESET_N is asserted only the pin moves. -/
def execReleaseLineQualifiedEdge (n : Fin 4) (high : Bool) (cycles : Nat) (s : State) : Host.Outcome State Fault Refusal :=
  .next (s.newCycle.sampleReleaseLine n high (if s.inReset then 0 else cycles))

/-- FAULT_LINE_QUALIFIED_EDGE (R107, R108); while RESET_N is asserted only the pin moves. -/
def execFaultLineQualifiedEdge (n : Fin 2) (high : Bool) (cycles : Nat) (s : State) : Host.Outcome State Fault Refusal :=
  .next (s.newCycle.sampleFaultLine n high (if s.inReset then 0 else cycles))

end Sys2Proof.Machine
end

