-- ==== Sys2Proof/Machine/Dispatch.lean ====
section
/-! DEFINITION. One arm for each command: a direct call of its meaning. -/

namespace Sys2Proof.Machine

def exec (i : Instr) (s : State) : Host.Outcome State Fault Refusal :=
  match i with
  | .upstreamRequest init tag kind addr => Sys2Proof.Machine.execUpstreamRequest init tag kind addr s
  | .responseIssue init tag => Sys2Proof.Machine.execResponseIssue init tag s
  | .memoryGrant => Sys2Proof.Machine.execMemoryGrant s
  | .transactionPerformed error rdata => Sys2Proof.Machine.execTransactionPerformed error rdata s
  | .drainTakeItem => Sys2Proof.Machine.execDrainTakeItem s
  | .endReport => Sys2Proof.Machine.execEndReport s
  | .tick base => Sys2Proof.Machine.execTick base s
  | .periodMark base => Sys2Proof.Machine.execPeriodMark base s
  | .settleWindowEnd watch => Sys2Proof.Machine.execSettleWindowEnd watch s
  | .releaseLineQualifiedEdge line high cycles => Sys2Proof.Machine.execReleaseLineQualifiedEdge line high cycles s
  | .faultLineQualifiedEdge line high cycles => Sys2Proof.Machine.execFaultLineQualifiedEdge line high cycles s
  | .frameStart => Sys2Proof.Machine.execFrameStart s
  | .frameEnd mdi => Sys2Proof.Machine.execFrameEnd mdi s
  | .nop => Sys2Proof.Machine.execNop s
  | .readResult => Sys2Proof.Machine.execReadResult s
  | .readTable kind index => Sys2Proof.Machine.execReadTable kind index s
  | .writeTableWindow index fields => Sys2Proof.Machine.execWriteTableWindow index fields s
  | .writeTableGroup index fields => Sys2Proof.Machine.execWriteTableGroup index fields s
  | .writeTableSafe index fields => Sys2Proof.Machine.execWriteTableSafe index fields s
  | .writeTableWatch index fields => Sys2Proof.Machine.execWriteTableWatch index fields s
  | .writeTableTimebase index fields => Sys2Proof.Machine.execWriteTableTimebase index fields s
  | .writeTableLines index fields => Sys2Proof.Machine.execWriteTableLines index fields s
  | .writeTableMemport index burst => Sys2Proof.Machine.execWriteTableMemport index burst s
  | .groupStart group => Sys2Proof.Machine.execGroupStart group s
  | .groupStopDiscard group => Sys2Proof.Machine.execGroupStopDiscard group s
  | .groupStopFlush group => Sys2Proof.Machine.execGroupStopFlush group s
  | .sealBatch group => Sys2Proof.Machine.execSeal group s
  | .release group => Sys2Proof.Machine.execRelease group s
  | .readStatus group => Sys2Proof.Machine.execReadStatus group s
  | .readStatusClear group => Sys2Proof.Machine.execReadStatusClear group s
  | .forceFault group => Sys2Proof.Machine.execForceFault group s
  | .clearFault group force => Sys2Proof.Machine.execClearFault group force s
  | .armWatch watch => Sys2Proof.Machine.execArmWatch watch s
  | .disarmWatch watch => Sys2Proof.Machine.execDisarmWatch watch s
  | .setReference watch reference compareMask => Sys2Proof.Machine.execSetReference watch reference compareMask s
  | .timebaseStart base => Sys2Proof.Machine.execTimebaseStart base s
  | .timebaseStop base => Sys2Proof.Machine.execTimebaseStop base s
  | .timebaseZero base => Sys2Proof.Machine.execTimebaseZero base s
  | .popEvent => Sys2Proof.Machine.execPopEvent s
  | .peek addr => Sys2Proof.Machine.execPeek addr s
  | .poke addr data mask => Sys2Proof.Machine.execPoke addr data mask s
  | .softReset => Sys2Proof.Machine.execSoftReset s
  | .softResetComplete => Sys2Proof.Machine.execSoftResetComplete s
  | .powerOnReset => Sys2Proof.Machine.execPowerOnReset s
  | .powerOnResetEnd releasePins faultPins => Sys2Proof.Machine.execPowerOnResetEnd releasePins faultPins s

end Sys2Proof.Machine
end

