-- ==== Sys2Proof/Machine/Step.lean ====
section
/-! DEFINITION. One step of the block: the command at the front of its queue, or one part-clock cycle on an empty queue
(DESIGN CHOICE, notes/assumptions/5.md). -/

namespace Sys2Proof.Machine

/-- Takes the command at the front of the queue and answers its meaning on the state with the queue's rest; with no command
waiting, one part-clock cycle passes. -/
def step (s : State) : Host.Outcome State Fault Refusal :=
  match s.pending with
  | [] => .next s.cycle
  | c :: rest => exec c { s with pending := rest }

/-- The state with the command a word spells put at the front of its queue; no word spells one (DESIGN CHOICE, notes/assumptions/24.md). -/
def State.withFetchWord (s : State) (nbits w : Nat) : State :=
  match decodeTableWord nbits w with
  | some c => { s with pending := c :: s.pending }
  | none => s

end Sys2Proof.Machine
end

