-- ==== Sys2Proof/Safety.lean ====
section
/-! DEFINITION. What the statements about this machine are said in: the link being free for a command and what a command leaves in
it, and the invariants that every step keeps. -/

namespace Sys2Proof.Safety

open Sys2Proof.Machine

/-- The outcome is a next state, and that state has the property. -/
def Reaches (o : Host.Outcome State Fault Refusal) (P : State → Prop) : Prop := ∃ t, o = .next t ∧ P t

/-- R183: the state in the next cycle of the upstream link, whose one-cycle signals have fallen. Every command is a cycle of its own
(notes/assumptions/18.md), so the state a command leaves is said over `quiet` of the state it finds. -/
def quiet (s : State) : State := { s with upstream := { s.upstream with indication := .idle, issued := none } }

/-! ### The management link -/

/-- R148: a frame that ends now is not dropped. -/
abbrev NotDropped (s : State) : Prop := s.inReset = false ∧ ∀ f ∈ s.link.frame, f.dropped = false

/-- R153, R148: a whole frame with a command is accepted and not rejected with BUSY: RESET_N is not asserted, was not in the frame in
progress, and no command is pending. -/
abbrev LinkReady (s : State) : Prop := NotDropped s ∧ s.link.pending = none

/-- R151: the notice left at the end of a frame that holds a whole byte. -/
def noticeAfter (s : State) : Option Notice :=
  match s.link.frame with
  | some f => if f.choice = .notice then none else s.link.notice
  | none => if s.link.choice = .notice then none else s.link.notice

/-- R152, R156: the link after a frame whose command wrote the result slot. -/
def linkAfter (s : State) (status : Status) (code : Byte) (data : List Byte) : Link :=
  { s.link with
    result := { status := status, echo := code, data := data }
    choice := .slot
    notice := noticeAfter s
    frame := none }

/-- R155: the state after a refused command: the result slot alone. -/
def refused (s : State) (status : Status) (code : Byte) : State := { quiet s with link := linkAfter s status code [] }

/-- R156: the state with the result of a taken command, over the effect already in `t`. -/
def taken (s t : State) (code : Byte) (data : List Byte) : State := { quiet t with link := linkAfter s .ok code data }

/-- R154: the state after a rejected frame: a notice, and the reply choice NOTICE. -/
def rejected (s : State) (status : Status) (echo : Byte) : State :=
  { quiet s with link := { s.link with notice := some { status := status, echo := echo }, choice := .notice, frame := none } }

/-- R151: a reply's bytes with the CRC over them. -/
def withCrc (bs : List Byte) : List Byte := bs ++ [Wire.crc bs]

/-- R151: the link in a frame that has just started with a reply. -/
def framed (s : State) (choice : ReplyChoice) (reply : List Byte) : State :=
  { quiet s with link := { s.link with frame := some { choice := choice, reply := reply, dropped := false } } }

/-- The byte of a group number. -/
def groupByte (g : Fin 8) : Byte := BitVec.ofNat 8 g.val

/-- The byte of a watch number. -/
def watchByte (w : Fin 12) : Byte := BitVec.ofNat 8 w.val

/-! ### Requests -/

/-- R1: the request with this initiator and tag is taken when presented. -/
abbrev Accepts (s : State) (init tag : BitVec 2) : Prop :=
  s.inReset = false ∧ s.link.pending ≠ some .softReset ∧ (s.slot (slotOf init tag)).state = .free

/-- R4, case 3: a request taken earlier is HELD with the word address. -/
abbrev HeldEarlier (s : State) (a : WordAddr) : Prop :=
  ∃ j : Fin 16, (s.slot j).state = .held ∧ (s.slot j).addr = a ∧ (s.slot j).order < s.upstream.nextOrder

/-- R4, cases 2 and 3, for a word of the window. -/
abbrev Holds (s : State) (w : Window) (a : WordAddr) : Prop := s.itemCurrent w.group = true ∨ HeldEarlier s a

/-- The upstream port after a request is taken into its slot as `x`, joined to the end of the pass queue or the hold list or to
neither. -/
def port (s : State) (i : Fin 16) (x : Slot) (pass held : List (Fin 16)) : Upstream :=
  { s.upstream with
    slots := s.upstream.slots.set i x
    passQueue := s.upstream.passQueue ++ pass
    holdList := s.upstream.holdList ++ held
    nextOrder := s.upstream.nextOrder + 1
    indication := .taken
    issued := none }

/-- R3: the slot of a request just taken, in a state, with an optional snapshot and prepared response. -/
def slotWith (s : State) (kind : ReqKind) (a : WordAddr) (state : SlotState) (snap : Option Snapshot)
    (response : Option Response) : Slot :=
  { state := state, kind := kind, addr := a, order := s.upstream.nextOrder, snapshot := snap,
    prepared := response.map (fun r => { response := r, performed := false }), returnMark := none }

/-- R6: the cause with which an owner's write is refused in a group state. -/
def ownerRefusal : GroupState → Option RefusalCause
  | .stopping => some .stopping
  | .safing => some .faulted
  | .faulted => some .faulted
  | .off => none
  | .active => none

/-- R7: the group after a refusal report. -/
def refusalCounted (gr : Group) : Group := { gr with refused := min (gr.refused + 1) 65535, refusalReported := true }

/-- R7: the event queue after a refusal report: a record for the first since the flag was clear. -/
def refusalEvents (s : State) (g : Fin 8) (cause : RefusalCause) (init : BitVec 2) : EventQueue :=
  if (s.group g).refusalReported then s.events else (s.submit (.writeRefused g cause init)).events

/-- R47: the write needs a new entry. -/
abbrev Joins (b : Batch) (a : WordAddr) (mask : Mask) : Prop := mask ≠ 0#4 ∧ ∀ e ∈ b.entries, e.addr ≠ a

/-- R49: an entry with a write merged in, lane by lane. -/
def merged (e : Entry) (data : Word) (mask : Mask) : Entry :=
  { e with data := mergeLanes mask e.data data, mask := e.mask ||| mask }

/-- R48 to R50: the OPEN batch after an accepted write. -/
def batchWith (b : Batch) (a : WordAddr) (data : Word) (mask : Mask) : Batch :=
  if mask = 0#4 then b
  else if Joins b a mask then
    { b with entries := b.entries ++ [{ addr := a, data := data, mask := mask, position := b.entries.length }] }
  else { b with entries := b.entries.map (fun e => if e.addr = a then merged e data mask else e) }

/-- R48 to R50: the group after an accepted write. -/
def groupWith (gr : Group) (b : Batch) (a : WordAddr) (data : Word) (mask : Mask) : Group :=
  { gr with opened := some (batchWith b a data mask), held := if Joins b a mask then gr.held + 1 else gr.held }

/-- R48: the free list after an accepted write. -/
def freeWith (s : State) (b : Batch) (a : WordAddr) (mask : Mask) : Nat :=
  if Joins b a mask then s.freeSlots - 1 else s.freeSlots

/-- R54: the batch as it is sealed. -/
def sealedBatch (b : Batch) (cause : SealCause) (queued : Bool) : Batch :=
  { b with state := if queued then .queued else .closed, sealCause := some cause, errorsSeen := 0 }

/-- R54: an ACTIVE group whose OPEN batch `b` has been sealed: a new OPEN batch, and the sealed one QUEUED at once under trigger
IMMEDIATE. -/
def groupSealed (gr : Group) (b : Batch) (cause : SealCause) : Group :=
  { gr with
    opened := some { seq := gr.nextSeq, state := .opened, entries := [], sealCause := none, errorsSeen := 0 }
    nextSeq := gr.nextSeq + 1
    other := some (sealedBatch b cause (gr.config.trigger == .immediate)) }

/-- R54, R83: the release queue after the seal of an ACTIVE group's batch. -/
def queueSealed (s : State) (g : Fin 8) (gr : Group) (b : Batch) : List Item :=
  if gr.config.trigger = .immediate then s.releaseQueue ++ [.batch g b.seq] else s.releaseQueue

/-! ### Held requests at an end report (R18) -/

/-- R18, R19: the slot returns to the pass queue with the group's return mark. -/
def returned (x : Slot) (g : Fin 8) : Slot := { x with state := .queued, returnMark := some g }

/-- R18: the slot is answered at the re-decode. -/
def answered (x : Slot) (r : Response) : Slot :=
  { x with state := .answering, returnMark := none, prepared := some { response := r, performed := false } }

/-- R47: why an owner's write that needs a new entry is refused, if it is. -/
def stagingRefusal (s : State) (gr : Group) (b : Batch) (a : WordAddr) (mask : Mask) : Option RefusalCause :=
  if Joins b a mask then
    (if gr.config.quota ≤ gr.held then some .quota else if s.freeSlots = 0 then some .poolFull else none)
  else none

/-- R9, R51, R57: the answer to an owner's write to an ACTIVE group with OPEN batch `b`. -/
def writeAnswer (s : State) (w : Window) (gr : Group) (b : Batch) (a : WordAddr) (mask : Mask) : Response :=
  match stagingRefusal s gr b a mask with
  | some cause => .refused cause
  | none => if w.isSealWord a then (if gr.other.isNone then .stagedSealed else .stagedSealPending) else .staged

/-- R7: a refusal's count and record. -/
def refusalMade (s : State) (g : Fin 8) (cause : RefusalCause) (init : BitVec 2) : State :=
  { s with groups := s.groups.set g (refusalCounted (s.group g)), events := refusalEvents s g cause init }

/-- R47 to R51, R53, R54: what that write does beside its answer. -/
def writeEffect (s : State) (w : Window) (b : Batch) (init : BitVec 2) (a : WordAddr) (data : Word) (mask : Mask) : State :=
  let gr := s.group w.group
  let new := groupWith gr b a data mask
  match stagingRefusal s gr b a mask with
  | some cause =>
    if gr.config.overflow = .trip then (refusalMade s w.group cause init).tripSource w.group (.pool gr.held)
    else refusalMade s w.group cause init
  | none =>
    if w.isSealWord a then
      (if gr.other.isNone then
        { s with
          groups := s.groups.set w.group (groupSealed new (batchWith b a data mask) .sealWord)
          releaseQueue := queueSealed s w.group new b
          freeSlots := freeWith s b a mask }
       else
        { s with groups := s.groups.set w.group { new with sealPending := true }, freeSlots := freeWith s b a mask })
    else { s with groups := s.groups.set w.group new, freeSlots := freeWith s b a mask }

/-- R18, R5, R6: what becomes of a held slot whose word lies in window `w`; `own` says whether its initiator is an owner. -/
def heldSlot (s : State) (w : Window) (own : Bool) (x : Slot) : Slot :=
  let gr := s.group w.group
  match x.kind with
  | .read =>
    if gr.state ≠ .off ∧ own ∧ w.readOwn ∧ x.snapshot = none ∧ (s.snapshot w.group x.addr).covered ≠ 0x0#4 then
      (if (s.snapshot w.group x.addr).covered = 0xF#4 then
        answered { x with snapshot := some (s.snapshot w.group x.addr) } (.data (s.snapshot w.group x.addr).value)
       else returned { x with snapshot := some (s.snapshot w.group x.addr) } w.group)
    else returned x w.group
  | .write _ mask =>
    if gr.state = .off ∨ (own = false ∧ w.foreign = .pass) then returned x w.group
    else if own = false then answered x (.refused .foreign)
    else match ownerRefusal gr.state, gr.opened with
      | some cause, _ => answered x (.refused cause)
      | none, some b => answered x (writeAnswer s w gr b x.addr mask)
      | none, none => answered x .staged

/-- R18, R6, R7, R9: what the re-decode of that slot does beside the slot. -/
def heldEffect (s : State) (w : Window) (own : Bool) (init : BitVec 2) (x : Slot) : State :=
  let gr := s.group w.group
  match x.kind with
  | .read => s
  | .write data mask =>
    if gr.state = .off ∨ (own = false ∧ w.foreign = .pass) then s
    else if own = false then refusalMade s w.group .foreign init
    else match ownerRefusal gr.state, gr.opened with
      | some cause, _ => refusalMade s w.group cause init
      | none, some b => writeEffect s w b init x.addr data mask
      | none, none => s

/-- R18: one held request decided again. A slot whose word lies in no enabled window is none of an item's group. -/
def heldStep (s : State) (i : Fin 16) : State :=
  match s.windowOf (s.slot i).addr with
  | none => s
  | some w =>
    { heldEffect s w (w.owners.getLsbD (i.val / 4)) (slotInit i) (s.slot i) with
      upstream := { s.upstream with
        slots := s.upstream.slots.set i (heldSlot s w (w.owners.getLsbD (i.val / 4)) (s.slot i)) } }

/-! ### A soft reset's reports (R166) -/

/-- Whether a requester is a watch's probe. -/
def isProbe : Requester → Bool
  | .probe _ => true
  | .pass _ => false
  | .drain => false
  | .peek => false
  | .poke => false

/-- R166: the reports made, once each block whose part is done in a state has reported: every slot FREE; the engine IDLE; engine and
port IDLE; no probe granted and not yet performed. -/
def reportsAt (r : BlockReports) (s : State) : BlockReports :=
  { upstream := r.upstream || decide (∀ i : Fin 16, (s.slot i).state = .free)
    drain := r.drain || s.drain.current.isNone
    port := r.port || (s.drain.current.isNone && s.port.current.isNone)
    watches := r.watches || !(s.port.current.any fun t => isProbe t.requester) }

/-- R166, R106: the state after a step of a soft reset in progress, its reports made; at the port's report the arbiter's turn returns
to DRAIN and its run count to 0. Outside a soft reset no block reports. -/
def reported (s : State) : State :=
  if s.link.pending = some .softReset then
    { s with
      link := { s.link with reports := reportsAt s.link.reports s }
      port :=
        if s.link.reports.port = false ∧ s.drain.current = none ∧ s.port.current = none then { s.port with turn := .drain, run := 0 }
        else s.port }
  else s

/-! ### The arbiter -/

/-- R102: who is granted, from the turn and from whether DRAIN, PASS and SERVICE are waiting. -/
def grantee : Turn → Bool → Bool → Bool → Option Turn
  | .drain, true, _, _ => some .drain
  | .drain, false, true, _ => some .pass
  | .drain, false, false, true => some .service
  | .pass, _, true, _ => some .pass
  | .pass, _, false, true => some .service
  | .pass, true, false, false => some .drain
  | .service, _, _, true => some .service
  | .service, true, _, false => some .drain
  | .service, false, true, false => some .pass
  | _, false, false, false => none

/-- R102: whom the arbiter of a state grants. -/
def granted (s : State) : Option Turn :=
  grantee s.port.turn s.drainWrite.isSome (!s.upstream.passQueue.isEmpty) s.serviceFront.isSome

/-- R102: the run count at a grant to PASS or SERVICE: 0 where DRAIN was looked at and not waiting. -/
def runCount (s : State) : Nat :=
  if s.drainWrite.isNone ∧ (s.port.turn = .drain ∨ (s.port.turn = .service ∧ s.serviceFront.isNone)) then 0 else s.port.run

/-! ### Batches of one group -/

/-- R60: the entries that a discard returns to the free list: the OPEN batch's, and a SEALED or QUEUED one's. -/
def discarded (gr : Group) : Nat :=
  entryCount gr.opened + (if gr.draining then 0 else entryCount gr.other)

/-- R60, R115: the group without its OPEN batch and its SEALED or QUEUED batch. -/
def withoutBatches (gr : Group) : Group :=
  { gr with
    opened := none
    other := if gr.draining then gr.other else none
    held := gr.held - discarded gr
    sealPending := false }

/-- R60: the release queue without the group's batch item. -/
def queueWithout (s : State) (g : Fin 8) : List Item :=
  s.releaseQueue.filter (fun it => match it with
    | .batch h _ => h != g
    | .safe _ => true)

/-- R114, R115: the group after its first trip. -/
def tripped (gr : Group) (t : TripSource) : Group :=
  { withoutBatches gr with
    state := .safing
    causes := t.cause.bit
    first := some t.firstFault
    safeIncomplete := false
    trips := min (gr.trips + 1) 65535 }

/-- R116: the safe job stands directly behind the last safe job of the queue. -/
def queueWithSafe (q : List Item) (g : Fin 8) : List Item :=
  q.filter (·.isSafe) ++ .safe g :: q.filter (fun it => !it.isSafe)

/-- R34: a new OPEN batch of the group. -/
def opens (gr : Group) : Group :=
  { gr with
    state := .active
    consecutive := 0
    opened := some { seq := gr.nextSeq, state := .opened, entries := [], sealCause := none, errorsSeen := 0 }
    nextSeq := gr.nextSeq + 1 }

/-- R125: the group after a clearing. -/
def cleared (gr : Group) : Group := opens { gr with causes := 0, first := none, safeIncomplete := false }

/-- R67, R70: a time base after its period mark. -/
def afterMark (t : TimeBase) : TimeBase :=
  { t with
    count := 0, periodIndex := t.periodIndex + 1, period := (t.pendingPeriod).getD t.period, pendingPeriod := none, interval := 0 }

/-- R67: the base is RUNNING and its next tick is its period mark. -/
abbrev AtMark (t : TimeBase) : Prop := t.running = true ∧ t.count + 1 = t.period

/-- R70: A's period mark, at which it stands, restarts B with a period mark of B. -/
abbrev RestartsB (s : State) : Prop := s.baseB.running = true ∧ s.baseB.bLock = true ∧ s.baseB.count ≠ 0

/-- R67, R70: the next tick makes a period mark of the base: its own, or for B the locked restart by A's. -/
def MarkDue (s : State) : Base → Prop
  | .timeA => AtMark s.baseA
  | .timeB => AtMark s.baseB ∨ (AtMark s.baseA ∧ RestartsB s)

/-- R145, R70: a period mark of base `b` is one of the settle base `x`. -/
abbrev MarkReaches (s : State) (b x : Base) : Prop := x = b ∨ (b = .timeA ∧ x = .timeB ∧ RestartsB s)

/-- R75, R83: the groups whose phase match comes at the base's count `n` are candidates, in increasing order of number. -/
def phaseCandidates (s : State) (b : Base) (n : Nat) (u : State) : State :=
  (List.finRange 8).foldl (fun u g =>
    if (s.group g).config.trigger = .timed ∧ (s.group g).config.base = b ∧ (s.group g).config.phase = n then u.candidate g else u) u

/-- R73, R83: the LINE groups of a release line are candidates, in increasing order of number. -/
def lineCandidatesOf (s : State) (n : Fin 4) (u : State) : State :=
  (List.finRange 8).foldl (fun u g =>
    if (s.group g).config.trigger = .line ∧ (s.group g).config.releaseLine = n then u.candidate g else u) u

/-- R141, R145: WATCH_MISMATCH of a watch `x`, then the trip source where its action is TRIP. -/
def mismatchMade (s : State) (w : Fin 12) (x : Watch) (cause : MismatchCause) : State :=
  if x.action = .trip then (s.submit (.watchMismatch w cause)).tripSource x.tripGroup (.watch w)
  else s.submit (.watchMismatch w cause)

/-- R145: what one period mark that reaches a watch with an open window leaves of it. -/
def windowMarked (x : Watch) : Watch :=
  { x with marks := x.marks - 1, deferred := if x.marks = 1 ∧ x.state = .compared .differs then false else x.deferred }

/-- R145: the watches whose deferred mismatch a period mark of base `b` lets out. -/
abbrev LetsOut (s : State) (b : Base) (w : Fin 12) : Prop :=
  (s.watch w).settleBase = b ∧ (s.watch w).marks = 1 ∧ (s.watch w).state = .compared .differs ∧ (s.watch w).deferred = true

/-- R83: the groups of the items of one kind that have joined the release queue, in their order there. -/
def joined (before after : List Item) (safe : Bool) : List (Fin 8) :=
  (after.filter fun it => it.isSafe == safe && !before.contains it).map (·.group)

/-- R83: what one event has queued stands in increasing order of group number, the safe jobs and the batch items each. -/
abbrev JoinInOrder (before after : List Item) : Prop :=
  (joined before after true).Pairwise (· < ·) ∧ (joined before after false).Pairwise (· < ·)

/-- R108, R83: a fault line that has become active is reported to every group that enables it, in increasing order of number. -/
def lineReported (s : State) (n : Fin 2) : State :=
  (List.finRange 8).foldl (fun u g => if (s.group g).config.lineEnabled n then u.tripSource g (.line n) else u) s

/-- R18: the slot's word lies in an enabled window of the group. -/
abbrev InGroup (s : State) (g : Fin 8) (i : Fin 16) : Prop := s.wordGroup (s.slot i).addr = some g

/-- R15: the upstream port after the start of an item of group `g`: the group's queued requests stand at the tail of the hold list, in
their order. -/
def itemStarted (s : State) (g : Fin 8) : Upstream :=
  { (quiet s).upstream with
    slots := Vector.ofFn fun i =>
      if i ∈ s.upstream.passQueue ∧ InGroup s g i then { s.slot i with state := .held } else s.slot i
    passQueue := s.upstream.passQueue.filter (fun i => ¬ InGroup s g i)
    holdList := s.upstream.holdList ++ s.upstream.passQueue.filter (fun i => InGroup s g i) }

/-- R18: the held slots of a group, in hold order. -/
def heldOf (s : State) (g : Fin 8) : List (Fin 16) := s.upstream.holdList.filter (fun i => InGroup s g i)

/-- No watch in MATCH or MISMATCH observes the word. -/
abbrev Unwatched (s : State) (a : WordAddr) : Prop :=
  ∀ w : Fin 12, (s.watch w).addr = a → (s.watch w).state ≠ .compared .agrees ∧ (s.watch w).state ≠ .compared .differs

/-- R93, R56, R37, R38: the group controller's part of a retirement of group `g`, from `u`, in which BATCH_RETIRED has been submitted, to
`t`; `gr` is the group without its retired batch. -/
def FollowsUp (u t : State) (g : Fin 8) (gr : Group) : Prop :=
  (∀ h : Fin 8, h ≠ g → t.group h = u.group h) ∧
  (u.link.pending = some .softReset →
    t.group g = { gr with state := .off } ∧ t.releaseQueue = u.releaseQueue ∧ t.events = u.events) ∧
  (u.link.pending ≠ some .softReset → gr.sealPending = false →
    (gr.state ≠ .stopping → t.group g = gr ∧ t.releaseQueue = u.releaseQueue ∧ t.events = u.events) ∧
    (gr.state = .stopping →
      t.group g = { gr with state := .off } ∧ t.releaseQueue = u.releaseQueue ∧
      t.events = (u.submit (.groupStopped g gr.stopOption)).events)) ∧
  (u.link.pending ≠ some .softReset → gr.sealPending = true → ∀ o, gr.opened = some o →
    t.events = u.events ∧
    (gr.state = .active →
      t.group g = groupSealed { gr with sealPending := false } o .pendingSeal ∧ t.releaseQueue = queueSealed u g gr o) ∧
    (gr.state = .stopping →
      t.group g = { gr with sealPending := false, opened := none, other := some (sealedBatch o .pendingSeal true) } ∧
      t.releaseQueue = u.releaseQueue ++ [.batch g o.seq]))

/-- R94: the retirement record of group `g`'s batch. -/
def retirementOf (s : State) (g : Fin 8) (b : Batch) (entries errors : Nat) : Retirement :=
  { lastSeq := some b.seq, entries := entries, errors := errors,
    stampCount := (s.base (s.group g).config.stampBase).count,
    stampIndex := (s.base (s.group g).config.stampBase).periodIndex }

/-- R144: a watch after a retirement of its settle group. -/
def windowOpened (x : Watch) (g : Fin 8) : Watch :=
  if x.settleGroup = some g ∧ x.settleLength ≠ 0 ∧ x.state ≠ .disarmed then { x with marks := x.settleLength } else x

/-! ### Invariants of the tables -/

/-- R23: no word lies in two enabled windows. -/
def WindowsDisjoint (s : State) : Prop :=
  ∀ m n : Fin 16, m ≠ n → ∀ a : WordAddr, ¬ (s.windows[m].covers a = true ∧ s.windows[n].covers a = true)

/-- R66, R67: the ranges of a time base's fields. -/
abbrev BaseOk (t : TimeBase) : Prop :=
  1 ≤ t.divider ∧ t.divider ≤ 256 ∧ 16 ≤ t.period ∧ t.period ≤ 65535 ∧ t.count < t.period ∧ t.interval < t.divider ∧
    ∀ p ∈ t.pendingPeriod, 16 ≤ p ∧ p ≤ 65535

/-- R66: both bases in range, and A's B lock always no. -/
abbrev BasesOk (s : State) : Prop := BaseOk s.baseA ∧ BaseOk s.baseB ∧ s.baseA.bLock = false

/-- R27: the ranges of a group configuration. -/
abbrev ConfigOk (c : GroupConfig) : Prop := c.phase ≤ 65534 ∧ c.skip ≤ 15 ∧ c.quota ≤ 512 ∧ c.missLimit ≤ 15

/-- R30, R76: the ranges of a group's counters. -/
abbrev CountersOk (gr : Group) : Prop :=
  gr.consecutive ≤ 15 ∧ gr.skipRemaining ≤ 15 ∧ gr.misses ≤ 65535 ∧ gr.overruns ≤ 65535 ∧ gr.refused ≤ 65535 ∧
    gr.trips ≤ 65535 ∧ gr.drainErrors ≤ 65535

/-- R27, R30, R76: every group's fields in range. -/
abbrev GroupsOk (s : State) : Prop := ∀ g : Fin 8, ConfigOk (s.group g).config ∧ CountersOk (s.group g)

/-- R172, R173: at most 32 records, and lost counts of at most 255. -/
abbrev EventsOk (s : State) : Prop :=
  s.events.records.length ≤ 32 ∧ s.events.lost ≤ 255 ∧ ∀ r ∈ s.events.records, r.lost ≤ 255

/-- R72, R107: a qualification count in progress is below its setting. -/
abbrev LinesOk (s : State) : Prop :=
  (∀ n : Fin 4, s.releaseLines[n].count = 0 ∨ s.releaseLines[n].count < s.releaseLines[n].qual) ∧
    ∀ n : Fin 2, s.faultLines[n].count = 0 ∨ s.faultLines[n].count < s.faultLines[n].qual

/-- R102, R103: the arbiter's values. -/
abbrev PortOk (s : State) : Prop := s.port.run ≤ 16 ∧ 1 ≤ s.port.burst ∧ s.port.burst ≤ 16

/-- R130, R131: the ranges of the watches' settle fields. -/
abbrev WatchesOk (s : State) : Prop := ∀ w : Fin 12, (s.watch w).settleLength ≤ 15 ∧ (s.watch w).marks ≤ 15

/-- R40, R43: a batch's errors seen and entries left are together at most 512, and every position is below 512. -/
abbrev BatchRange (b : Batch) : Prop := b.errorsSeen + b.entries.length ≤ 512 ∧ ∀ e ∈ b.entries, e.position < 512

/-- R42, R43, R94: the ranges of a group's batches, held count and retirement record; an OPEN batch has seen no errors. -/
abbrev BatchRangesOk (s : State) : Prop :=
  ∀ g : Fin 8, (∀ b ∈ (s.group g).opened, b.errorsSeen = 0 ∧ BatchRange b) ∧ (∀ b ∈ (s.group g).other, BatchRange b) ∧ (s.group g).held ≤ 512 ∧
    (s.group g).retirement.entries ≤ 512 ∧ (s.group g).retirement.errors ≤ 512

/-- Whether an item that is being written is a safe job. -/
def safeBeingWritten (d : Drain) : Bool :=
  match d.current, d.progress with
  | some (.safe _), .writing => true
  | _, _ => false

/-- R86, R94, R97: the drain engine's counts; a safe job being written has written at most one entry for each index it has passed. -/
abbrev DrainRangesOk (s : State) : Prop :=
  s.drain.errors ≤ s.drain.written ∧ s.drain.written ≤ 512 ∧ s.drain.taken ≤ 512 ∧
    (safeBeingWritten s.drain = true → s.drain.written ≤ s.drain.safeNext.val)

/-- Every counted field stands in the range its rule gives it. -/
abbrev RangesOk (s : State) : Prop :=
  BasesOk s ∧ GroupsOk s ∧ EventsOk s ∧ LinesOk s ∧ PortOk s ∧ WatchesOk s ∧ BatchRangesOk s ∧ DrainRangesOk s

/-! ### Batches, pool and release queue (R41 to R46, R83) -/

/-- R43: what an OPEN batch is. -/
abbrev OpenOk (b : Batch) : Prop :=
  b.state = .opened ∧ b.sealCause = none ∧ (b.entries.map (·.position)) = List.range b.entries.length

/-- R43: what a group's other batch is; it has the sequence before the OPEN batch's (R44). -/
abbrev OtherOk (b : Batch) : Prop :=
  b.state ≠ .opened ∧ b.sealCause.isSome = true ∧ (b.entries.map (·.position)).Pairwise (· < ·)

/-- R40, R43, R49: no two entries of a batch have one word, and every entry enables a lane. -/
abbrev EntriesOk (b : Batch) : Prop := (b.entries.map (·.addr)).Nodup ∧ ∀ e ∈ b.entries, e.mask ≠ 0#4

/-- R44: when a group holds an OPEN batch. -/
abbrev holdsOpen (gr : Group) : Prop := gr.state = .active ∨ (gr.state = .stopping ∧ gr.sealPending = true)

/-- R32, R44: the batches a group may hold in its state. -/
abbrev ShapeOk (gr : Group) : Prop :=
  (gr.opened.isSome = true ↔ holdsOpen gr) ∧
  (gr.sealPending = true → gr.opened.isSome = true ∧ gr.other.isSome = true) ∧
  (gr.state = .off ∨ gr.state = .faulted → gr.other = none) ∧
  (gr.state = .stopping → gr.other.isSome = true) ∧
  (∀ b ∈ gr.other, b.state = .closed → gr.state = .active) ∧
  (∀ b ∈ gr.other, b.state = .queued → gr.state = .active ∨ gr.state = .stopping)

/-- R40 to R46 for one group: shape, records, held count and quota, sequence numbers. -/
abbrev GroupBatchesOk (gr : Group) : Prop :=
  ShapeOk gr ∧
  gr.held = entryCount gr.opened + entryCount gr.other ∧
  gr.held ≤ gr.config.quota ∧
  (∀ b ∈ gr.opened, OpenOk b ∧ EntriesOk b ∧ gr.nextSeq = b.seq + 1) ∧
  (∀ b ∈ gr.other, OtherOk b ∧ EntriesOk b) ∧
  (∀ b ∈ gr.opened, ∀ d ∈ gr.other, b.seq = d.seq + 1)

/-- The staging slots in use, group by group. -/
def slotsInUse (s : State) : Nat :=
  (s.group 0).held + (s.group 1).held + (s.group 2).held + (s.group 3).held + (s.group 4).held + (s.group 5).held +
    (s.group 6).held + (s.group 7).held

/-- R83: what an item of the release queue stands for: its group's QUEUED batch, or the safe job of a SAFING group. -/
def itemFits (s : State) : Item → Bool
  | .batch g q => match (s.group g).other with
    | some b => b.state == .queued && b.seq == q
    | none => false
  | .safe g => (s.group g).state == .safing

/-- R86, R97: what the item being written stands for: its group's DRAINING batch, or the safe job of a SAFING group, with the engine at
an enabled entry of that group. -/
def writtenFits (s : State) : Item → Bool
  | .batch g q => match (s.group g).other with
    | some b => b.state == .draining && b.seq == q
    | none => false
  | .safe g =>
    (s.group g).state == .safing && !s.releaseQueue.contains (.safe g) && s.safeTable[s.drain.safeNext].enabled &&
      s.safeTable[s.drain.safeNext].group == g

/-- R83: at most one item per group; safe jobs ahead of batch items; a batch item names its group's QUEUED batch, and a QUEUED batch
has its item; a safe job's group is SAFING. -/
abbrev QueueOk (s : State) : Prop :=
  (s.releaseQueue.map (·.group)).Nodup ∧
  (∀ it ∈ s.releaseQueue.dropWhile (·.isSafe), it.isSafe = false) ∧
  (∀ g : Fin 8, ∀ b ∈ (s.group g).other, b.state = .queued → Item.batch g b.seq ∈ s.releaseQueue) ∧
  ∀ it ∈ s.releaseQueue, itemFits s it = true

/-- R86, R90, R97: a batch is DRAINING exactly while its item is current with progress WRITING, with entries left to write; a safe job
that is current with progress WRITING has a SAFING group and no second item; a DRAIN write at the port is the one the engine has raised. -/
abbrev DrainOk (s : State) : Prop :=
  (∀ g : Fin 8, ∀ b ∈ (s.group g).other, b.state = .draining →
    s.drain.current = some (.batch g b.seq) ∧ s.drain.progress = .writing ∧ b.entries ≠ []) ∧
  (s.drain.progress = .writing → ∀ it ∈ s.drain.current, writtenFits s it = true) ∧
  (∀ t ∈ s.port.current, t.requester = .drain → ∃ x ∈ s.drainWrite, t.addr = x.1 ∧ t.kind = .write x.2.1 x.2.2)

/-- R38, R85: what stands during a soft reset. -/
abbrev SoftResetOk (s : State) : Prop :=
  s.softResetting = true →
    s.releaseQueue = [] ∧ ∀ g : Fin 8, (s.group g).opened = none ∧
      ((s.group g).state = .off ∨ (s.group g).state = .safing ∨ (s.group g).state = .stopping)

/-- R41: the slots in use and the free ones are the whole pool. -/
abbrev PoolOk (s : State) : Prop := slotsInUse s + s.freeSlots = 512

/-- The batches of all groups, the pool, the release queue and the drain engine fit together. -/
abbrev BatchesOk (s : State) : Prop :=
  (∀ g : Fin 8, GroupBatchesOk (s.group g)) ∧ PoolOk s ∧ QueueOk s ∧ DrainOk s ∧ SoftResetOk s

/-! ### Requests (R3, R10, R15, R19) -/

/-- R3: the fields that go with a slot's state. -/
abbrev SlotOk (x : Slot) : Prop :=
  (x.state = .answering ↔ x.prepared.isSome = true) ∧
  (x.returnMark.isSome = true → x.state = .queued ∨ x.state = .held ∨ x.state = .performing) ∧
  (x.state = .free → x.snapshot = none)

/-- R10, R15: the pass queue holds the QUEUED slots and the hold list the HELD ones, none twice. -/
abbrev ListsOk (s : State) : Prop :=
  s.upstream.passQueue.Nodup ∧ s.upstream.holdList.Nodup ∧
  (∀ i : Fin 16, i ∈ s.upstream.passQueue ↔ (s.slot i).state = .queued) ∧
  (∀ i : Fin 16, i ∈ s.upstream.holdList ↔ (s.slot i).state = .held)

/-- R100: the slot of a PASS transaction is PERFORMING; the drain engine and pokes write, probes and peeks read. -/
def requesterFits (s : State) (t : Transaction) : Bool :=
  match t.requester with
  | .pass i => (s.slot i).state == .performing
  | .drain => t.kind != .read
  | .poke => t.kind != .read
  | .peek => t.kind == .read
  | .probe _ => t.kind == .read

/-- R100: a slot is PERFORMING exactly while its transaction is at the port; the drain engine and pokes write, probes and peeks
read. -/
abbrev PortFits (s : State) : Prop :=
  (∀ i : Fin 16, (s.slot i).state = .performing ↔
    s.port.current = some { requester := .pass i, kind := (s.slot i).kind, addr := (s.slot i).addr }) ∧
  ∀ t ∈ s.port.current, requesterFits s t = true

/-- R15, R17, R89: while an item is current no request of its group stands in the pass queue, and every held request is of its
group; with no item current none is held. -/
abbrev HoldOk (s : State) : Prop :=
  (∀ it ∈ s.drain.current, ∀ i ∈ s.upstream.passQueue, s.wordGroup (s.slot i).addr ≠ some it.group) ∧
  (∀ i ∈ s.upstream.holdList, ∃ it ∈ s.drain.current, s.wordGroup (s.slot i).addr = some it.group)

/-- R19, R99: a group waits for clearance exactly while a slot carries its return mark. -/
abbrev ClearanceOk (s : State) : Prop :=
  ∀ g : Fin 8, s.drain.clearanceWait[g] = true ↔ ∃ i : Fin 16, (s.slot i).returnMark = some g

/-- The request table, its two lists, the port and the clearance flags fit together. -/
abbrev RequestsOk (s : State) : Prop :=
  (∀ i : Fin 16, SlotOk (s.slot i)) ∧ ListsOk s ∧ PortFits s ∧ HoldOk s ∧ ClearanceOk s

/-! ### Memory and watches (R131) -/

/-- The SRAM's known contents stand in their canonical form. -/
abbrev MemoryOk (s : State) : Prop := memoryWf s.mem = true

/-- R131: what a watch in MATCH or MISMATCH last found. -/
def foundOf : WatchState → Option Found
  | .compared f => some f
  | .disarmed => none
  | .arming _ => none

/-- R131: the state is ARMING. -/
def isArming : WatchState → Bool
  | .arming _ => true
  | .disarmed => false
  | .compared _ => false

/-- R131: a watch in MATCH or MISMATCH has a shadow equal to the memory word at its address; and its state is what the shadow
compared with the reference gives. -/
abbrev ShadowsOk (s : State) : Prop :=
  ∀ w : Fin 12, ∀ f ∈ foundOf (s.watch w).state,
    knownWord s.mem (s.watch w).addr = some (s.watch w).shadow ∧ (s.watch w).compare (s.watch w).shadow = f

/-- R104, R131, R136: a probe is in the service list exactly while RAISED, and once; an ARMING watch has one RAISED or IN_FLIGHT, and
the one IN_FLIGHT is at the port; a deferred mismatch belongs to a watch in MISMATCH, or re-arming from it. -/
abbrev ProbesOk (s : State) : Prop :=
  s.port.service.Nodup ∧
  ∀ w : Fin 12,
    (ServiceRequest.probe w ∈ s.port.service ↔ (s.watch w).probe = .raised) ∧
    (isArming (s.watch w).state = true ↔ (s.watch w).probe = .raised ∨ (s.watch w).probe = .inFlight) ∧
    ((s.watch w).probe = .inFlight →
      s.port.current = some { requester := .probe w, kind := .read, addr := (s.watch w).addr }) ∧
    ((s.watch w).probe = .orphaned → ∃ t ∈ s.port.current, t.requester = .probe w) ∧
    ((s.watch w).deferred = true → (s.watch w).state = .compared .differs ∨ (s.watch w).state = .arming (.reArm .differs))

/-- R152: a request of the service list that is a peek or poke is the pending command's. -/
def serviceFits (s : State) : ServiceRequest → Bool
  | .probe _ => true
  | .peek a => s.link.pending == some (.peek a)
  | .poke a d m => s.link.pending == some (.poke a d m)

/-- R152: a transaction at the port that is a peek or poke is the pending command's. -/
def commandFits (s : State) (t : Transaction) : Bool :=
  match t.requester, t.kind with
  | .peek, _ => s.link.pending == some (.peek t.addr)
  | .poke, .write d m => s.link.pending == some (.poke t.addr d m)
  | .poke, .read => false
  | .pass _, _ => true
  | .drain, _ => true
  | .probe _, _ => true

/-- Whether a request of the service list is a peek or poke. -/
def isPeekPoke : ServiceRequest → Bool
  | .probe _ => false
  | .peek _ => true
  | .poke _ _ _ => true

/-- R104, R152, R157: a peek or poke in the service list or at the port is the pending command's, and in one of the two places. -/
abbrev PeekPokeOk (s : State) : Prop :=
  (∀ r ∈ s.port.service, serviceFits s r = true) ∧ (∀ t ∈ s.port.current, commandFits s t = true) ∧
  ∀ r ∈ s.port.service, isPeekPoke r = true → ∀ t ∈ s.port.current, t.requester ≠ .peek ∧ t.requester ≠ .poke

/-- The memory's known contents, the shadows, the probes and the service list fit together. -/
abbrev ObservationOk (s : State) : Prop := MemoryOk s ∧ ShadowsOk s ∧ ProbesOk s ∧ PeekPokeOk s

end Sys2Proof.Safety
end

