-- ==== Sys2Proof/Certificates/Slice0/Obligations.lean ====
section
/-! DEFINITION. The statements for the provers. A completion is said as an equation with a next state, or with `Reaches`; the hypotheses
speak of the state and the operands alone. "Nothing else changes" is said over `quiet s`: the upstream link's one-cycle signals fall
with every command (R183; each command is a cycle of its own, DESIGN CHOICE, notes/assumptions/18.md). -/

open Sys2Proof Sys2Proof.Machine Sys2Proof.Safety

/-! ## The step -/

/-- A step takes the command at the front of the queue and runs it on the state with the queue's rest. -/
def Obligations.StepRunsFront : Prop :=
  ∀ (c : Instr) (rest : List Instr) (s : State),
    s.pending = c :: rest → step s = exec c { s with pending := rest }

/-- With no command waiting one part-clock cycle passes. With both bases STOPPED and every line at its qualified level, only the
one-cycle signals fall and counts in progress are cleared; a base whose interval is not over only counts a cycle; while RESET_N is
asserted only the signals fall. The last cycle of a running base's tick interval makes its tick: with no group matching the new
count, the count rises by one and the interval begins again. That a step on an empty queue is one part-clock cycle, and the order
within it, are the model's choice (DESIGN CHOICE, notes/assumptions/5.md). So are the signals' fall in every such step (DESIGN
CHOICE, notes/assumptions/18.md) and, while RESET_N is asserted, the lack of any other effect its reading (DEDUCED,
notes/assumptions/22.md). -/
def Obligations.IdleQueueCycle : Prop :=
  (∀ (s : State),
      s.pending = [] →
      (s.inReset = true →
        step s = .next (quiet s)) ∧
      (s.inReset = false →
        (s.baseA.running = true → s.baseA.interval + 1 < s.baseA.divider) →
        (s.baseB.running = true → s.baseB.interval + 1 < s.baseB.divider) →
        (∀ n : Fin 4, s.releaseLines[n].pin = s.releaseLines[n].level) →
        (∀ n : Fin 2, s.faultLines[n].pin = s.faultLines[n].level) →
        step s = .next { quiet s with
          baseA := if s.baseA.running then { s.baseA with interval := s.baseA.interval + 1 } else s.baseA
          baseB := if s.baseB.running then { s.baseB with interval := s.baseB.interval + 1 } else s.baseB
          releaseLines := s.releaseLines.map (fun l => { l with count := 0 })
          faultLines := s.faultLines.map (fun l => { l with count := 0 }) })) ∧
  (∀ (s : State),
      s.pending = [] → s.inReset = false → s.baseA.running = true → s.baseB.running = false →
      s.baseA.divider ≤ s.baseA.interval + 1 → s.baseA.count + 1 < s.baseA.period →
      (∀ g : Fin 8, (s.group g).config.trigger = .timed → (s.group g).config.base = .timeA →
        (s.group g).config.phase ≠ s.baseA.count + 1) →
      (∀ n : Fin 4, s.releaseLines[n].pin = s.releaseLines[n].level) →
      (∀ n : Fin 2, s.faultLines[n].pin = s.faultLines[n].level) →
      step s = .next { quiet s with
        baseA := { s.baseA with count := s.baseA.count + 1, interval := 0 }
        releaseLines := s.releaseLines.map (fun l => { l with count := 0 })
        faultLines := s.faultLines.map (fun l => { l with count := 0 }) })

/-! ## Resets -/

/-- POWER_ON_RESET and POWER_ON_RESET_END from any state: every block holds its reset values, the lines' qualified levels are their
pins, the SRAM keeps what it holds but for the word of an abandoned transaction. RESET_N does not rise twice: with RESET_N high,
POWER_ON_RESET_END changes nothing; and while it is low, requests are turned away and the steps of the other blocks change nothing.
The upstream link's one-cycle signals fall with the command (R183; the model's choice, DESIGN CHOICE, notes/assumptions/18.md). The
values of fields that have no meaning after the reset (DESIGN CHOICE, 17.md), the forgotten word of an abandoned read (DEDUCED,
4.md) and the lack of effect of other steps while RESET_N is low (DEDUCED, 22.md) are the model's, in notes/assumptions. That MDO
carries 0x00 in the rest of a frame that the reset dropped (its reply is empty) is the model's choice (DESIGN CHOICE,
notes/assumptions/29.md). -/
def Obligations.PowerOnReset : Prop :=
  (∀ (releasePins : BitVec 4) (faultPins : BitVec 2) (s : State),
      Reaches (exec .powerOnReset s) fun t =>
        t.inReset = true ∧ t.upstream = Upstream.reset ∧ t.events = EventQueue.reset ∧ t.port = Port.reset ∧
        Reaches (exec (.powerOnResetEnd releasePins faultPins) t) fun u =>
          u = { State.reset with
            releaseLines := Vector.ofFn fun n =>
              { edge := .rising, qual := 0, level := releasePins.getLsbD n.val, count := 0, pin := releasePins.getLsbD n.val }
            faultLines := Vector.ofFn fun n =>
              { activeHigh := true, qual := 0, level := faultPins.getLsbD n.val, count := 0, pin := faultPins.getLsbD n.val }
            link := { Link.reset with frame := s.link.frame.map fun f => { f with reply := [], dropped := true } }
            mem := u.mem
            pending := s.pending } ∧
          ∀ b : Nat, readByte u.mem b =
            if ∃ x ∈ s.port.current, b / 4 = x.addr.toNat then none else readByte s.mem b) ∧
  (∀ (rp : BitVec 4) (fp : BitVec 2) (init tag : BitVec 2) (kind : ReqKind) (a : WordAddr) (s : State),
      (s.inReset = false → exec (.powerOnResetEnd rp fp) s = .next (quiet s)) ∧
      (s.inReset = true →
        exec (.upstreamRequest init tag kind a) s =
          .next { quiet s with upstream := { (quiet s).upstream with indication := .awayResetting } } ∧
        exec .memoryGrant s = .next (quiet s) ∧ exec .drainTakeItem s = .next (quiet s)))

/-- What READ_TABLE's records read after a power-on reset, and what the link, the pool and the event queue hold. That the line pins
are LOW is the model's choice (DESIGN CHOICE, notes/assumptions/17.md). -/
def Obligations.ResetValues : Prop :=
  (∀ n : Fin 16, State.reset.windows[n].bytes = List.replicate 11 0#8) ∧
  (∀ g : Fin 8, (State.reset.group g).config.bytes = List.replicate 10 0#8 ∧
    (State.reset.group g).statusBytes = List.replicate 37 0#8) ∧
  (∀ n : Fin 128, State.reset.safeTable[n].bytes = List.replicate 10 0#8) ∧
  (∀ w : Fin 12, (State.reset.watch w).bytes = List.replicate 23 0#8) ∧
  State.reset.baseA.bytes = [0#8, 1#8, 4#8, 0#8, 0#8, 0#8, 0#8, 0#8, 0#8, 0#8, 0#8, 0#8] ∧
  State.reset.baseB.bytes = [0#8, 1#8, 4#8, 0#8, 0#8, 0#8, 0#8, 0#8, 0#8, 0#8, 0#8, 0#8] ∧
  State.reset.linesBytes = List.replicate 14 0#8 ∧
  State.reset.port.burst = 4 ∧ State.reset.port.current = none ∧ State.reset.port.turn = .drain ∧ State.reset.port.run = 0 ∧
  State.reset.freeSlots = 512 ∧ State.reset.releaseQueue = [] ∧ State.reset.drain.current = none ∧
  State.reset.events.records = [] ∧ State.reset.events.lost = 0 ∧ State.reset.attention = false ∧
  State.reset.link.pending = none ∧ State.reset.link.notice = none ∧ State.reset.link.choice = .slot ∧
  State.reset.link.result = { status := .reset, echo := 0x00#8, data := [] } ∧
  (∀ i : Fin 16, (State.reset.slot i).state = .free) ∧ State.reset.upstream.passQueue = [] ∧ State.reset.upstream.holdList = []

/-- SOFT_RESET with nothing under way (no request outstanding, no item current, the port IDLE) completes in its own step: the
configuration stays, every group is OFF with its counters cleared, both bases are STOPPED at 0, and one PART_RESET record stands in
the queue with the number of records discarded. The interval of a stopped base is the model's field (DESIGN CHOICE,
notes/assumptions/17.md). That a soft reset with nothing under way completes in its own step is the model's reading (DEDUCED,
notes/assumptions/9.md). -/
def Obligations.SoftResetAtOnce : Prop :=
  ∀ (s : State),
    LinkReady s → (∀ i : Fin 16, (s.slot i).state = .free) → s.drain.current = none → s.port.current = none →
    (∀ g : Fin 8, (s.group g).draining = false) →
    Reaches (exec .softReset s) fun t =>
      t.link.pending = none ∧ t.link.result = { status := .ok, echo := 0x7F#8, data := [] } ∧ t.link.choice = .slot ∧
      t.windows = s.windows ∧ t.safeTable = s.safeTable ∧ t.releaseLines = s.releaseLines ∧ t.faultLines = s.faultLines ∧
      t.mem = s.mem ∧ t.releaseQueue = [] ∧ t.upstream.passQueue = [] ∧ t.upstream.holdList = [] ∧
      t.upstream.nextOrder = s.upstream.nextOrder ∧ (∀ i : Fin 16, t.slot i = s.slot i) ∧
      t.port.current = none ∧ t.port.turn = .drain ∧ t.port.run = 0 ∧ t.port.burst = s.port.burst ∧
      t.freeSlots = s.freeSlots + ((List.finRange 8).map fun g => discarded (s.group g)).sum ∧
      (∀ b : Base, t.base b = { s.base b with
        running := false, count := 0, periodIndex := 0, interval := 0, period := ((s.base b).pendingPeriod).getD (s.base b).period,
        pendingPeriod := none }) ∧
      (∀ g : Fin 8, t.group g = { withoutBatches (s.group g) with
        state := .off, skipRemaining := 0, misses := 0, overruns := 0, refused := 0, trips := 0, drainErrors := 0,
        consecutive := 0, causes := 0, first := none, safeIncomplete := false, refusalReported := false }) ∧
      (∀ w : Fin 12, t.watch w = { s.watch w with
        state := .disarmed, deferred := false, marks := 0, shadow := 0, probe := (s.watch w).probe.afterDisarm }) ∧
      t.events = { records := [{ body := .partReset s.events.records.length, stampCount := 0, stampIndex := 0, lost := s.events.lost }],
                   lost := 0 }

/-- SOFT_RESET in general: it completes in its own step exactly where every slot is FREE, the engine IDLE and the port IDLE, else it
stays PENDING with the reports of the blocks that are done; every slot is treated by its state, the queues are emptied, every group
that drains nothing is OFF, one that drains its batch is STOPPING or SAFING, and one whose safe job is being written is SAFING.
SOFT_RESET_COMPLETE completes a soft reset whose four reports have arrived, and changes nothing else. R166: a soft reset stays
pending until SOFT_RESET_COMPLETE finds its four reports (or a power-on reset ends it); until then a step leaves the reports as they
are or adds those of the blocks whose part is done after it. The upstream link's one-cycle signals fall with the command (R183; the
model's choice, DESIGN CHOICE, notes/assumptions/18.md). That a completion after the last report is the step SOFT_RESET_COMPLETE is
the model's reading (DEDUCED, notes/assumptions/9.md, 10.md, 19.md). -/
def Obligations.SoftResetTaken : Prop :=
  (∀ (s : State),
      LinkReady s →
      Reaches (exec .softReset s) fun t =>
        (if (∀ i : Fin 16, (s.slot i).state = .free) ∧ s.drain.current = none ∧ s.port.current = none then
          t.link.pending = none ∧ t.link.result = { status := .ok, echo := 0x7F#8, data := [] }
         else
          t.link.pending = some .softReset ∧ t.link.result = { status := .pending, echo := 0x7F#8, data := [] } ∧
          t.link.reports = reportsAt { upstream := false, drain := false, port := false, watches := false } s) ∧
        (if s.drain.current = none ∧ s.port.current = none then t.port.turn = .drain ∧ t.port.run = 0
         else t.port.turn = s.port.turn ∧ t.port.run = s.port.run) ∧
        t.releaseQueue = [] ∧ t.upstream.passQueue = [] ∧ t.upstream.holdList = [] ∧ t.port.current = s.port.current ∧
        t.drain.current = s.drain.current ∧ t.drain.progress = s.drain.progress ∧
        (∀ i : Fin 16, t.slot i = match (s.slot i).state, (s.slot i).prepared with
          | .free, _ => s.slot i
          | .performing, _ => s.slot i
          | .answering, some { response := _, performed := true } => s.slot i
          | _, _ => { s.slot i with
              state := .answering, snapshot := none, returnMark := none,
              prepared := some { response := .error .reset, performed := false } }) ∧
        (∀ g : Fin 8, (t.group g).opened = none ∧ (t.group g).sealPending = false ∧
          (t.group g).other = (if (s.group g).draining then (s.group g).other else none) ∧
          (t.group g).state =
            (if (s.group g).draining then (if (s.group g).state = .safing then .safing else .stopping)
             else if s.drain.current = some (.safe g) ∧ s.drain.progress = .writing then .safing
             else .off)) ∧
        (∀ w : Fin 12, (t.watch w).state = .disarmed ∧ (t.watch w).shadow = 0)) ∧
  (∀ (s : State),
      (s.link.pending = some .softReset →
        s.link.reports = { upstream := true, drain := true, port := true, watches := true } →
        exec .softResetComplete s = .next { quiet s with
          groups := s.groups.map fun gr => { gr with
            misses := 0, overruns := 0, refused := 0, trips := 0, drainErrors := 0, consecutive := 0, causes := 0, first := none,
            safeIncomplete := false, refusalReported := false }
          events := {
            records := [{ body := .partReset s.events.records.length, stampCount := s.baseA.count,
                          stampIndex := s.baseA.periodIndex, lost := s.events.lost }]
            lost := 0 }
          link := { s.link with pending := none, result := { status := .ok, echo := 0x7F#8, data := [] } } }) ∧
      (s.link.pending ≠ some .softReset ∨
        s.link.reports ≠ { upstream := true, drain := true, port := true, watches := true } →
        exec .softResetComplete s = .next (quiet s))) ∧
  (∀ (c : Instr) (s t : State),
      PeekPokeOk s → s.link.pending = some .softReset → exec c s = .next t → c ≠ .powerOnReset →
      (t.link.pending = some .softReset ∧ (t.link.reports = s.link.reports ∨ t.link.reports = reportsAt s.link.reports t)) ∨
      (t.link.pending = none ∧ c = .softResetComplete ∧
        s.link.reports = { upstream := true, drain := true, port := true, watches := true }))

/-! ## Upstream requests and responses -/

/-- R1's two conditions in their order, and R8: a turn-away leaves everything else as it was. The upstream link's one-cycle signals
fall with the command (R183; the model's choice, DESIGN CHOICE, notes/assumptions/18.md). -/
def Obligations.RequestTurnedAway : Prop :=
  ∀ (init tag : BitVec 2) (kind : ReqKind) (a : WordAddr) (s : State),
    (s.inReset = true ∨ s.link.pending = some .softReset →
      exec (.upstreamRequest init tag kind a) s =
        .next { quiet s with upstream := { (quiet s).upstream with indication := .awayResetting } }) ∧
    (s.inReset = false → s.link.pending ≠ some .softReset → (s.slot (slotOf init tag)).state ≠ .free →
      exec (.upstreamRequest init tag kind a) s =
        .next { quiet s with upstream := { (quiet s).upstream with indication := .awayTagBusy } })

/-- R4, cases 1 and 4; R6, a foreign write under policy PASS; and R5, a read that asks for no snapshot: the request joins the pass
queue, and nothing else changes. R4, cases 2 and 3: the request is held, whatever its kind and initiator. The upstream link's
one-cycle signals fall with the command (R183; the model's choice, DESIGN CHOICE, notes/assumptions/18.md). -/
def Obligations.RequestPassedOrHeld : Prop :=
  (∀ (init tag : BitVec 2) (kind : ReqKind) (a : WordAddr) (s : State),
      Accepts s init tag →
      (s.windowOf a = none ∨
        ∃ n : Fin 16, s.windowOf a = some s.windows[n] ∧ ¬ Holds s s.windows[n] a ∧
          ((s.group s.windows[n].group).state = .off ∨
            (s.windows[n].owners.getLsbD init.toNat = false ∧ (kind = .read ∨ s.windows[n].foreign = .pass)) ∨
            (kind = .read ∧ s.windows[n].readOwn = false))) →
      exec (.upstreamRequest init tag kind a) s = .next { quiet s with
        upstream := port s (slotOf init tag) (slotWith s kind a .queued none none) [slotOf init tag] [] }) ∧
  (∀ (init tag : BitVec 2) (kind : ReqKind) (a : WordAddr) (n : Fin 16) (s : State),
      Accepts s init tag → s.windowOf a = some s.windows[n] → Holds s s.windows[n] a →
      exec (.upstreamRequest init tag kind a) s = .next { quiet s with
        upstream := port s (slotOf init tag) (slotWith s kind a .held none none) [] [slotOf init tag] })

/-- R5: an owner's read with read-own-writes on, by its snapshot: passed without one, answered from one that covers the word, or
queued with one that covers a part. The upstream link's one-cycle signals fall with the command (R183; the model's choice, DESIGN
CHOICE, notes/assumptions/18.md). -/
def Obligations.OwnerReadForwarded : Prop :=
  ∀ (init tag : BitVec 2) (a : WordAddr) (n : Fin 16) (s : State),
    Accepts s init tag → s.windowOf a = some s.windows[n] → ¬ Holds s s.windows[n] a →
    (s.group s.windows[n].group).state ≠ .off → s.windows[n].owners.getLsbD init.toNat = true → s.windows[n].readOwn = true →
    exec (.upstreamRequest init tag .read a) s = .next { quiet s with
      upstream :=
        if (s.snapshot s.windows[n].group a).covered = 0x0#4 then
          port s (slotOf init tag) (slotWith s .read a .queued none none) [slotOf init tag] []
        else if (s.snapshot s.windows[n].group a).covered = 0xF#4 then
          port s (slotOf init tag)
            (slotWith s .read a .answering (some (s.snapshot s.windows[n].group a))
              (some (.data (s.snapshot s.windows[n].group a).value))) [] []
        else
          port s (slotOf init tag)
            (slotWith s .read a .queued (some (s.snapshot s.windows[n].group a)) none) [slotOf init tag] [] }

/-- R62: lane by lane, the OPEN batch's byte where its entry enables the lane, else the other batch's, else no value. The entries of
a DRAINING batch in the state are those not yet written (R90). -/
def Obligations.SnapshotLanes : Prop :=
  ∀ (g : Fin 8) (a : WordAddr) (i : Fin 4) (s : State),
    (∀ e, (entryOf (s.group g).opened a) = some e → e.mask.getLsbD i = true →
      (s.snapshot g a).covered.getLsbD i = true ∧ lane (s.snapshot g a).value i = lane e.data i) ∧
    ((∀ e, (entryOf (s.group g).opened a) = some e → e.mask.getLsbD i = false) →
      ∀ e, (entryOf (s.group g).other a) = some e → e.mask.getLsbD i = true →
        (s.snapshot g a).covered.getLsbD i = true ∧ lane (s.snapshot g a).value i = lane e.data i) ∧
    ((∀ e, (entryOf (s.group g).opened a) = some e → e.mask.getLsbD i = false) →
      (∀ e, (entryOf (s.group g).other a) = some e → e.mask.getLsbD i = false) →
        (s.snapshot g a).covered.getLsbD i = false)

/-- R6, R7: a write refused at decode is answered with its cause, counted, and reported once; it joins no batch. R47, R51, R117: a
write that needs a new entry is refused with QUOTA before POOL_FULL, counted and reported; under overflow policy TRIP a POOL trip
source follows. The upstream link's one-cycle signals fall with the command (R183; the model's choice, DESIGN CHOICE,
notes/assumptions/18.md). That the refusal's record comes before the trip's is the model's reading (DEDUCED,
notes/assumptions/14.md), and that the trip is applied in the refusal's step its choice (DESIGN CHOICE, 27.md). -/
def Obligations.WriteRefused : Prop :=
  (∀ (init tag : BitVec 2) (d : Word) (m : Mask) (a : WordAddr) (n : Fin 16) (cause : RefusalCause) (s : State),
      Accepts s init tag → s.windowOf a = some s.windows[n] → ¬ Holds s s.windows[n] a →
      (s.group s.windows[n].group).state ≠ .off →
      (if s.windows[n].owners.getLsbD init.toNat then ownerRefusal (s.group s.windows[n].group).state = some cause
       else s.windows[n].foreign = .refuse ∧ cause = .foreign) →
      exec (.upstreamRequest init tag (.write d m) a) s = .next { quiet s with
        upstream := port s (slotOf init tag) (slotWith s (.write d m) a .answering none (some (.refused cause))) [] []
        groups := s.groups.set s.windows[n].group (refusalCounted (s.group s.windows[n].group))
        events := refusalEvents s s.windows[n].group cause init }) ∧
  (∀ (init tag : BitVec 2) (d : Word) (m : Mask) (a : WordAddr) (n : Fin 16) (b : Batch) (cause : RefusalCause) (s t : State),
      Accepts s init tag → s.windowOf a = some s.windows[n] → ¬ Holds s s.windows[n] a →
      s.windows[n].owners.getLsbD init.toNat = true →
      (s.group s.windows[n].group).state = .active → (s.group s.windows[n].group).opened = some b → Joins b a m →
      (if (s.group s.windows[n].group).config.quota ≤ (s.group s.windows[n].group).held then cause = .quota
       else s.freeSlots = 0 ∧ cause = .poolFull) →
      t = { quiet s with
        upstream := port s (slotOf init tag) (slotWith s (.write d m) a .answering none (some (.refused cause))) [] []
        groups := s.groups.set s.windows[n].group (refusalCounted (s.group s.windows[n].group))
        events := refusalEvents s s.windows[n].group cause init } →
      exec (.upstreamRequest init tag (.write d m) a) s = .next
        (if (s.group s.windows[n].group).config.overflow = .trip then
          t.tripSource s.windows[n].group (.pool (s.group s.windows[n].group).held)
         else t))

/-- R47 to R50: an accepted owner write to a word that is no seal word joins the OPEN batch and is answered STAGED. R53, R54, R57:
an accepted write to the window's seal word also makes its seal request: the OPEN batch is sealed, or seal pending is set, or stays
set. The upstream link's one-cycle signals fall with the command (R183; the model's choice, DESIGN CHOICE, notes/assumptions/18.md).
-/
def Obligations.WriteStaged : Prop :=
  (∀ (init tag : BitVec 2) (d : Word) (m : Mask) (a : WordAddr) (n : Fin 16) (b : Batch) (s : State),
      Accepts s init tag → s.windowOf a = some s.windows[n] → ¬ Holds s s.windows[n] a →
      s.windows[n].owners.getLsbD init.toNat = true → s.windows[n].isSealWord a = false →
      (s.group s.windows[n].group).state = .active → (s.group s.windows[n].group).opened = some b →
      (Joins b a m → (s.group s.windows[n].group).held < (s.group s.windows[n].group).config.quota ∧ s.freeSlots ≠ 0) →
      exec (.upstreamRequest init tag (.write d m) a) s = .next { quiet s with
        upstream := port s (slotOf init tag) (slotWith s (.write d m) a .answering none (some .staged)) [] []
        groups := s.groups.set s.windows[n].group (groupWith (s.group s.windows[n].group) b a d m)
        freeSlots := freeWith s b a m }) ∧
  (∀ (init tag : BitVec 2) (d : Word) (m : Mask) (a : WordAddr) (n : Fin 16) (b : Batch) (gr : Group) (s : State),
      Accepts s init tag → s.windowOf a = some s.windows[n] → ¬ Holds s s.windows[n] a →
      s.windows[n].owners.getLsbD init.toNat = true → s.windows[n].isSealWord a = true →
      (s.group s.windows[n].group).state = .active → (s.group s.windows[n].group).opened = some b →
      (Joins b a m → (s.group s.windows[n].group).held < (s.group s.windows[n].group).config.quota ∧ s.freeSlots ≠ 0) →
      gr = groupWith (s.group s.windows[n].group) b a d m →
      exec (.upstreamRequest init tag (.write d m) a) s = .next
        (if gr.other.isNone then { quiet s with
          upstream := port s (slotOf init tag) (slotWith s (.write d m) a .answering none (some .stagedSealed)) [] []
          groups := s.groups.set s.windows[n].group (groupSealed gr (batchWith b a d m) .sealWord)
          releaseQueue := queueSealed s s.windows[n].group gr b
          freeSlots := freeWith s b a m }
         else { quiet s with
          upstream := port s (slotOf init tag) (slotWith s (.write d m) a .answering none (some .stagedSealPending)) [] []
          groups := s.groups.set s.windows[n].group { gr with sealPending := true }
          freeSlots := freeWith s b a m }))

/-- R2, R12: a response is issued, and its slot is FREE, unless an earlier request of the same initiator for the same word is
outstanding; a slot with no response has none to issue. During a soft reset the step makes the reports that are due. The upstream
link's one-cycle signals fall with the command (R183; the model's choice, DESIGN CHOICE, notes/assumptions/18.md). That
RESPONSE_ISSUE changes nothing where no response may issue is the model's reading (DEDUCED, notes/assumptions/10.md). That a soft
reset whose last report comes in this step stays pending until SOFT_RESET_COMPLETE is the model's reading (DEDUCED,
notes/assumptions/9.md). -/
def Obligations.ResponseIssued : Prop :=
  ∀ (init tag : BitVec 2) (p : Prepared) (i : Fin 16) (s : State),
    i = slotOf init tag →
    ((s.slot i).state ≠ .answering → exec (.responseIssue init tag) s = .next (quiet s)) ∧
    ((s.slot i).state = .answering → (s.slot i).prepared = some p →
      ((∃ j : Fin 16, j ≠ i ∧ (s.slot j).state ≠ .free ∧ j.val / 4 = i.val / 4 ∧ (s.slot j).addr = (s.slot i).addr ∧
          (s.slot j).order < (s.slot i).order) →
        exec (.responseIssue init tag) s = .next (quiet s)) ∧
      ((∀ j : Fin 16, j ≠ i → (s.slot j).state ≠ .free → j.val / 4 = i.val / 4 → (s.slot j).addr = (s.slot i).addr →
          (s.slot i).order ≤ (s.slot j).order) →
        exec (.responseIssue init tag) s = .next (reported { quiet s with
          upstream := { (quiet s).upstream with
            slots := s.upstream.slots.set i { s.slot i with state := .free, snapshot := none, prepared := none, returnMark := none }
            issued := some { init := init, tag := tag, response := p.response } } })))

/-- R13: a step other than a power-on reset makes an outstanding request's slot FREE only by issuing its prepared response. -/
def Obligations.OneResponse : Prop :=
  ∀ (c : Instr) (i : Fin 16) (s t : State),
    (∀ j : Fin 16, SlotOk (s.slot j)) → ListsOk s → PortFits s →
    exec c s = .next t → c ≠ .powerOnReset → (s.slot i).state ≠ .free → (t.slot i).state = .free →
    c = .responseIssue (slotInit i) (slotTag i) ∧ (s.slot i).state = .answering ∧
      ∃ p, (s.slot i).prepared = some p ∧
        t.upstream.issued = some { init := slotInit i, tag := slotTag i, response := p.response }

/-! ## The memory port -/

/-- R100, R102, R10, R104: one grant by turn and run count; none while the port is BUSY or nothing waits. The upstream link's
one-cycle signals fall with the command (R183; the model's choice, DESIGN CHOICE, notes/assumptions/18.md). That MEMORY_GRANT
changes nothing where no grant is made is the model's reading (DEDUCED, notes/assumptions/10.md). -/
def Obligations.ArbiterGrants : Prop :=
  ∀ (s : State),
    s.inReset = false →
    (s.port.current ≠ none → exec .memoryGrant s = .next (quiet s)) ∧
    (s.port.current = none →
      (granted s = none → exec .memoryGrant s = .next (quiet s)) ∧
      (granted s = some .drain → ∀ x, s.drainWrite = some x →
        exec .memoryGrant s = .next { quiet s with
          port := { s.port with
            current := some { requester := .drain, kind := .write x.2.1 x.2.2, addr := x.1 }
            turn := if s.port.run + 1 < s.port.burst then .drain else .pass
            run := if s.port.run + 1 < s.port.burst then s.port.run + 1 else 0 } }) ∧
      (granted s = some .pass → ∀ i rest, s.upstream.passQueue = i :: rest →
        exec .memoryGrant s = .next { quiet s with
          port := { s.port with
            current := some { requester := .pass i, kind := (s.slot i).kind, addr := (s.slot i).addr }
            turn := .service
            run := runCount s }
          upstream := { (quiet s).upstream with
            passQueue := rest
            slots := s.upstream.slots.set i { s.slot i with state := .performing } } }) ∧
      (granted s = some .service → ∀ r, s.serviceFront = some r →
        exec .memoryGrant s = .next (match r with
          | .probe w => { quiet s with
              port := { s.port with
                current := some { requester := .probe w, kind := .read, addr := (s.watch w).addr }
                turn := .drain, run := runCount s, service := s.port.service.erase r }
              watches := s.watches.set w { s.watch w with probe := .inFlight } }
          | .peek a => { quiet s with
              port := { s.port with
                current := some { requester := .peek, kind := .read, addr := a }
                turn := .drain, run := runCount s, service := s.port.service.erase r } }
          | .poke a d m => { quiet s with
              port := { s.port with
                current := some { requester := .poke, kind := .write d m, addr := a }
                turn := .drain, run := runCount s, service := s.port.service.erase r } })))

/-- R17, R89: while an item is current, no upstream request, peek or poke of its group's words is granted. That MEMORY_GRANT
completes where no grant is made is the model's reading (DEDUCED, notes/assumptions/10.md). -/
def Obligations.HeldWordsNotGranted : Prop :=
  ∀ (it : Item) (s : State),
    HoldOk s → s.port.current = none → s.drain.current = some it →
    Reaches (exec .memoryGrant s) fun t =>
      ∀ tr ∈ t.port.current, tr.requester ≠ .drain → (∀ w, tr.requester ≠ .probe w) →
        s.wordGroup tr.addr ≠ some it.group

/-- R100: what one answer does to a byte of the SRAM: a successful write's enabled lanes take its bytes, a successful read tells the
word, a failed write leaves its word unknown, and every other byte is as before. What the list of known bytes holds is the model's
(DESIGN CHOICE, PRESUMED, DEDUCED, notes/assumptions/1.md to 3.md). -/
def Obligations.MemoryAnswer : Prop :=
  ∀ (tr : Transaction) (e : Bool) (rd : Word) (b : Nat) (s : State),
    MemoryOk s → s.port.current = some tr →
    Reaches (exec (.transactionPerformed e rd) s) fun t =>
      MemoryOk t ∧
      (b / 4 ≠ tr.addr.toNat → readByte t.mem b = readByte s.mem b) ∧
      (b / 4 = tr.addr.toNat →
        readByte t.mem b = match tr.kind, e with
          | .read, false => some ((readByte s.mem b).getD (lane rd (b % 4)))
          | .read, true => readByte s.mem b
          | .write d m, false => if m.getLsbD (b % 4) then some (lane d (b % 4)) else readByte s.mem b
          | .write _ _, true => none)

/-- R11: the answer of a PASS transaction to its slot; no other slot changes; and with no transaction at the port an answer changes
nothing. The upstream link's one-cycle signals fall with the command (R183; the model's choice, DESIGN CHOICE,
notes/assumptions/18.md). What a read answers from known bytes, and that an answer with no transaction changes nothing, are the
model's (PRESUMED, DEDUCED, notes/assumptions/2.md, 10.md). -/
def Obligations.PassAnswered : Prop :=
  ∀ (i : Fin 16) (e : Bool) (rd : Word) (s : State),
    (s.port.current = none → exec (.transactionPerformed e rd) s = .next (quiet s)) ∧
    (s.port.current = some { requester := .pass i, kind := (s.slot i).kind, addr := (s.slot i).addr } →
      Reaches (exec (.transactionPerformed e rd) s) fun t =>
        t.port.current = none ∧ t.upstream.passQueue = s.upstream.passQueue ∧ t.upstream.holdList = s.upstream.holdList ∧
        (∀ j : Fin 16, j ≠ i → t.slot j = s.slot j) ∧
        t.slot i = { s.slot i with
          state := .answering
          returnMark := none
          snapshot := if e then none else (s.slot i).snapshot
          prepared := some {
            performed := true
            response :=
              if e then .error .memory
              else match (s.slot i).kind, (s.slot i).snapshot with
                | .write _ _, _ => .done
                | .read, none => .data (readWord s.mem (s.slot i).addr rd)
                | .read, some snap =>
                  .data (mergeLanes snap.covered (readWord s.mem (s.slot i).addr rd) snap.value) } })

/-- R163, R164, R157: a performed PEEK or POKE completes its command: the result slot takes the outcome, the command slot is IDLE,
and reply choice and notice do not change. The upstream link's one-cycle signals fall with the command (R183; the model's choice,
DESIGN CHOICE, notes/assumptions/18.md). What the list of known bytes holds is the model's (DESIGN CHOICE, PRESUMED, DEDUCED,
notes/assumptions/1.md to 3.md). -/
def Obligations.PeekPokePerformed : Prop :=
  ∀ (a : WordAddr) (d : Word) (m : Mask) (e : Bool) (rd : Word) (s : State),
    (s.link.pending = some (.peek a) → s.port.current = some { requester := .peek, kind := .read, addr := a } → ClearanceOk s →
      exec (.transactionPerformed e rd) s = .next { quiet s with
        port := { s.port with current := none }
        mem := if e then s.mem else writeWord s.mem a (readWord s.mem a rd) 0xF#4
        link := { s.link with
          pending := none
          result :=
            if e then { status := .memoryError, echo := 0x60#8, data := [] }
            else { status := .ok, echo := 0x60#8, data := Wire.split4 (readWord s.mem a rd) } } }) ∧
    (s.link.pending = some (.poke a d m) → s.port.current = some { requester := .poke, kind := .write d m, addr := a } →
      ClearanceOk s → Unwatched s a →
      exec (.transactionPerformed e rd) s = .next { quiet s with
        port := { s.port with current := none }
        mem := if e then forgetWord s.mem a else writeWord s.mem a d m
        link := { s.link with
          pending := none
          result := { status := if e then .memoryError else .ok, echo := 0x61#8, data := [] } } })

/-! ## Watches -/

/-- R137, R138, R140: a performed write reaches every watch in MATCH or MISMATCH on its word, whoever raised it: its shadow takes
the enabled lanes and is compared, or a failed write re-arms it, with the probes raised in increasing order of watch number. Every
other watch's run state stays, but for the windows a retirement opens. The safe jobs of the groups that it trips join the release
queue in increasing order of group number (R83). That one landed-write report is one event in the sense of R83 is the model's choice
(DESIGN CHOICE, notes/assumptions/7.md). -/
def Obligations.LandedWriteAtWatches : Prop :=
  ∀ (tr : Transaction) (d : Word) (m : Mask) (e : Bool) (rd : Word) (s : State),
    s.port.current = some tr → tr.kind = .write d m → (∀ w, tr.requester ≠ .probe w) →
    Reaches (exec (.transactionPerformed e rd) s) fun t =>
      (∀ (w : Fin 12) (f : Found), (s.watch w).state = .compared f → (s.watch w).addr = tr.addr →
        (e = false →
          (t.watch w).shadow = mergeLanes m (s.watch w).shadow d ∧
          (t.watch w).state = .compared ((s.watch w).compare (mergeLanes m (s.watch w).shadow d)) ∧
          (t.watch w).probe = (s.watch w).probe) ∧
        (e = true →
          (t.watch w).shadow = (s.watch w).shadow ∧ (t.watch w).state = .arming (.reArm f) ∧
          (t.watch w).probe = .raised ∧ (t.watch w).deferred = (s.watch w).deferred)) ∧
      (∀ w : Fin 12, ((∀ f, (s.watch w).state ≠ .compared f) ∨ (s.watch w).addr ≠ tr.addr) →
        t.watch w = { s.watch w with marks := (t.watch w).marks }) ∧
      t.port.service = s.port.service ++
        (if e then
          ((List.finRange 12).filter fun w =>
            ((s.watch w).state = .compared .agrees ∨ (s.watch w).state = .compared .differs) ∧ (s.watch w).addr = tr.addr).map
              ServiceRequest.probe
         else []) ∧
      (tr.requester ≠ .drain → (joined s.releaseQueue t.releaseQueue true).Pairwise (· < ·))

/-- R141, R142, R145 at a successful write that one watch alone observes: what is recorded, deferred or dropped at a transition. -/
def Obligations.MismatchReported : Prop :=
  ∀ (w : Fin 12) (i : Fin 16) (d : Word) (m : Mask) (rd : Word) (before after : Found) (x y : Watch) (s : State),
    x = s.watch w → (s.slot i).kind = .write d m → (s.slot i).addr = x.addr →
    s.port.current = some { requester := .pass i, kind := (s.slot i).kind, addr := (s.slot i).addr } →
    x.state = .compared before → after = x.compare (mergeLanes m x.shadow d) →
    (∀ v : Fin 12, v ≠ w → (s.watch v).addr = x.addr →
      (s.watch v).state ≠ .compared .agrees ∧ (s.watch v).state ≠ .compared .differs) →
    y = { x with shadow := mergeLanes m x.shadow d, state := .compared after } →
    Reaches (exec (.transactionPerformed false rd) s) fun t =>
      (before = after → t.watch w = y ∧ t.events = s.events ∧ t.groups = s.groups) ∧
      (before = .agrees → after = .differs → x.marks ≠ 0 →
        t.watch w = { y with deferred := true } ∧ t.events = s.events ∧ t.groups = s.groups) ∧
      (before = .agrees → after = .differs → x.marks = 0 →
        t.watch w = y ∧
        (x.action = .report → t.events = (s.submit (.watchMismatch w .write)).events ∧ t.groups = s.groups) ∧
        (x.action = .trip →
          t.events = ((s.submit (.watchMismatch w .write)).tripSource x.tripGroup (.watch w)).events ∧
          t.groups = ((s.submit (.watchMismatch w .write)).tripSource x.tripGroup (.watch w)).groups)) ∧
      (before = .differs → after = .agrees →
        t.watch w = { y with deferred := false } ∧ t.groups = s.groups ∧
        t.events = if x.deferred = false ∧ x.reportRestore then (s.submit (.watchRestored w)).events else s.events)

/-- R134, R135, R136: the result of a first probe arms the watch into the state found, or disarms it; the result of an orphaned one
is discarded, whatever word its watch has since been given. R139, R141, R142, R145: what a re-arm's probe finds, against the state
before the failed write, for a watch of either action: after WATCH_ARMED nothing more, a mismatch reported (with the trip source of
a TRIP watch) or deferred, the return to MATCH, or the report of a deferred mismatch whose window is over. The upstream link's
one-cycle signals fall with the command (R183; the model's choice, DESIGN CHOICE, notes/assumptions/18.md). What the list of known
bytes holds is the model's (DESIGN CHOICE, PRESUMED, DEDUCED, notes/assumptions/1.md to 3.md). That a soft reset whose last report
comes in this step stays pending until SOFT_RESET_COMPLETE is the model's reading (DEDUCED, notes/assumptions/9.md). -/
def Obligations.ProbeAnswered : Prop :=
  (∀ (w : Fin 12) (e : Bool) (rd word : Word) (x : Watch) (s : State),
      x = s.watch w → s.port.current = some { requester := .probe w, kind := .read, addr := x.addr } → ClearanceOk s →
      word = readWord s.mem x.addr rd →
      (x.state = .arming .arm → x.probe = .inFlight → e = false →
        exec (.transactionPerformed e rd) s = .next (reported { quiet s with
          port := { s.port with current := none }
          mem := writeWord s.mem x.addr word 0xF#4
          watches := s.watches.set w { x with shadow := word, state := .compared (x.compare word), probe := .none }
          events := (s.submit (.watchArmed w (x.compare word) false)).events })) ∧
      (∀ o, x.state = .arming o → x.probe = .inFlight → e = true →
        exec (.transactionPerformed e rd) s = .next (reported { quiet s with
          port := { s.port with current := none }
          watches := s.watches.set w { x with state := .disarmed, probe := .none, deferred := false, marks := 0 }
          events := (s.submit (.watchArmFailed w (o ≠ .arm))).events }))) ∧
  (∀ (w : Fin 12) (a : WordAddr) (e : Bool) (rd : Word) (x : Watch) (s : State),
      x = s.watch w → s.port.current = some { requester := .probe w, kind := .read, addr := a } → ClearanceOk s →
      x.probe ≠ .inFlight →
      exec (.transactionPerformed e rd) s = .next (reported { quiet s with
        port := { s.port with current := none }
        mem := if e then s.mem else writeWord s.mem a (readWord s.mem a rd) 0xF#4
        watches := s.watches.set w { x with probe := if x.probe = .orphaned then .none else x.probe } })) ∧
  (∀ (w : Fin 12) (rd word : Word) (prior found : Found) (x y : Watch) (s s' : State),
      x = s.watch w → s.port.current = some { requester := .probe w, kind := .read, addr := x.addr } → ClearanceOk s →
      word = readWord s.mem x.addr rd →
      x.state = .arming (.reArm prior) → x.probe = .inFlight → found = x.compare word →
      y = { x with shadow := word, state := .compared found, probe := .none } →
      s' = { quiet s with
        port := { s.port with current := none }
        mem := writeWord s.mem x.addr word 0xF#4
        watches := s.watches.set w y
        events := (s.submit (.watchArmed w found true)).events } →
      exec (.transactionPerformed false rd) s = .next (reported (match prior, found with
        | .agrees, .agrees => s'
        | .agrees, .differs =>
          if x.marks = 0 then mismatchMade s' w x .write else { s' with watches := s.watches.set w { y with deferred := true } }
        | .differs, .agrees => { s' with
            watches := s.watches.set w { y with deferred := false }
            events := if x.deferred = false ∧ x.reportRestore then (s'.submit (.watchRestored w)).events else s'.events }
        | .differs, .differs =>
          if x.deferred = true ∧ x.marks = 0 then
            mismatchMade { s' with watches := s.watches.set w { y with deferred := false } } w x .settleEnd
          else s')))

/-- R145: SETTLE_WINDOW_END at a watch with one mark to come, when that mark is due: the window ends and a deferred mismatch is
reported; with more marks to come, no window open, or no mark of its settle base due, as while the base is STOPPED, nothing ends.
The upstream link's one-cycle signals fall with the command (R183; the model's choice, DESIGN CHOICE, notes/assumptions/18.md). That
SETTLE_WINDOW_END acts on one watch, only with one mark to come and that mark due, is the model's choice (DESIGN CHOICE,
notes/assumptions/8.md). -/
def Obligations.SettleWindowEnds : Prop :=
  ∀ (w : Fin 12) (x y : Watch) (s s' : State),
    x = s.watch w → y = { x with marks := 0 } →
    s' = { quiet s with watches := s.watches.set w { y with deferred := false } } →
    (x.marks ≠ 1 ∨ ¬ MarkDue s x.settleBase → exec (.settleWindowEnd w) s = .next (quiet s)) ∧
    (x.marks = 1 → MarkDue s x.settleBase →
      (x.state = .compared .differs → x.deferred = true →
        exec (.settleWindowEnd w) s = .next (mismatchMade s' w x .settleEnd)) ∧
      (x.state ≠ .compared .differs ∨ x.deferred = false →
        exec (.settleWindowEnd w) s = .next { quiet s with watches := s.watches.set w y }))

/-- R133, R136: ARM_WATCH and DISARM_WATCH. R143: SET_REFERENCE by the state of the watch. The upstream link's one-cycle signals
fall with the command (R183; the model's choice, DESIGN CHOICE, notes/assumptions/18.md). -/
def Obligations.WatchCommands : Prop :=
  (∀ (w : Fin 12) (x : Watch) (s : State),
      LinkReady s → x = s.watch w →
      (x.state = .disarmed →
        exec (.armWatch (watchByte w)) s = .next (taken s { s with
          watches := s.watches.set w { x with state := .arming .arm, probe := .raised, deferred := false, marks := 0 }
          port := { s.port with service := s.port.service ++ [.probe w] } } 0x40#8 [])) ∧
      (x.state ≠ .disarmed → exec (.armWatch (watchByte w)) s = .next (refused s .badState 0x40#8)) ∧
      (x.state ≠ .disarmed →
        exec (.disarmWatch (watchByte w)) s = .next (taken s { s with
          watches := s.watches.set w { x with
            state := .disarmed, deferred := false, marks := 0
            probe := match x.probe with
              | .none => .none
              | .raised => .none
              | .inFlight => .orphaned
              | .orphaned => .orphaned }
          port := { s.port with
            service := if x.probe = .raised then s.port.service.filter (fun r => r != .probe w) else s.port.service } } 0x41#8 [])) ∧
      (x.state = .disarmed → exec (.disarmWatch (watchByte w)) s = .next (refused s .badState 0x41#8))) ∧
  (∀ (w : Fin 12) (r k : Word) (x y : Watch) (s s' : State),
      LinkReady s → x = s.watch w → y = { x with reference := r, compareMask := k } →
      s' = { s with
        watches := s.watches.set w { y with state := .compared .differs }
        events := (s.submit (.watchMismatch w .reference)).events } →
      ((x.state = .disarmed ∨ x.state = .arming .arm ∨ (∃ f, x.state = .arming (.reArm f)) ∨
          (∃ f, x.state = .compared f ∧ y.compare x.shadow = f)) →
        exec (.setReference (watchByte w) r k) s =
          .next (taken s { s with watches := s.watches.set w y } 0x42#8 [x.state.code])) ∧
      (x.state = .compared .agrees → y.compare x.shadow = .differs →
        exec (.setReference (watchByte w) r k) s =
          .next (taken s (if x.action = .trip then s'.tripSource x.tripGroup (.watch w) else s') 0x42#8 [3#8])) ∧
      (x.state = .compared .differs → y.compare x.shadow = .agrees →
        exec (.setReference (watchByte w) r k) s = .next (taken s { s with
          watches := s.watches.set w { y with state := .compared .agrees, deferred := false }
          events := if x.deferred = false ∧ x.reportRestore then (s.submit (.watchRestored w)).events else s.events } 0x42#8 [2#8])))

/-! ## Drain engine -/

/-- R84, R87, R88, R15: the IDLE engine takes the batch item whose group is clear and before which, with no safe job in the queue,
every group waits; the group's queued requests move to the hold list. A batch with no entries retires at once (R93, R94): the
record, the group controller's part, the settle windows, progress ENDING. R87, R97, R98: the foremost safe job whose group is clear
is taken ahead of every batch; with an enabled entry the engine goes to the first of them, with none the job completes at once,
FAULTED, or OFF during a soft reset (R38). R87: with an item current, or none it may take, the engine takes nothing. The upstream
link's one-cycle signals fall with the command (R183; the model's choice, DESIGN CHOICE, notes/assumptions/18.md). That
DRAIN_TAKE_ITEM changes nothing where the engine takes nothing is the model's reading (DEDUCED, notes/assumptions/10.md). -/
def Obligations.ItemTaken : Prop :=
  (∀ (g : Fin 8) (q : Seq) (ahead behind : List Item) (b : Batch) (s : State),
      s.inReset = false → s.drain.current = none → s.releaseQueue = ahead ++ .batch g q :: behind →
      (∀ it ∈ s.releaseQueue, it.isSafe = false) → (∀ it ∈ ahead, s.drain.clearanceWait[it.group] = true) →
      s.drain.clearanceWait[g] = false → (s.group g).other = some b →
      (b.entries ≠ [] →
        exec .drainTakeItem s = .next { quiet s with
          upstream := itemStarted s g
          groups := s.groups.set g { s.group g with other := some { b with state := .draining } }
          releaseQueue := ahead ++ behind
          drain := { s.drain with
            current := some (.batch g q), progress := .writing, written := 0, errors := 0, taken := b.entries.length } }) ∧
      (b.entries = [] → (s.group g).config.drainError = .quiet ∨ b.errorsSeen = 0 →
        Reaches (exec .drainTakeItem s) fun t =>
          t = { quiet s with
            upstream := itemStarted s g
            groups := t.groups
            releaseQueue := t.releaseQueue
            events := t.events
            watches := s.watches.map fun x => windowOpened x g
            drain := { s.drain with current := some (.batch g q), progress := .ending, written := 0, errors := 0, taken := 0 } } ∧
          FollowsUp { s.submit (.batchRetired g b.seq b.sealCause b.errorsSeen) with releaseQueue := ahead ++ behind } t g
            { s.group g with other := none, retirement := retirementOf s g b 0 b.errorsSeen })) ∧
  (∀ (g : Fin 8) (ahead behind : List Item) (s : State),
      s.inReset = false → s.drain.current = none → s.releaseQueue = ahead ++ .safe g :: behind →
      (∀ it ∈ ahead, it.isSafe = true ∧ s.drain.clearanceWait[it.group] = true) → s.drain.clearanceWait[g] = false →
      (∀ k : Fin 128, s.safeTable[k].enabled = true → s.safeTable[k].group = g →
        (∀ j : Fin 128, j < k → ¬ (s.safeTable[j].enabled = true ∧ s.safeTable[j].group = g)) →
        exec .drainTakeItem s = .next { quiet s with
          upstream := itemStarted s g
          releaseQueue := ahead ++ behind
          drain := { s.drain with current := some (.safe g), progress := .writing, written := 0, errors := 0, safeNext := k } }) ∧
      ((∀ k : Fin 128, ¬ (s.safeTable[k].enabled = true ∧ s.safeTable[k].group = g)) →
        exec .drainTakeItem s = .next { quiet s with
          upstream := itemStarted s g
          releaseQueue := ahead ++ behind
          groups := s.groups.set g { s.group g with state := if s.link.pending = some .softReset then .off else .faulted }
          events := (s.submit (.safeApplied g 0 0)).events
          drain := { s.drain with current := some (.safe g), progress := .ending, written := 0, errors := 0 } })) ∧
  (∀ (s : State),
      (s.drain.current ≠ none ∨
        (∀ it ∈ s.releaseQueue, s.drain.clearanceWait[it.group] = true ∨
          (it.isSafe = false ∧ ∃ j ∈ s.releaseQueue, j.isSafe = true))) →
      exec .drainTakeItem s = .next (quiet s))

/-- R90, R91, R101: a performed write of an entry that is not the batch's last: the entry leaves, its slot is free, and a failure is
counted; no watch observing the word, nothing else changes. R97, R98, R123: a performed safe write counts and goes to the next
enabled entry of the group, or completes the job: FAULTED (OFF during a soft reset, R38), safe-incomplete where writes failed,
SAFE_APPLIED, progress ENDING (no watch observing the word). The upstream link's one-cycle signals fall with the command (R183; the
model's choice, DESIGN CHOICE, notes/assumptions/18.md). What the list of known bytes holds is the model's (DESIGN CHOICE, DEDUCED,
notes/assumptions/1.md, 3.md). That a soft reset whose last report comes in this step stays pending until SOFT_RESET_COMPLETE is the
model's reading (DEDUCED, notes/assumptions/9.md). -/
def Obligations.EntryWritten : Prop :=
  (∀ (g : Fin 8) (q : Seq) (b : Batch) (e next : Entry) (rest : List Entry) (err : Bool) (rd : Word) (s : State),
      s.drain.current = some (.batch g q) → (s.group g).other = some b → b.entries = e :: next :: rest →
      s.port.current = some { requester := .drain, kind := .write e.data e.mask, addr := e.addr } →
      Unwatched s e.addr → ClearanceOk s →
      exec (.transactionPerformed err rd) s = .next (reported { quiet s with
        port := { s.port with current := none }
        mem := if err then forgetWord s.mem e.addr else writeWord s.mem e.addr e.data e.mask
        freeSlots := s.freeSlots + 1
        groups := s.groups.set g { s.group g with
          other := some { b with entries := next :: rest, errorsSeen := if err then b.errorsSeen + 1 else b.errorsSeen }
          held := (s.group g).held - 1
          drainErrors := if err then min ((s.group g).drainErrors + 1) 65535 else (s.group g).drainErrors } })) ∧
  (∀ (g : Fin 8) (k : Fin 128) (err : Bool) (rd : Word) (errors : Nat) (s : State),
      s.drain.current = some (.safe g) → s.drain.safeNext = k →
      s.port.current = some { requester := .drain, kind := .write s.safeTable[k].data s.safeTable[k].mask,
                              addr := s.safeTable[k].addr } →
      Unwatched s s.safeTable[k].addr → ClearanceOk s →
      errors = (if err then s.drain.errors + 1 else s.drain.errors) →
      (∀ n : Fin 128, k < n → s.safeTable[n].enabled = true → s.safeTable[n].group = g →
        (∀ j : Fin 128, k < j → j < n → ¬ (s.safeTable[j].enabled = true ∧ s.safeTable[j].group = g)) →
        exec (.transactionPerformed err rd) s = .next (reported { quiet s with
          port := { s.port with current := none }
          mem := if err then forgetWord s.mem s.safeTable[k].addr
            else writeWord s.mem s.safeTable[k].addr s.safeTable[k].data s.safeTable[k].mask
          drain := { s.drain with written := s.drain.written + 1, errors := errors, safeNext := n } })) ∧
      ((∀ n : Fin 128, k < n → ¬ (s.safeTable[n].enabled = true ∧ s.safeTable[n].group = g)) →
        exec (.transactionPerformed err rd) s = .next (reported { quiet s with
          port := { s.port with current := none }
          mem := if err then forgetWord s.mem s.safeTable[k].addr
            else writeWord s.mem s.safeTable[k].addr s.safeTable[k].data s.safeTable[k].mask
          drain := { s.drain with written := s.drain.written + 1, errors := errors, progress := .ending }
          groups := s.groups.set g { s.group g with
            state := if s.link.pending = some .softReset then .off else .faulted
            safeIncomplete := (s.group g).safeIncomplete || decide (errors ≠ 0) }
          events := (s.submit (.safeApplied g errors (s.drain.written + 1))).events })))

/-- R90, R92: no step but a power-on reset discards, adds to or reorders a DRAINING batch: its entry list stays, or its first entry
leaves at the performance of the engine's write. -/
def Obligations.DrainingKept : Prop :=
  ∀ (c : Instr) (g : Fin 8) (b : Batch) (e next : Entry) (rest : List Entry) (s t : State),
    BatchesOk s → exec c s = .next t → c ≠ .powerOnReset →
    (s.group g).other = some b → b.state = .draining → b.entries = e :: next :: rest →
    ∃ b' : Batch, (t.group g).other = some b' ∧ b'.state = .draining ∧ b'.seq = b.seq ∧
      (b'.entries = b.entries ∨
        (b'.entries = next :: rest ∧ ∃ err rd, c = .transactionPerformed err rd ∧
          s.port.current = some { requester := .drain, kind := .write e.data e.mask, addr := e.addr }))

/-- R93, R94, R56, R37, R38: the performance of a batch's last write retires it: the retirement record, BATCH_RETIRED, the
seal-pending follow-up, the end of a stop, or during a soft reset the group OFF; the settle windows, and progress ENDING (no watch
observing the word; drain-error policy REPORT, or no error, or a soft reset pending). R95: a retirement with errors under
drain-error policy TRIP ends with a DRAIN_ERROR trip source: an ACTIVE group with no pending seal is SAFING afterwards. The upstream
link's one-cycle signals fall with the command (R183; the model's choice, DESIGN CHOICE, notes/assumptions/18.md). What the list of
known bytes holds is the model's (DESIGN CHOICE, DEDUCED, notes/assumptions/1.md, 3.md). That a soft reset whose last report comes
in this step stays pending until SOFT_RESET_COMPLETE is the model's reading (DEDUCED, notes/assumptions/9.md). -/
def Obligations.BatchRetires : Prop :=
  (∀ (g : Fin 8) (q : Seq) (b : Batch) (e : Entry) (err : Bool) (rd : Word) (errors : Nat) (gr : Group) (s : State),
      s.drain.current = some (.batch g q) → (s.group g).other = some b → b.entries = [e] →
      s.port.current = some { requester := .drain, kind := .write e.data e.mask, addr := e.addr } →
      Unwatched s e.addr → ClearanceOk s →
      errors = (if err then b.errorsSeen + 1 else b.errorsSeen) →
      ((s.group g).config.drainError = .quiet ∨ errors = 0 ∨ s.link.pending = some .softReset) →
      gr = { s.group g with
        other := none
        held := (s.group g).held - 1
        drainErrors := if err then min ((s.group g).drainErrors + 1) 65535 else (s.group g).drainErrors
        retirement := retirementOf s g b s.drain.taken errors } →
      Reaches (exec (.transactionPerformed err rd) s) fun t => ∃ u : State,
        t = reported u ∧
        u = { quiet s with
          port := { s.port with current := none }
          mem := if err then forgetWord s.mem e.addr else writeWord s.mem e.addr e.data e.mask
          freeSlots := s.freeSlots + 1
          drain := { s.drain with progress := .ending }
          groups := u.groups
          releaseQueue := u.releaseQueue
          events := u.events
          watches := s.watches.map fun x => windowOpened x g } ∧
        FollowsUp (s.submit (.batchRetired g b.seq b.sealCause errors)) u g gr) ∧
  (∀ (g : Fin 8) (q : Seq) (b : Batch) (e : Entry) (rd : Word) (s : State),
      s.drain.current = some (.batch g q) → (s.group g).other = some b → b.entries = [e] →
      s.port.current = some { requester := .drain, kind := .write e.data e.mask, addr := e.addr } →
      Unwatched s e.addr → s.link.pending = none → (s.group g).config.drainError = .trip →
      (s.group g).state = .active → (s.group g).sealPending = false →
      Reaches (exec (.transactionPerformed true rd) s) fun t =>
        (t.group g).state = .safing ∧ (t.group g).causes = 0x20#7 ∧
        (t.group g).first = some { cause := .drainError, watch := none } ∧ (t.group g).opened = none ∧ (t.group g).other = none ∧
        (t.group g).retirement.lastSeq = some b.seq ∧ (t.group g).retirement.errors = b.errorsSeen + 1 ∧
        (t.group g).trips = min ((s.group g).trips + 1) 65535 ∧ Item.safe g ∈ t.releaseQueue)

/-- R96, R18, R19, R99: the end report: the held requests are decided again in hold order, those that return to memory stand at the
head of the pass queue with the group's mark, the engine is IDLE, and the group waits for clearance where one returned. With no
request of the group held the engine becomes IDLE and nothing else changes; into an OFF group every held request returns to the head
of the pass queue in hold order, with the group's return mark, and the group waits for clearance. With no item current, or one still
being written, there is no report. R18 into a SAFING or FAULTED group: an owner's held write is refused with cause FAULTED, and
every held read returns to the pass queue with the group's mark. The upstream link's one-cycle signals fall with the command (R183;
the model's choice, DESIGN CHOICE, notes/assumptions/18.md). That END_REPORT changes nothing where no item ends is the model's
reading (DEDUCED, notes/assumptions/10.md); that a POOL trip is applied before the next held request is decided is its choice
(DESIGN CHOICE, 27.md). That a refusal's WRITE_REFUSED comes before its trip's FAULT_TRIPPED is the model's reading (DEDUCED,
notes/assumptions/14.md). That a soft reset whose last report comes in this step stays pending until SOFT_RESET_COMPLETE is the
model's reading (DEDUCED, notes/assumptions/9.md). That a return mark replaces one the slot carries for another group is the model's
choice (DESIGN CHOICE, notes/assumptions/33.md). -/
def Obligations.EndReported : Prop :=
  (∀ (it : Item) (back : List (Fin 16)) (s u : State),
      RequestsOk s →
      u = s.upstream.holdList.foldl heldStep (quiet s) → back = s.upstream.holdList.filter (fun i => (u.slot i).state = .queued) →
      (s.drain.current = none ∨ s.drain.progress = .writing → exec .endReport s = .next (quiet s)) ∧
      (s.drain.current = some it → s.drain.progress = .ending →
        exec .endReport s = .next (reported { u with
          upstream := { u.upstream with passQueue := back ++ s.upstream.passQueue, holdList := [] }
          drain := { s.drain with
            current := none
            clearanceWait := Vector.ofFn fun g => decide (∃ i : Fin 16, (u.slot i).returnMark = some g) } })) ∧
      (s.drain.current = some it → s.drain.progress = .ending → s.drain.clearanceWait[it.group] = false →
        s.link.pending ≠ some .softReset →
        (s.upstream.holdList = [] →
          exec .endReport s = .next { quiet s with drain := { s.drain with current := none } }) ∧
        (s.upstream.holdList ≠ [] → (s.group it.group).state = .off →
          Reaches (exec .endReport s) fun t =>
            t = { quiet s with
              upstream := { (quiet s).upstream with
                slots := t.upstream.slots
                passQueue := s.upstream.holdList ++ s.upstream.passQueue
                holdList := [] }
              drain := { s.drain with
                current := none
                clearanceWait := Vector.ofFn fun g => decide (∃ i : Fin 16, (t.slot i).returnMark = some g) } } ∧
            t.drain.clearanceWait[it.group] = true ∧
            ∀ i : Fin 16, t.slot i =
              if i ∈ s.upstream.holdList then { s.slot i with state := .queued, returnMark := some it.group } else s.slot i))) ∧
  (∀ (it : Item) (n : Fin 16) (i : Fin 16) (s : State),
      RequestsOk s → BatchesOk s → s.drain.current = some it → s.drain.progress = .ending →
      ((s.group it.group).state = .safing ∨ (s.group it.group).state = .faulted) →
      i ∈ s.upstream.holdList → s.windowOf (s.slot i).addr = some s.windows[n] →
      Reaches (exec .endReport s) fun t =>
        t.drain.current = none ∧ t.upstream.holdList = [] ∧
        (∀ d m, (s.slot i).kind = .write d m → s.windows[n].owners.getLsbD (i.val / 4) = true →
          t.slot i = { s.slot i with
            state := .answering, returnMark := none, prepared := some { response := .refused .faulted, performed := false } }) ∧
        ((s.slot i).kind = .read →
          t.slot i = { s.slot i with state := .queued, returnMark := some it.group } ∧ i ∈ t.upstream.passQueue ∧
          t.drain.clearanceWait[it.group] = true))

/-! ## Time bases and lines -/

/-- R67: a tick below the period mark with no TIMED group at the new count raises the count alone; a STOPPED base makes no tick.
R75, R76: a tick that brings the count to the phase of one group, by the group's state and skip remaining. R75, R83: a tick below
the mark, and a period mark with no settle window open and no restart of B, make a candidate of every TIMED group whose phase is the
new count, in increasing order of group number; and what one of them queues joins the release queue in that order. The upstream
link's one-cycle signals fall with the command (R183; the model's choice, DESIGN CHOICE, notes/assumptions/18.md). That TICK does
not wait for the interval, and that PERIOD_MARK below the mark changes nothing, are the model's reading (DEDUCED,
notes/assumptions/6.md). That the event records of several groups come in increasing order of group number is the model's choice
(DESIGN CHOICE, notes/assumptions/32.md). -/
def Obligations.TickMade : Prop :=
  (∀ (b : Base) (s : State),
      ((s.base b).running = false → exec (.tick b) s = .next (quiet s) ∧ exec (.periodMark b) s = .next (quiet s)) ∧
      ((s.base b).running = true → (s.base b).count + 1 < (s.base b).period →
        (∀ g : Fin 8, (s.group g).config.trigger = .timed → (s.group g).config.base = b →
          (s.group g).config.phase ≠ (s.base b).count + 1) →
        exec (.tick b) s = .next ((quiet s).setBase b { s.base b with count := (s.base b).count + 1, interval := 0 }) ∧
        exec (.periodMark b) s = .next (quiet s))) ∧
  (∀ (b : Base) (g : Fin 8) (s s' : State),
      (s.base b).running = true → (s.base b).count + 1 < (s.base b).period →
      (s.group g).config.trigger = .timed → (s.group g).config.base = b → (s.group g).config.phase = (s.base b).count + 1 →
      (∀ h : Fin 8, h ≠ g → (s.group h).config.trigger = .timed → (s.group h).config.base = b →
        (s.group h).config.phase ≠ (s.base b).count + 1) →
      s' = (quiet s).setBase b { s.base b with count := (s.base b).count + 1, interval := 0 } →
      ((s.group g).state = .off ∨ (s.group g).state = .stopping ∨ (s.group g).state = .safing →
        exec (.tick b) s = .next s') ∧
      ((s.group g).state = .active ∨ (s.group g).state = .faulted →
        ((s.group g).skipRemaining ≠ 0 →
          exec (.tick b) s = .next
            (s'.setGroup g { s.group g with skipRemaining := (s.group g).skipRemaining - 1 })) ∧
        ((s.group g).skipRemaining = 0 →
          exec (.tick b) s = .next
            ((s'.setGroup g { s.group g with skipRemaining := (s.group g).config.skip }).releasePoint g).1))) ∧
  (∀ (b : Base) (s : State),
      ((s.base b).running = true → (s.base b).count + 1 < (s.base b).period →
        Reaches (exec (.tick b) s) fun t =>
          t = phaseCandidates s b ((s.base b).count + 1)
            ((quiet s).setBase b { s.base b with count := (s.base b).count + 1, interval := 0 }) ∧
          JoinInOrder s.releaseQueue t.releaseQueue) ∧
      (AtMark (s.base b) → (∀ w : Fin 12, (s.watch w).marks = 0) → b = .timeB ∨ ¬ RestartsB s →
        Reaches (exec (.periodMark b) s) fun t =>
          (b = .timeB ∨ s.baseB.running = false ∨ s.baseB.bLock = false →
            t = phaseCandidates s b 0 ((quiet s).setBase b (afterMark (s.base b)))) ∧
          JoinInOrder s.releaseQueue t.releaseQueue))

/-- R67, R70: a period mark of A and of B with no TIMED group at phase 0 and no settle window open: the count returns to 0, the
index rises, the pending period is taken; and what A's mark does to B, running locked or not. TICK and PERIOD_MARK make the same
mark. R145, R70: a period mark of a base, of A with B's where it restarts B, lowers the settle marks remaining of every watch on
that base with an open window by one and of no other, and a window that ends lets its deferred mismatch out: with no phase match at
the mark and no restart, by WATCH_MISMATCH with cause SETTLE_END and a TRIP watch's trip source in increasing order of watch number,
the safe jobs joining in increasing order of group number (R83). The upstream link's one-cycle signals fall with the command (R183;
the model's choice, DESIGN CHOICE, notes/assumptions/18.md). That TICK and PERIOD_MARK make the same mark is the model's reading
(DEDUCED, notes/assumptions/6.md), and the order of a mark's parts its choice (DESIGN CHOICE, 7.md). That a period mark does the
whole of R145 is the model's choice (DESIGN CHOICE, notes/assumptions/8.md). -/
def Obligations.PeriodMarkMade : Prop :=
  (∀ (s : State),
      (∀ g : Fin 8, (s.group g).config.trigger = .timed → (s.group g).config.phase ≠ 0) → (∀ w : Fin 12, (s.watch w).marks = 0) →
      (s.baseB.running = true → s.baseB.count + 1 = s.baseB.period →
        exec (.tick .timeB) s = .next { quiet s with baseB := afterMark s.baseB } ∧
        exec (.periodMark .timeB) s = .next { quiet s with baseB := afterMark s.baseB }) ∧
      (s.baseA.running = true → s.baseA.count + 1 = s.baseA.period →
        Reaches (exec (.periodMark .timeA) s) fun t =>
          exec (.tick .timeA) s = .next t ∧
          (s.baseB.running = false ∨ s.baseB.bLock = false → t = { quiet s with baseA := afterMark s.baseA }) ∧
          (s.baseB.running = true → s.baseB.bLock = true → s.baseB.count ≠ 0 →
            t = { quiet s with baseA := afterMark s.baseA, baseB := afterMark s.baseB }) ∧
          (s.baseB.running = true → s.baseB.bLock = true → s.baseB.count = 0 →
            t = { quiet s with baseA := afterMark s.baseA, baseB := { s.baseB with interval := 0 } }))) ∧
  (∀ (b : Base) (s u : State),
      AtMark (s.base b) →
      u = (List.finRange 12).foldl
        (fun u w => if LetsOut s b w then mismatchMade u w (s.watch w) .settleEnd else u) (s.setBase b (afterMark (s.base b))) →
      Reaches (exec (.periodMark b) s) fun t =>
        (∀ w : Fin 12, t.watch w =
          if (s.watch w).marks ≠ 0 ∧ MarkReaches s b (s.watch w).settleBase then windowMarked (s.watch w) else s.watch w) ∧
        ((∀ g : Fin 8, (s.group g).config.trigger = .timed → (s.group g).config.base = b → (s.group g).config.phase ≠ 0) →
          b = .timeB ∨ ¬ RestartsB s →
          t.events = u.events ∧ t.groups = u.groups ∧ t.freeSlots = u.freeSlots ∧
            (joined s.releaseQueue t.releaseQueue true).Pairwise (· < ·)))

/-- R72, R73, R83: the qualification of a release line and its edges: an accepted edge makes a candidate of every LINE group of the
line, in increasing order of group number. The upstream link's one-cycle signals fall with the command (R183; the model's choice,
DESIGN CHOICE, notes/assumptions/18.md). The command's pin level and number of cycles are the model's choice (DESIGN CHOICE,
notes/assumptions/16.md, 22.md). That the event records of several groups come in increasing order of group number is the model's
choice (DESIGN CHOICE, notes/assumptions/32.md). -/
def Obligations.ReleaseLineQualified : Prop :=
  ∀ (n : Fin 4) (high : Bool) (cycles : Nat) (l : ReleaseLine) (s : State),
    l = { s.releaseLines[n] with pin := high } →
    (s.inReset = true ∨ cycles = 0 →
      exec (.releaseLineQualifiedEdge n high cycles) s = .next { quiet s with releaseLines := s.releaseLines.set n l }) ∧
    (s.inReset = false → cycles ≠ 0 →
      (high = l.level →
        exec (.releaseLineQualifiedEdge n high cycles) s =
          .next { quiet s with releaseLines := s.releaseLines.set n { l with count := 0 } }) ∧
      (high ≠ l.level → l.count + cycles < l.qual →
        exec (.releaseLineQualifiedEdge n high cycles) s =
          .next { quiet s with releaseLines := s.releaseLines.set n { l with count := l.count + cycles } }) ∧
      (high ≠ l.level → l.qual ≤ l.count + cycles →
        ((l.edge = .rising ∧ high = false ∨ l.edge = .falling ∧ high = true ∨
            ∀ g : Fin 8, (s.group g).config.trigger = .line → (s.group g).config.releaseLine ≠ n) →
          exec (.releaseLineQualifiedEdge n high cycles) s =
            .next { quiet s with releaseLines := s.releaseLines.set n { l with level := high, count := 0 } }) ∧
        (∀ g : Fin 8, (l.edge = .both ∨ l.edge = (if high then .rising else .falling)) →
          (s.group g).config.trigger = .line → (s.group g).config.releaseLine = n →
          (∀ h : Fin 8, h ≠ g → (s.group h).config.trigger = .line → (s.group h).config.releaseLine ≠ n) →
          exec (.releaseLineQualifiedEdge n high cycles) s =
            .next (State.candidate
              { quiet s with releaseLines := s.releaseLines.set n { l with level := high, count := 0 } } g)) ∧
        (l.edge = .both ∨ l.edge = (if high then .rising else .falling) →
          Reaches (exec (.releaseLineQualifiedEdge n high cycles) s) fun t =>
            t = lineCandidatesOf s n { quiet s with releaseLines := s.releaseLines.set n { l with level := high, count := 0 } } ∧
            JoinInOrder s.releaseQueue t.releaseQueue)))

/-- R107, R108, R112: the qualification of a fault line; a line that becomes active is reported to every group that enables it, in
increasing order of group number (R83), and so trips those that are not OFF; a line that becomes inactive reports nothing. The
upstream link's one-cycle signals fall with the command (R183; the model's choice, DESIGN CHOICE, notes/assumptions/18.md). The
command's pin level and number of cycles are the model's choice (DESIGN CHOICE, notes/assumptions/16.md, 22.md). That the event
records of several groups come in increasing order of group number is the model's choice (DESIGN CHOICE, notes/assumptions/32.md).
-/
def Obligations.FaultLineQualified : Prop :=
  ∀ (n : Fin 2) (high : Bool) (cycles : Nat) (l : FaultLine) (s : State),
    l = { s.faultLines[n] with pin := high } →
    (s.inReset = true ∨ cycles = 0 →
      exec (.faultLineQualifiedEdge n high cycles) s = .next { quiet s with faultLines := s.faultLines.set n l }) ∧
    (s.inReset = false → cycles ≠ 0 →
      (high = l.level →
        exec (.faultLineQualifiedEdge n high cycles) s =
          .next { quiet s with faultLines := s.faultLines.set n { l with count := 0 } }) ∧
      (high ≠ l.level → l.count + cycles < l.qual →
        exec (.faultLineQualifiedEdge n high cycles) s =
          .next { quiet s with faultLines := s.faultLines.set n { l with count := l.count + cycles } }) ∧
      (high ≠ l.level → l.qual ≤ l.count + cycles →
        ((high ≠ l.activeHigh ∨ ∀ g : Fin 8, (s.group g).config.lineEnabled n = true → (s.group g).state = .off) →
          exec (.faultLineQualifiedEdge n high cycles) s =
            .next { quiet s with faultLines := s.faultLines.set n { l with level := high, count := 0 } }) ∧
        (∀ g : Fin 8, high = l.activeHigh → (s.group g).config.lineEnabled n = true →
          (∀ h : Fin 8, h ≠ g → (s.group h).config.lineEnabled n = true → (s.group h).state = .off) →
          exec (.faultLineQualifiedEdge n high cycles) s =
            .next (State.tripSource
              { quiet s with faultLines := s.faultLines.set n { l with level := high, count := 0 } } g (.line n))) ∧
        (high = l.activeHigh →
          Reaches (exec (.faultLineQualifiedEdge n high cycles) s) fun t =>
            t = lineReported { quiet s with faultLines := s.faultLines.set n { l with level := high, count := 0 } } n ∧
            JoinInOrder s.releaseQueue t.releaseQueue)))

/-- R68: TIMEBASE_CONTROL of one base and of both. The upstream link's one-cycle signals fall with the command (R183; the model's
choice, DESIGN CHOICE, notes/assumptions/18.md). -/
def Obligations.TimebaseControl : Prop :=
  ∀ (b : Base) (code : Byte) (t : TimeBase) (s : State),
    LinkReady s → t = s.base b → code = (match b with
      | .timeA => 0#8
      | .timeB => 1#8) →
    exec (.timebaseStart code) s = .next (if t.running then refused s .badState 0x50#8 else
      taken s (s.setBase b { t with running := true, interval := 0 }) 0x50#8
        (Wire.split2Nat t.count ++ Wire.split2 t.periodIndex)) ∧
    exec (.timebaseStop code) s = .next (if !t.running then refused s .badState 0x50#8 else
      taken s (s.setBase b { t with running := false, interval := 0 }) 0x50#8
        (Wire.split2Nat t.count ++ Wire.split2 t.periodIndex)) ∧
    exec (.timebaseZero code) s = .next (if t.running then refused s .badState 0x50#8 else
      taken s (s.setBase b { t with count := 0, periodIndex := 0 }) 0x50#8 [0#8, 0#8, 0#8, 0#8]) ∧
    exec (.timebaseStart 2#8) s = .next (if s.baseA.running || s.baseB.running then refused s .badState 0x50#8 else
      taken s { s with
        baseA := { s.baseA with running := true, interval := 0 }
        baseB := { s.baseB with running := true, interval := 0 } } 0x50#8
        (Wire.split2Nat s.baseA.count ++ Wire.split2 s.baseA.periodIndex ++ Wire.split2Nat s.baseB.count ++
          Wire.split2 s.baseB.periodIndex))

/-! ## The management link: frames -/

/-- R151, R186, R158: FRAME_START fixes the reply by the reply choice: the result slot's status, echo, length and data, the notice
with its mark in bit 7, or the link status; with the CRC. In a frame it changes nothing (the model's choice, DESIGN CHOICE,
notes/assumptions/12.md). The upstream link's one-cycle signals fall with the command (R183; the model's choice, DESIGN CHOICE,
notes/assumptions/18.md). -/
def Obligations.FrameStarts : Prop :=
  ∀ (note : Notice) (s : State),
    (s.link.frame ≠ none → exec .frameStart s = .next (quiet s)) ∧
    (s.link.frame = none → s.inReset = false →
      (s.link.choice = .slot →
        exec .frameStart s = .next (framed s .slot (withCrc
          ([statusCode s.link.result.status, s.link.result.echo, BitVec.ofNat 8 s.link.result.data.length] ++ s.link.result.data)))) ∧
      (s.link.choice = .notice → s.link.notice = some note →
        exec .frameStart s = .next (framed s .notice (withCrc [statusCode note.status ||| 0x80#8, note.echo, 0#8]))) ∧
      (s.link.choice = .link →
        exec .frameStart s = .next (framed s .link (withCrc
          [0#8, 0#8, 4#8, if s.link.pending.isSome then 1#8 else 0#8,
            match s.link.pending with
            | none => 0x00#8
            | some (.peek _) => 0x60#8
            | some (.poke _ _ _) => 0x61#8
            | some .softReset => 0x7F#8,
            BitVec.ofNat 8 s.events.records.length, if s.events.records = [] then 0#8 else 1#8]))))

/-- R148, R153, R154: a frame with no whole byte has no effect, a dropped frame has none, and a frame that fails a check is rejected
by the first check it fails and sets the notice alone. R153, R158, R175: the frames of NOP and of POP_EVENT, written out, in a
frame's whole bytes followed by any padding: each has its command's effect. The upstream link's one-cycle signals fall with the
command (R183; the model's choice, DESIGN CHOICE, notes/assumptions/18.md). -/
def Obligations.FrameEnds : Prop :=
  (∀ (mdi : List Bool) (code len : Byte) (body : List Byte) (s : State),
      (mdi.length < 8 → exec (.frameEnd mdi) s = .next { quiet s with link := { s.link with frame := none } }) ∧
      (¬ NotDropped s → exec (.frameEnd mdi) s = .next { quiet s with link := { s.link with frame := none } }) ∧
      (NotDropped s →
        (Wire.bytesOfBits mdi = [code] → exec (.frameEnd mdi) s = .next (rejected s .frameShort code)) ∧
        (Wire.bytesOfBits mdi = code :: len :: body →
          (body.length ≤ len.toNat → exec (.frameEnd mdi) s = .next (rejected s .frameShort code)) ∧
          (∀ k, body[len.toNat]? = some k →
            (k ≠ Wire.crc (code :: len :: body.take len.toNat) → exec (.frameEnd mdi) s = .next (rejected s .badCrc code)) ∧
            (k = Wire.crc (code :: len :: body.take len.toNat) → s.link.pending ≠ none → code ≠ 0x00#8 → code ≠ 0x01#8 →
              exec (.frameEnd mdi) s = .next (rejected s .busy code)) ∧
            (k = Wire.crc (code :: len :: body.take len.toNat) → s.link.pending = none →
              code ∉ [0x00#8, 0x01#8, 0x10#8, 0x11#8, 0x20#8, 0x21#8, 0x22#8, 0x23#8, 0x24#8, 0x30#8, 0x31#8, 0x40#8, 0x41#8,
                0x42#8, 0x50#8, 0x60#8, 0x61#8, 0x70#8, 0x7F#8] →
              exec (.frameEnd mdi) s = .next (refused s .badCommand code)))))) ∧
  (∀ (mdi : List Bool) (padding : List Byte) (s : State),
      (NotDropped s → Wire.bytesOfBits mdi = 0x00#8 :: 0x00#8 :: 0xD7#8 :: padding →
        exec (.frameEnd mdi) s = .next { quiet s with link := { s.link with choice := .link, notice := noticeAfter s, frame := none } }) ∧
      (∀ r rest, s.events.records = r :: rest → LinkReady s →
        Wire.bytesOfBits mdi = 0x70#8 :: 0x00#8 :: Wire.crc [0x70#8, 0x00#8] :: padding →
        exec (.frameEnd mdi) s = .next (taken s { s with events := { s.events with records := rest } } 0x70#8
          (1#8 :: BitVec.ofNat 8 rest.length :: r.bytes))))

/-- R149, R153, R155 to R158: a frame that holds a command's code, length, field bytes and CRC, with any padding and any bits of an
unfinished byte, does what the command's row does, in every state. That a command's row is a whole frame is the model's choice
(DESIGN CHOICE, notes/assumptions/11.md). -/
def Obligations.FrameCarriesCommand : Prop :=
  ∀ (c : Instr) (code : Byte) (fields padding : List Byte) (tail : List Bool) (s : State),
    Wire.encodeCommand c = some (code, fields) → tail.length < 8 →
    exec (.frameEnd (Wire.bitsOfBytes (Wire.frameBytes code fields ++ padding) ++ tail)) s = exec c s

/-- R155, R185, R187: decoding what the encoding writes gives back every well-formed management command, with every field at every
value the encoding admits. -/
def Obligations.DecodeEncode : Prop :=
  ∀ (c : Instr) (code : Byte) (fields : List Byte),
    wellFormed c = true → Wire.encodeCommand c = some (code, fields) → Wire.decodeCommand code fields = .ok c

/-- R155: a frame whose length is not the field length of its command's code is refused with BAD_VALUE, and a table kind that names
no table with BAD_INDEX. A number outside its range is refused with BAD_INDEX by every command that carries one, and a table kind
that names no table; nothing but the result slot changes. R155, 11.4: an option byte of GROUP_STOP, READ_STATUS or TIMEBASE_CONTROL
out of range is refused with BAD_VALUE where the number is in range, else with BAD_INDEX. R155, R149: an accepted frame, with any
padding and any bits of an unfinished byte, whose code and field bytes decode to an error is refused with that status. The upstream
link's one-cycle signals fall with the command (R183; the model's choice, DESIGN CHOICE, notes/assumptions/18.md). -/
def Obligations.FieldsRefused : Prop :=
  (∀ (code kind : Byte) (fields : List Byte) (n : Nat),
      ((code, n) ∈ [(0x20#8, 1), (0x21#8, 2), (0x22#8, 1), (0x23#8, 1), (0x24#8, 2), (0x30#8, 1), (0x31#8, 2), (0x40#8, 1),
          (0x41#8, 1), (0x42#8, 9), (0x50#8, 2), (0x60#8, 3), (0x61#8, 8), (0x70#8, 0), (0x7F#8, 0)] →
        fields.length ≠ n → Wire.decodeCommand code fields = .error .badValue) ∧
      (kind.toNat ≤ 6 → fields.length ≠ 1 → Wire.decodeCommand 0x10#8 (kind :: fields) = .error .badValue) ∧
      ((kind.toNat, n) ∈ [(0, 12), (1, 11), (2, 11), (3, 16), (4, 6), (5, 13), (6, 2)] → fields.length ≠ n →
        Wire.decodeCommand 0x11#8 (kind :: fields) = .error .badValue) ∧
      (6 < kind.toNat → Wire.decodeCommand 0x10#8 (kind :: fields) = .error .badIndex ∧
        Wire.decodeCommand 0x11#8 (kind :: fields) = .error .badIndex)) ∧
  (∀ (n o : Byte) (r k : Word) (wf : WindowFields) (gf : GroupFields) (sf : SafeFields) (xf : WatchFields) (tf : TimebaseFields)
      (lf : LinesFields) (s : State),
      LinkReady s →
      (8 ≤ n.toNat →
        exec (.groupStart n) s = .next (refused s .badIndex 0x20#8) ∧
        exec (.groupStopDiscard n) s = .next (refused s .badIndex 0x21#8) ∧
        exec (.groupStopFlush n) s = .next (refused s .badIndex 0x21#8) ∧
        exec (.sealBatch n) s = .next (refused s .badIndex 0x22#8) ∧
        exec (.release n) s = .next (refused s .badIndex 0x23#8) ∧
        exec (.readStatus n) s = .next (refused s .badIndex 0x24#8) ∧
        exec (.readStatusClear n) s = .next (refused s .badIndex 0x24#8) ∧
        exec (.forceFault n) s = .next (refused s .badIndex 0x30#8) ∧
        exec (.clearFault n o) s = .next (refused s .badIndex 0x31#8) ∧
        exec (.writeTableGroup n gf) s = .next (refused s .badIndex 0x11#8)) ∧
      (12 ≤ n.toNat →
        exec (.armWatch n) s = .next (refused s .badIndex 0x40#8) ∧
        exec (.disarmWatch n) s = .next (refused s .badIndex 0x41#8) ∧
        exec (.setReference n r k) s = .next (refused s .badIndex 0x42#8) ∧
        exec (.writeTableWatch n xf) s = .next (refused s .badIndex 0x11#8)) ∧
      (3 ≤ n.toNat →
        exec (.timebaseStart n) s = .next (refused s .badIndex 0x50#8) ∧
        exec (.timebaseStop n) s = .next (refused s .badIndex 0x50#8) ∧
        exec (.timebaseZero n) s = .next (refused s .badIndex 0x50#8)) ∧
      (16 ≤ n.toNat → exec (.writeTableWindow n wf) s = .next (refused s .badIndex 0x11#8)) ∧
      (128 ≤ n.toNat → exec (.writeTableSafe n sf) s = .next (refused s .badIndex 0x11#8)) ∧
      (2 ≤ n.toNat → exec (.writeTableTimebase n tf) s = .next (refused s .badIndex 0x11#8)) ∧
      (1 ≤ n.toNat →
        exec (.writeTableLines n lf) s = .next (refused s .badIndex 0x11#8) ∧
        exec (.writeTableMemport n o) s = .next (refused s .badIndex 0x11#8)) ∧
      ((o.toNat, true) ∈ [(0, decide (16 ≤ n.toNat)), (1, decide (8 ≤ n.toNat)), (2, decide (128 ≤ n.toNat)),
          (3, decide (12 ≤ n.toNat)), (4, decide (2 ≤ n.toNat)), (5, decide (1 ≤ n.toNat)), (6, decide (1 ≤ n.toNat))] ∨
          7 ≤ o.toNat →
        exec (.readTable o n) s = .next (refused s .badIndex 0x10#8))) ∧
  (∀ (n o : Byte),
      (1 < o.toNat →
        Wire.decodeCommand 0x21#8 [n, o] = .error (if n.toNat < 8 then .badValue else .badIndex) ∧
        Wire.decodeCommand 0x24#8 [n, o] = .error (if n.toNat < 8 then .badValue else .badIndex)) ∧
      (2 < o.toNat → Wire.decodeCommand 0x50#8 [n, o] = .error (if n.toNat < 3 then .badValue else .badIndex))) ∧
  (∀ (code : Byte) (fields padding : List Byte) (tail : List Bool) (st : Status) (s : State),
      LinkReady s → fields.length < 256 → tail.length < 8 → Wire.decodeCommand code fields = .error st →
      exec (.frameEnd (Wire.bitsOfBytes (Wire.frameBytes code fields ++ padding) ++ tail)) s = .next (refused s st code))

/-- R153: while a command is pending every command's frame but NOP's and READ_RESULT's is rejected with BUSY, and those two are
accepted; a frame during which RESET_N was asserted is dropped. The upstream link's one-cycle signals fall with the command (R183;
the model's choice, DESIGN CHOICE, notes/assumptions/18.md). That a command's row is a whole frame is the model's choice (DESIGN
CHOICE, notes/assumptions/11.md). -/
def Obligations.BusyWhilePending : Prop :=
  ∀ (c : Instr) (code : Byte) (fields : List Byte) (s : State),
    Wire.encodeCommand c = some (code, fields) →
    (¬ NotDropped s → exec c s = .next { quiet s with link := { s.link with frame := none } }) ∧
    (NotDropped s → s.link.pending ≠ none → c ≠ .nop → c ≠ .readResult → exec c s = .next (rejected s .busy code)) ∧
    (NotDropped s → exec .nop s = .next { quiet s with
      link := { s.link with choice := .link, notice := noticeAfter s, frame := none } }) ∧
    (NotDropped s → exec .readResult s = .next { quiet s with
      link := { s.link with choice := .slot, notice := noticeAfter s, frame := none } })

/-! ## The tables -/

/-- R160, R25, R28, R121, R131, R71, R73, R103: READ_TABLE returns the record as it stands and changes nothing else. The upstream
link's one-cycle signals fall with the command (R183; the model's choice, DESIGN CHOICE, notes/assumptions/18.md). -/
def Obligations.TableRead : Prop :=
  ∀ (n16 : Fin 16) (n8 : Fin 8) (n128 : Fin 128) (n12 : Fin 12) (s : State),
    LinkReady s →
    exec (.readTable 0#8 (BitVec.ofNat 8 n16.val)) s = .next (taken s s 0x10#8 s.windows[n16].bytes) ∧
    exec (.readTable 1#8 (BitVec.ofNat 8 n8.val)) s = .next (taken s s 0x10#8 (s.group n8).config.bytes) ∧
    exec (.readTable 2#8 (BitVec.ofNat 8 n128.val)) s = .next (taken s s 0x10#8 s.safeTable[n128].bytes) ∧
    exec (.readTable 3#8 (BitVec.ofNat 8 n12.val)) s = .next (taken s s 0x10#8 (s.watch n12).bytes) ∧
    exec (.readTable 4#8 0#8) s = .next (taken s s 0x10#8 s.baseA.bytes) ∧
    exec (.readTable 4#8 1#8) s = .next (taken s s 0x10#8 s.baseB.bytes) ∧
    exec (.readTable 5#8 0#8) s = .next (taken s s 0x10#8 s.linesBytes) ∧
    exec (.readTable 6#8 0#8) s = .next (taken s s 0x10#8 [BitVec.ofNat 8 s.port.burst])

/-- R187: a record as READ_TABLE returns it, written back with its first write-length bytes, writes the values it read. -/
def Obligations.RecordRoundTrip : Prop :=
  ∀ (w : Window) (c : GroupConfig) (e : SafeEntry) (x : Watch) (t : TimeBase),
    (∃ f, Wire.readWindow w.bytes = some f ∧ windowRecord f = w) ∧
    (ConfigOk c → ∃ f, Wire.readGroup c.bytes = some f ∧ groupRecord f = c) ∧
    (∃ f, Wire.readSafe e.bytes = some f ∧ safeRecord f = e) ∧
    (x.settleLength ≤ 15 → ∃ f, Wire.readWatch (x.bytes.take 15) = some f ∧ x.configure f = x) ∧
    (BaseOk t → ∃ f, Wire.readTimebase (t.bytes.take 5) = some f ∧
      f.divider.toNat = t.divider ∧ f.period.toNat = t.period ∧ f.bLock = t.bLock)

/-- R24: WRITE_TABLE of a window record, its checks in their order. The upstream link's one-cycle signals fall with the command
(R183; the model's choice, DESIGN CHOICE, notes/assumptions/18.md). -/
def Obligations.WindowWritten : Prop :=
  ∀ (k : Byte) (n : Fin 16) (f : WindowFields) (w : Window) (s : State),
    LinkReady s → w = windowRecord f →
    (16 ≤ k.toNat → exec (.writeTableWindow k f) s = .next (refused s .badIndex 0x11#8)) ∧
    exec (.writeTableWindow (BitVec.ofNat 8 n.val) f) s = .next
      (if f.length.toNat = 0 ∨ 65536 < f.length.toNat ∨ 4194303 < f.base.toNat + f.length.toNat - 1 ∨ 7 < f.group.toNat then
        refused s .badValue 0x11#8
       else if (s.windows[n].enabled ∧ s.itemCurrent s.windows[n].group) ∨ (w.enabled ∧ s.itemCurrent w.group) then
        refused s .busy 0x11#8
       else if (s.windows[n].enabled ∧ (s.group s.windows[n].group).state ≠ .off) ∨
          (w.enabled ∧ (s.group w.group).state ≠ .off) then
        refused s .badState 0x11#8
       else if w.enabled ∧ ∃ m : Fin 16, m ≠ n ∧ s.windows[m].enabled ∧
          s.windows[m].base.toNat < w.base.toNat + w.length.toNat ∧
          w.base.toNat < s.windows[m].base.toNat + s.windows[m].length.toNat then
        refused s .overlap 0x11#8
       else taken s { s with windows := s.windows.set n w } 0x11#8 [])

/-- R28: WRITE_TABLE of a group's configuration. R121: WRITE_TABLE of a safe-image entry. R132: WRITE_TABLE of a watch: its
configuration alone, and only while DISARMED. The upstream link's one-cycle signals fall with the command (R183; the model's choice,
DESIGN CHOICE, notes/assumptions/18.md). -/
def Obligations.RecordsWritten : Prop :=
  (∀ (g : Fin 8) (f : GroupFields) (s : State),
      LinkReady s →
      exec (.writeTableGroup (groupByte g) f) s = .next
        (if 3 < f.trigger.toNat ∨ 65534 < f.phase.toNat ∨ 15 < f.skip.toNat ∨ 15 < f.missLimit.toNat ∨ 3 < f.releaseLine.toNat ∨
            512 < f.quota.toNat then
          refused s .badValue 0x11#8
         else if (s.group g).state ≠ .off then refused s .badState 0x11#8
         else taken s { s with groups := s.groups.set g { s.group g with config := groupRecord f } } 0x11#8 [])) ∧
  (∀ (n : Fin 128) (f : SafeFields) (s : State),
      LinkReady s →
      exec (.writeTableSafe (BitVec.ofNat 8 n.val) f) s = .next
        (if 7 < f.group.toNat ∨ 4194303 < f.addr.toNat ∨ (f.enabled ∧ f.mask = 0#4) then refused s .badValue 0x11#8
         else if (s.group s.safeTable[n].group).state = .safing ∨ (s.group (safeRecord f).group).state = .safing then
          refused s .busy 0x11#8
         else taken s { s with safeTable := s.safeTable.set n (safeRecord f) } 0x11#8 [])) ∧
  (∀ (w : Fin 12) (f : WatchFields) (s : State),
      LinkReady s →
      exec (.writeTableWatch (watchByte w) f) s = .next
        (if 4194303 < f.addr.toNat ∨ 7 < f.tripGroup.toNat ∨ (f.settlePresent ∧ 7 < f.settleGroup.toNat) ∨
            15 < f.settleLength.toNat then
          refused s .badValue 0x11#8
         else if (s.watch w).state ≠ .disarmed then refused s .badState 0x11#8
         else taken s { s with watches := s.watches.set w ((s.watch w).configure f) } 0x11#8 []))

/-- R69: WRITE_TABLE of a time base; a period below 16 is taken as 16, and a running base takes it as its pending period. R161,
R109, R108, R103: WRITE_TABLE of the line configuration, with each fault line that becomes active by it reported to the groups that
enable it, and of the drain burst. The upstream link's one-cycle signals fall with the command (R183; the model's choice, DESIGN
CHOICE, notes/assumptions/18.md). That one write that makes both fault lines active reports line 0 before line 1 is the model's
choice (DESIGN CHOICE, notes/assumptions/28.md). That the event records of several groups come in increasing order of group number
is the model's choice (DESIGN CHOICE, notes/assumptions/32.md). -/
def Obligations.TimebaseLinesBurstWritten : Prop :=
  (∀ (b : Base) (f : TimebaseFields) (period : Nat) (t : TimeBase) (s : State),
      LinkReady s → t = s.base b → period = (if f.period.toNat < 16 then 16 else f.period.toNat) →
      exec (.writeTableTimebase (match b with
          | .timeA => 0#8
          | .timeB => 1#8) f) s = .next
        (if f.divider.toNat = 0 ∨ 256 < f.divider.toNat ∨ (f.bLock ∧ b = .timeA) then refused s .badValue 0x11#8
         else if t.running ∧ ∃ g : Fin 8, ((s.group g).state = .active ∨ (s.group g).state = .faulted) ∧
            (s.group g).config.trigger = .timed ∧ (s.group g).config.base = b ∧ period ≤ (s.group g).config.phase then
          refused s .badValue 0x11#8
         else taken s (s.setBase b
          (if t.running then { t with divider := f.divider.toNat, bLock := f.bLock, interval := 0, pendingPeriod := some period }
           else { t with
            divider := f.divider.toNat, bLock := f.bLock, interval := 0, period := period, pendingPeriod := none,
            count := if t.count < period then t.count else 0 })) 0x11#8 [])) ∧
  (∀ (f : LinesFields) (burst : Byte) (s u v : State),
      LinkReady s →
      u = { s with
        releaseLines := s.releaseLines.mapFinIdx fun k l _ =>
          let e := match k with
            | 0 => f.release0
            | 1 => f.release1
            | 2 => f.release2
            | _ => f.release3
          { l with edge := edgeField e.choice, qual := e.qual.toNat, count := 0 }
        faultLines := s.faultLines.mapFinIdx fun k l _ =>
          let e := if k = 0 then f.fault0 else f.fault1
          { l with activeHigh := e.choice == 0#8, qual := e.qual.toNat, count := 0 } } →
      v = (if s.lineActive 0 = false ∧ u.lineActive 0 = true then lineReported u 0 else u) →
      (Wire.linesInRange f = false → exec (.writeTableLines 0#8 f) s = .next (refused s .badValue 0x11#8)) ∧
      (Wire.linesInRange f = true →
        exec (.writeTableLines 0#8 f) s = .next
          (taken s (if s.lineActive 1 = false ∧ u.lineActive 1 = true then lineReported v 1 else v) 0x11#8 [])) ∧
      exec (.writeTableMemport 0#8 burst) s = .next
        (if burst.toNat = 0 ∨ 16 < burst.toNat then refused s .badValue 0x11#8
         else taken s { s with port := { s.port with burst := burst.toNat } } 0x11#8 []))

/-! ## Groups -/

/-- R33, R34: GROUP_START, its checks in their order, and the start. The upstream link's one-cycle signals fall with the command
(R183; the model's choice, DESIGN CHOICE, notes/assumptions/18.md). -/
def Obligations.GroupStarted : Prop :=
  ∀ (g : Fin 8) (gr : Group) (s : State),
    LinkReady s → gr = s.group g →
    exec (.groupStart (groupByte g)) s = .next
      (if gr.state ≠ .off then refused s .badState 0x20#8
       else if gr.config.quota = 0 then refused s .badValue 0x20#8
       else if gr.config.trigger = .timed ∧ ((s.base gr.config.base).period ≤ gr.config.phase ∨
          ∃ p ∈ (s.base gr.config.base).pendingPeriod, p ≤ gr.config.phase) then refused s .badValue 0x20#8
       else if ∃ n : Fin 16, s.windows[n].enabled ∧ s.windows[n].group = g ∧
          ∃ o ∈ s.windows[n].sealOffset, s.windows[n].length.toNat ≤ o.toNat then refused s .badValue 0x20#8
       else if (s.lineActive 0 ∧ gr.config.faultLine0) ∨ (s.lineActive 1 ∧ gr.config.faultLine1) then
        refused s .badState 0x20#8
       else taken s { s with
        groups := s.groups.set g { opens gr with causes := 0, first := none, safeIncomplete := false, skipRemaining := 0 } }
        0x20#8 (Wire.split2 gr.nextSeq))

/-- R35: GROUP_STOP with DISCARD, by the state of the group. R35, R36: GROUP_STOP with FLUSH, by the state and the batches of the
group. The upstream link's one-cycle signals fall with the command (R183; the model's choice, DESIGN CHOICE,
notes/assumptions/18.md). -/
def Obligations.GroupStopped : Prop :=
  (∀ (g : Fin 8) (gr : Group) (s : State),
      LinkReady s → gr = s.group g →
      exec (.groupStopDiscard (groupByte g)) s = .next (match gr.state with
        | .off => refused s .badState 0x21#8
        | .safing => refused s .busy 0x21#8
        | .faulted => taken s { s with
            groups := s.groups.set g { gr with state := .off, stopOption := .discard }
            events := (s.submit (.groupStopped g .discard)).events } 0x21#8 [0#8]
        | _ =>
          if gr.draining then taken s { s with
            groups := s.groups.set g { withoutBatches gr with state := .stopping, stopOption := .discard }
            freeSlots := s.freeSlots + discarded gr
            releaseQueue := queueWithout s g } 0x21#8 [2#8]
          else taken s { s with
            groups := s.groups.set g { withoutBatches gr with state := .off, stopOption := .discard }
            freeSlots := s.freeSlots + discarded gr
            releaseQueue := queueWithout s g
            events := (s.submit (.groupStopped g .discard)).events } 0x21#8 [0#8])) ∧
  (∀ (g : Fin 8) (gr : Group) (o : Batch) (s : State),
      LinkReady s → gr = s.group g →
      (gr.state = .off → exec (.groupStopFlush (groupByte g)) s = .next (refused s .badState 0x21#8)) ∧
      (gr.state = .safing → exec (.groupStopFlush (groupByte g)) s = .next (refused s .busy 0x21#8)) ∧
      (gr.state = .stopping → exec (.groupStopFlush (groupByte g)) s = .next (taken s s 0x21#8 [2#8])) ∧
      (gr.state = .faulted → exec (.groupStopFlush (groupByte g)) s = .next (taken s { s with
        groups := s.groups.set g { gr with state := .off, stopOption := .flush }
        events := (s.submit (.groupStopped g .flush)).events } 0x21#8 [0#8])) ∧
      (gr.state = .active → gr.opened = some o →
        exec (.groupStopFlush (groupByte g)) s = .next (match gr.other with
          | none => taken s { s with
              groups := s.groups.set g { gr with
                state := .stopping, stopOption := .flush, opened := none, other := some (sealedBatch o .flush true) }
              releaseQueue := s.releaseQueue ++ [.batch g o.seq] } 0x21#8 [2#8]
          | some b =>
            if b.state = .closed then taken s { s with
              groups := s.groups.set g { gr with
                state := .stopping, stopOption := .flush, sealPending := true, other := some { b with state := .queued } }
              releaseQueue := s.releaseQueue ++ [.batch g b.seq] } 0x21#8 [2#8]
            else taken s { s with
              groups := s.groups.set g { gr with state := .stopping, stopOption := .flush, sealPending := true } } 0x21#8 [2#8])))

/-- R53, R54, R58: SEAL, by the state and the batches of the group. The upstream link's one-cycle signals fall with the command
(R183; the model's choice, DESIGN CHOICE, notes/assumptions/18.md). -/
def Obligations.SealCommand : Prop :=
  ∀ (g : Fin 8) (gr : Group) (o : Batch) (s : State),
    LinkReady s → gr = s.group g →
    (gr.state = .off ∨ gr.state = .safing ∨ gr.state = .faulted ∨ (gr.state = .stopping ∧ gr.sealPending = false) →
      exec (.sealBatch (groupByte g)) s = .next (refused s .badState 0x22#8)) ∧
    (gr.opened = some o →
      (gr.state = .stopping → gr.sealPending = true →
        exec (.sealBatch (groupByte g)) s = .next (taken s s 0x22#8 (3#8 :: Wire.split2 o.seq))) ∧
      (gr.state = .active → gr.other = none →
        exec (.sealBatch (groupByte g)) s = .next (taken s { s with
          groups := s.groups.set g (groupSealed gr o .command)
          releaseQueue := queueSealed s g gr o } 0x22#8
          (1#8 :: (Wire.split2 o.seq ++ Wire.split2Nat s.baseA.count ++ Wire.split2 s.baseA.periodIndex)))) ∧
      (∀ b, gr.other = some b → gr.state = .active →
        exec (.sealBatch (groupByte g)) s = .next
          (if gr.sealPending then taken s s 0x22#8 (3#8 :: Wire.split2 o.seq)
           else taken s { s with groups := s.groups.set g { gr with sealPending := true } } 0x22#8 (2#8 :: Wire.split2 o.seq))))

/-- R77 to R80, R82, R127: RELEASE, by the state and the other batch of the group. The upstream link's one-cycle signals fall with
the command (R183; the model's choice, DESIGN CHOICE, notes/assumptions/18.md). -/
def Obligations.ReleaseCommand : Prop :=
  ∀ (g : Fin 8) (gr : Group) (o : Batch) (n : Nat) (s s' : State),
    LinkReady s → gr = s.group g → n = min (gr.consecutive + 1) 15 →
    s' = State.submit { s with
      groups := s.groups.set g { gr with misses := min (gr.misses + 1) 65535, consecutive := n } } (.releaseMissed g o.seq n) →
    (gr.state = .off ∨ gr.state = .stopping ∨ gr.state = .safing →
      exec (.release (groupByte g)) s = .next (refused s .badState 0x23#8)) ∧
    (gr.state = .active → gr.opened = some o → gr.other = none →
      exec (.release (groupByte g)) s = .next (taken s
        (if gr.config.missLimit ≠ 0 ∧ n = gr.config.missLimit then s'.tripSource g (.missLimit n) else s') 0x23#8
        (2#8 :: (Wire.split2 o.seq ++ [BitVec.ofNat 8 n])))) ∧
    (∀ b, gr.other = some b → gr.state = .active →
      (b.state = .closed → exec (.release (groupByte g)) s = .next (taken s { s with
        groups := s.groups.set g { gr with consecutive := 0, other := some { b with state := .queued } }
        releaseQueue := s.releaseQueue ++ [.batch g b.seq] } 0x23#8 (1#8 :: Wire.split2 b.seq))) ∧
      (b.state ≠ .closed → exec (.release (groupByte g)) s = .next (taken s { s with
        groups := s.groups.set g { gr with overruns := min (gr.overruns + 1) 65535 }
        events := (s.submit (.releaseOverrun g b.seq b.state (min (gr.overruns + 1) 65535))).events } 0x23#8
        (3#8 :: (Wire.split2 b.seq ++ [b.state.code]))))) ∧
    (gr.state = .faulted → gr.config.clearMode = .auto → s.activeSource g = false → gr.safeIncomplete = false →
      exec (.release (groupByte g)) s = .next (taken s { s with
        groups := s.groups.set g (cleared gr)
        events := (s.submit (.faultCleared g gr.nextSeq .auto false)).events } 0x23#8 [4#8])) ∧
    (gr.state = .faulted → gr.config.clearMode = .latched ∨ s.activeSource g = true ∨ gr.safeIncomplete = true →
      exec (.release (groupByte g)) s = .next (taken s s 0x23#8 [5#8]))

/-- R31, 11.6: READ_STATUS is refused for a group above 7, else returns the status record; with the clear option the five counters
and the refusal-reported flag are cleared in the same step. The upstream link's one-cycle signals fall with the command (R183; the
model's choice, DESIGN CHOICE, notes/assumptions/18.md). -/
def Obligations.StatusRead : Prop :=
  ∀ (n : Byte) (g : Fin 8) (gr : Group) (s : State),
    LinkReady s → gr = s.group g →
    (8 ≤ n.toNat →
      exec (.readStatus n) s = .next (refused s .badIndex 0x24#8) ∧
      exec (.readStatusClear n) s = .next (refused s .badIndex 0x24#8)) ∧
    exec (.readStatus (groupByte g)) s = .next (taken s s 0x24#8 gr.statusBytes) ∧
    exec (.readStatusClear (groupByte g)) s = .next (taken s { s with
      groups := s.groups.set g { gr with
        misses := 0, overruns := 0, refused := 0, trips := 0, drainErrors := 0, refusalReported := false } } 0x24#8 gr.statusBytes)

/-- R113 to R118: FORCE_FAULT, by the state of the group: no effect on an OFF one, the first trip of an ACTIVE or STOPPING one with
its discards, its safe job and its record, a second fault of a SAFING or FAULTED one. R112, R114 to R118, R38: a trip source of any
cause, at the shared operation every source goes through. The upstream link's one-cycle signals fall with the command (R183; the
model's choice, DESIGN CHOICE, notes/assumptions/18.md). -/
def Obligations.TripTaken : Prop :=
  (∀ (g : Fin 8) (gr : Group) (s : State),
      LinkReady s → gr = s.group g → QueueOk s →
      (gr.state = .off → exec (.forceFault (groupByte g)) s = .next (refused s .badState 0x30#8)) ∧
      (gr.state = .active ∨ gr.state = .stopping →
        exec (.forceFault (groupByte g)) s = .next (taken s { s with
          groups := s.groups.set g (tripped gr .forced)
          freeSlots := s.freeSlots + discarded gr
          releaseQueue := queueWithSafe (queueWithout s g) g
          events := (s.submit (.faultTripped g .forced 0)).events } 0x30#8 [1#8])) ∧
      (gr.state = .safing ∨ gr.state = .faulted →
        exec (.forceFault (groupByte g)) s = .next (taken s { s with
          groups := s.groups.set g { gr with causes := gr.causes ||| 0x40#7, trips := min (gr.trips + 1) 65535 } } 0x30#8 [2#8]))) ∧
  (∀ (g : Fin 8) (x : TripSource) (gr : Group) (s : State),
      gr = s.group g → QueueOk s →
      (s.link.pending = some .softReset ∨ gr.state = .off → s.tripSource g x = s) ∧
      (s.link.pending ≠ some .softReset → gr.state = .active ∨ gr.state = .stopping →
        s.tripSource g x = { s with
          groups := s.groups.set g (tripped gr x)
          freeSlots := s.freeSlots + discarded gr
          releaseQueue := queueWithSafe (queueWithout s g) g
          events := (s.submit (.faultTripped g x.cause x.detail)).events }) ∧
      (s.link.pending ≠ some .softReset → gr.state = .safing ∨ gr.state = .faulted →
        s.tripSource g x = { s with
          groups := s.groups.set g { gr with causes := gr.causes ||| x.cause.bit, trips := min (gr.trips + 1) 65535 } }))

/-- R126, R125: CLEAR_FAULT, its checks in their order, and the clearing. The upstream link's one-cycle signals fall with the
command (R183; the model's choice, DESIGN CHOICE, notes/assumptions/18.md). -/
def Obligations.ClearFault : Prop :=
  ∀ (n : Byte) (g : Fin 8) (force : Byte) (gr : Group) (s : State),
    LinkReady s → gr = s.group g →
    (8 ≤ n.toNat → exec (.clearFault n force) s = .next (refused s .badIndex 0x31#8)) ∧
    exec (.clearFault (groupByte g) force) s = .next
      (if 1 < force.toNat then refused s .badValue 0x31#8
       else if gr.state = .safing then refused s .busy 0x31#8
       else if gr.state ≠ .faulted then refused s .badState 0x31#8
       else if s.activeSource g then refused s .badState 0x31#8
       else if gr.safeIncomplete ∧ force = 0#8 then refused s .badState 0x31#8
       else taken s { s with
        groups := s.groups.set g (cleared gr)
        events := (s.submit (.faultCleared g gr.nextSeq .command gr.safeIncomplete)).events } 0x31#8 (Wire.split2 gr.nextSeq))

/-! ## Memory access by command and the event queue -/

/-- R163, R164, R157: PEEK and POKE are refused, or become the pending command and join the service list. The upstream link's
one-cycle signals fall with the command (R183; the model's choice, DESIGN CHOICE, notes/assumptions/18.md). -/
def Obligations.PeekPokeTaken : Prop :=
  ∀ (a : Addr24) (d : Word) (m : Mask) (s : State),
    LinkReady s →
    exec (.peek a) s = .next
      (if 4194303 < a.toNat then refused s .badValue 0x60#8
       else { quiet s with
        link := { linkAfter s .pending 0x60#8 [] with pending := some (.peek (wordField a)) }
        port := { s.port with service := s.port.service ++ [.peek (wordField a)] } }) ∧
    exec (.poke a d m) s = .next
      (if 4194303 < a.toNat then refused s .badValue 0x61#8
       else if ∃ g ∈ s.wordGroup (wordField a), (s.group g).state ≠ .off then refused s .badState 0x61#8
       else { quiet s with
        link := { linkAfter s .pending 0x61#8 [] with pending := some (.poke (wordField a) d m) }
        port := { s.port with service := s.port.service ++ [.poke (wordField a) d m] } })

/-- R175: POP_EVENT removes and returns the oldest record with the number left, or reports EMPTY with the pending lost count. The
upstream link's one-cycle signals fall with the command (R183; the model's choice, DESIGN CHOICE, notes/assumptions/18.md). -/
def Obligations.PopEvent : Prop :=
  ∀ (s : State),
    LinkReady s →
    (s.events.records = [] → exec .popEvent s = .next (taken s s 0x70#8 [0#8, 0#8, BitVec.ofNat 8 s.events.lost])) ∧
    (∀ r rest, s.events.records = r :: rest →
      exec .popEvent s = .next (taken s { s with events := { s.events with records := rest } } 0x70#8
        (1#8 :: BitVec.ofNat 8 rest.length :: r.bytes)))

/-- R171 to R173, R177: a submitted record is masked without a trace, stored with A's reading and the pending lost count, or counted
as lost; and the attention line is asserted exactly while a record is stored. -/
def Obligations.EventSubmitted : Prop :=
  ∀ (b : EventBody) (s : State),
    (∀ g, b.group? = some g → (s.group g).config.eventMask.getLsbD (b.kindCode - 1) = false → s.submit b = s) ∧
    ((∀ g, b.group? = some g → (s.group g).config.eventMask.getLsbD (b.kindCode - 1) = true) →
      (s.events.records.length < 32 → s.submit b = { s with events := {
        records := s.events.records ++
          [{ body := b, stampCount := s.baseA.count, stampIndex := s.baseA.periodIndex, lost := s.events.lost }]
        lost := 0 } }) ∧
      (32 ≤ s.events.records.length →
        s.submit b = { s with events := { s.events with lost := min (s.events.lost + 1) 255 } })) ∧
    (s.attention = true ↔ s.events.records ≠ [])

/-! ## Invariants -/

/-- Every invariant below holds at the reset state. -/
def Obligations.ResetInvariants : Prop :=
  WindowsDisjoint State.reset ∧ RangesOk State.reset ∧ BatchesOk State.reset ∧ RequestsOk State.reset ∧
    ObservationOk State.reset

/-- R23: no step makes two enabled windows overlap. Every step from a state whose batches fit together (the invariant BatchesOk)
keeps every counted field in its stated range. -/
def Obligations.RangesKept : Prop :=
  (∀ (s t : State), WindowsDisjoint s → step s = .next t → WindowsDisjoint t) ∧
  (∀ (s t : State), BatchesOk s → RangesOk s → step s = .next t → RangesOk t)

/-- R40 to R46, R83, R86: every step keeps batches, pool, release queue and drain engine fitting together. -/
def Obligations.BatchesKept : Prop :=
  ∀ (s t : State), BatchesOk s → step s = .next t → BatchesOk t

/-- R3, R10, R15, R19, R100: every step keeps request table, pass queue, hold list, port and clearance flags fitting together. -/
def Obligations.RequestsKept : Prop :=
  ∀ (s t : State), WindowsDisjoint s → RequestsOk s → step s = .next t → RequestsOk t

/-- R131: every step keeps the memory's canonical form, and every watch in MATCH or MISMATCH a shadow equal to its word. What the
list of known bytes holds, and that nothing else changes the SRAM, are the model's (DESIGN CHOICE, PRESUMED, DEDUCED,
notes/assumptions/1.md to 4.md). -/
def Obligations.ShadowsKept : Prop :=
  ∀ (s t : State), ObservationOk s → step s = .next t → ObservationOk t
end

