-- ==== Sys2Proof/Laws/State.lean ====
section
/-! SUPPORT. What each update of State leaves in each field: one lemma per field and update, true by `rfl` or by the two bases, so that
no later proof unfolds an update. -/

namespace Sys2Proof.Machine

variable (s : State)

/-! ### setGroup -/

@[simp] theorem setGroup_upstream (g : Fin 8) (x : Group) : (s.setGroup g x).upstream = s.upstream := rfl
@[simp] theorem setGroup_windows (g : Fin 8) (x : Group) : (s.setGroup g x).windows = s.windows := rfl
@[simp] theorem setGroup_groups (g : Fin 8) (x : Group) : (s.setGroup g x).groups = s.groups.set g x := rfl
@[simp] theorem setGroup_freeSlots (g : Fin 8) (x : Group) : (s.setGroup g x).freeSlots = s.freeSlots := rfl
@[simp] theorem setGroup_baseA (g : Fin 8) (x : Group) : (s.setGroup g x).baseA = s.baseA := rfl
@[simp] theorem setGroup_baseB (g : Fin 8) (x : Group) : (s.setGroup g x).baseB = s.baseB := rfl
@[simp] theorem setGroup_releaseLines (g : Fin 8) (x : Group) : (s.setGroup g x).releaseLines = s.releaseLines := rfl
@[simp] theorem setGroup_faultLines (g : Fin 8) (x : Group) : (s.setGroup g x).faultLines = s.faultLines := rfl
@[simp] theorem setGroup_releaseQueue (g : Fin 8) (x : Group) : (s.setGroup g x).releaseQueue = s.releaseQueue := rfl
@[simp] theorem setGroup_drain (g : Fin 8) (x : Group) : (s.setGroup g x).drain = s.drain := rfl
@[simp] theorem setGroup_port (g : Fin 8) (x : Group) : (s.setGroup g x).port = s.port := rfl
@[simp] theorem setGroup_safeTable (g : Fin 8) (x : Group) : (s.setGroup g x).safeTable = s.safeTable := rfl
@[simp] theorem setGroup_watches (g : Fin 8) (x : Group) : (s.setGroup g x).watches = s.watches := rfl
@[simp] theorem setGroup_link (g : Fin 8) (x : Group) : (s.setGroup g x).link = s.link := rfl
@[simp] theorem setGroup_events (g : Fin 8) (x : Group) : (s.setGroup g x).events = s.events := rfl
@[simp] theorem setGroup_inReset (g : Fin 8) (x : Group) : (s.setGroup g x).inReset = s.inReset := rfl
@[simp] theorem setGroup_mem (g : Fin 8) (x : Group) : (s.setGroup g x).mem = s.mem := rfl
@[simp] theorem setGroup_pending (g : Fin 8) (x : Group) : (s.setGroup g x).pending = s.pending := rfl
@[simp] theorem setGroup_watch (g : Fin 8) (x : Group) (v : Fin 12) : (s.setGroup g x).watch v = s.watch v := rfl
@[simp] theorem setGroup_slot (g : Fin 8) (x : Group) (j : Fin 16) : (s.setGroup g x).slot j = s.slot j := rfl
@[simp] theorem setGroup_base (g : Fin 8) (x : Group) (c : Base) : (s.setGroup g x).base c = s.base c := by cases c <;> rfl

/-! ### setWatch -/

@[simp] theorem setWatch_upstream (w : Fin 12) (x : Watch) : (s.setWatch w x).upstream = s.upstream := rfl
@[simp] theorem setWatch_windows (w : Fin 12) (x : Watch) : (s.setWatch w x).windows = s.windows := rfl
@[simp] theorem setWatch_groups (w : Fin 12) (x : Watch) : (s.setWatch w x).groups = s.groups := rfl
@[simp] theorem setWatch_freeSlots (w : Fin 12) (x : Watch) : (s.setWatch w x).freeSlots = s.freeSlots := rfl
@[simp] theorem setWatch_baseA (w : Fin 12) (x : Watch) : (s.setWatch w x).baseA = s.baseA := rfl
@[simp] theorem setWatch_baseB (w : Fin 12) (x : Watch) : (s.setWatch w x).baseB = s.baseB := rfl
@[simp] theorem setWatch_releaseLines (w : Fin 12) (x : Watch) : (s.setWatch w x).releaseLines = s.releaseLines := rfl
@[simp] theorem setWatch_faultLines (w : Fin 12) (x : Watch) : (s.setWatch w x).faultLines = s.faultLines := rfl
@[simp] theorem setWatch_releaseQueue (w : Fin 12) (x : Watch) : (s.setWatch w x).releaseQueue = s.releaseQueue := rfl
@[simp] theorem setWatch_drain (w : Fin 12) (x : Watch) : (s.setWatch w x).drain = s.drain := rfl
@[simp] theorem setWatch_port (w : Fin 12) (x : Watch) : (s.setWatch w x).port = s.port := rfl
@[simp] theorem setWatch_safeTable (w : Fin 12) (x : Watch) : (s.setWatch w x).safeTable = s.safeTable := rfl
@[simp] theorem setWatch_watches (w : Fin 12) (x : Watch) : (s.setWatch w x).watches = s.watches.set w x := rfl
@[simp] theorem setWatch_link (w : Fin 12) (x : Watch) : (s.setWatch w x).link = s.link := rfl
@[simp] theorem setWatch_events (w : Fin 12) (x : Watch) : (s.setWatch w x).events = s.events := rfl
@[simp] theorem setWatch_inReset (w : Fin 12) (x : Watch) : (s.setWatch w x).inReset = s.inReset := rfl
@[simp] theorem setWatch_mem (w : Fin 12) (x : Watch) : (s.setWatch w x).mem = s.mem := rfl
@[simp] theorem setWatch_pending (w : Fin 12) (x : Watch) : (s.setWatch w x).pending = s.pending := rfl
@[simp] theorem setWatch_group (w : Fin 12) (x : Watch) (h : Fin 8) : (s.setWatch w x).group h = s.group h := rfl
@[simp] theorem setWatch_slot (w : Fin 12) (x : Watch) (j : Fin 16) : (s.setWatch w x).slot j = s.slot j := rfl
@[simp] theorem setWatch_base (w : Fin 12) (x : Watch) (c : Base) : (s.setWatch w x).base c = s.base c := by cases c <;> rfl

/-! ### setSlot -/

@[simp] theorem setSlot_slots (i : Fin 16) (x : Slot) : (s.setSlot i x).upstream.slots = s.upstream.slots.set i x := rfl
@[simp] theorem setSlot_passQueue (i : Fin 16) (x : Slot) : (s.setSlot i x).upstream.passQueue = s.upstream.passQueue := rfl
@[simp] theorem setSlot_holdList (i : Fin 16) (x : Slot) : (s.setSlot i x).upstream.holdList = s.upstream.holdList := rfl
@[simp] theorem setSlot_nextOrder (i : Fin 16) (x : Slot) : (s.setSlot i x).upstream.nextOrder = s.upstream.nextOrder := rfl
@[simp] theorem setSlot_indication (i : Fin 16) (x : Slot) : (s.setSlot i x).upstream.indication = s.upstream.indication := rfl
@[simp] theorem setSlot_issued (i : Fin 16) (x : Slot) : (s.setSlot i x).upstream.issued = s.upstream.issued := rfl
@[simp] theorem setSlot_windows (i : Fin 16) (x : Slot) : (s.setSlot i x).windows = s.windows := rfl
@[simp] theorem setSlot_groups (i : Fin 16) (x : Slot) : (s.setSlot i x).groups = s.groups := rfl
@[simp] theorem setSlot_freeSlots (i : Fin 16) (x : Slot) : (s.setSlot i x).freeSlots = s.freeSlots := rfl
@[simp] theorem setSlot_baseA (i : Fin 16) (x : Slot) : (s.setSlot i x).baseA = s.baseA := rfl
@[simp] theorem setSlot_baseB (i : Fin 16) (x : Slot) : (s.setSlot i x).baseB = s.baseB := rfl
@[simp] theorem setSlot_releaseLines (i : Fin 16) (x : Slot) : (s.setSlot i x).releaseLines = s.releaseLines := rfl
@[simp] theorem setSlot_faultLines (i : Fin 16) (x : Slot) : (s.setSlot i x).faultLines = s.faultLines := rfl
@[simp] theorem setSlot_releaseQueue (i : Fin 16) (x : Slot) : (s.setSlot i x).releaseQueue = s.releaseQueue := rfl
@[simp] theorem setSlot_drain (i : Fin 16) (x : Slot) : (s.setSlot i x).drain = s.drain := rfl
@[simp] theorem setSlot_port (i : Fin 16) (x : Slot) : (s.setSlot i x).port = s.port := rfl
@[simp] theorem setSlot_safeTable (i : Fin 16) (x : Slot) : (s.setSlot i x).safeTable = s.safeTable := rfl
@[simp] theorem setSlot_watches (i : Fin 16) (x : Slot) : (s.setSlot i x).watches = s.watches := rfl
@[simp] theorem setSlot_link (i : Fin 16) (x : Slot) : (s.setSlot i x).link = s.link := rfl
@[simp] theorem setSlot_events (i : Fin 16) (x : Slot) : (s.setSlot i x).events = s.events := rfl
@[simp] theorem setSlot_inReset (i : Fin 16) (x : Slot) : (s.setSlot i x).inReset = s.inReset := rfl
@[simp] theorem setSlot_mem (i : Fin 16) (x : Slot) : (s.setSlot i x).mem = s.mem := rfl
@[simp] theorem setSlot_pending (i : Fin 16) (x : Slot) : (s.setSlot i x).pending = s.pending := rfl
@[simp] theorem setSlot_group (i : Fin 16) (x : Slot) (h : Fin 8) : (s.setSlot i x).group h = s.group h := rfl
@[simp] theorem setSlot_watch (i : Fin 16) (x : Slot) (v : Fin 12) : (s.setSlot i x).watch v = s.watch v := rfl
@[simp] theorem setSlot_base (i : Fin 16) (x : Slot) (c : Base) : (s.setSlot i x).base c = s.base c := by cases c <;> rfl

/-! ### setPassQueue -/

@[simp] theorem setPassQueue_slots (q : List (Fin 16)) : (s.setPassQueue q).upstream.slots = s.upstream.slots := rfl
@[simp] theorem setPassQueue_passQueue (q : List (Fin 16)) : (s.setPassQueue q).upstream.passQueue = q := rfl
@[simp] theorem setPassQueue_holdList (q : List (Fin 16)) : (s.setPassQueue q).upstream.holdList = s.upstream.holdList := rfl
@[simp] theorem setPassQueue_nextOrder (q : List (Fin 16)) : (s.setPassQueue q).upstream.nextOrder = s.upstream.nextOrder := rfl
@[simp] theorem setPassQueue_indication (q : List (Fin 16)) : (s.setPassQueue q).upstream.indication = s.upstream.indication := rfl
@[simp] theorem setPassQueue_issued (q : List (Fin 16)) : (s.setPassQueue q).upstream.issued = s.upstream.issued := rfl
@[simp] theorem setPassQueue_windows (q : List (Fin 16)) : (s.setPassQueue q).windows = s.windows := rfl
@[simp] theorem setPassQueue_groups (q : List (Fin 16)) : (s.setPassQueue q).groups = s.groups := rfl
@[simp] theorem setPassQueue_freeSlots (q : List (Fin 16)) : (s.setPassQueue q).freeSlots = s.freeSlots := rfl
@[simp] theorem setPassQueue_baseA (q : List (Fin 16)) : (s.setPassQueue q).baseA = s.baseA := rfl
@[simp] theorem setPassQueue_baseB (q : List (Fin 16)) : (s.setPassQueue q).baseB = s.baseB := rfl
@[simp] theorem setPassQueue_releaseLines (q : List (Fin 16)) : (s.setPassQueue q).releaseLines = s.releaseLines := rfl
@[simp] theorem setPassQueue_faultLines (q : List (Fin 16)) : (s.setPassQueue q).faultLines = s.faultLines := rfl
@[simp] theorem setPassQueue_releaseQueue (q : List (Fin 16)) : (s.setPassQueue q).releaseQueue = s.releaseQueue := rfl
@[simp] theorem setPassQueue_drain (q : List (Fin 16)) : (s.setPassQueue q).drain = s.drain := rfl
@[simp] theorem setPassQueue_port (q : List (Fin 16)) : (s.setPassQueue q).port = s.port := rfl
@[simp] theorem setPassQueue_safeTable (q : List (Fin 16)) : (s.setPassQueue q).safeTable = s.safeTable := rfl
@[simp] theorem setPassQueue_watches (q : List (Fin 16)) : (s.setPassQueue q).watches = s.watches := rfl
@[simp] theorem setPassQueue_link (q : List (Fin 16)) : (s.setPassQueue q).link = s.link := rfl
@[simp] theorem setPassQueue_events (q : List (Fin 16)) : (s.setPassQueue q).events = s.events := rfl
@[simp] theorem setPassQueue_inReset (q : List (Fin 16)) : (s.setPassQueue q).inReset = s.inReset := rfl
@[simp] theorem setPassQueue_mem (q : List (Fin 16)) : (s.setPassQueue q).mem = s.mem := rfl
@[simp] theorem setPassQueue_pending (q : List (Fin 16)) : (s.setPassQueue q).pending = s.pending := rfl
@[simp] theorem setPassQueue_group (q : List (Fin 16)) (h : Fin 8) : (s.setPassQueue q).group h = s.group h := rfl
@[simp] theorem setPassQueue_watch (q : List (Fin 16)) (v : Fin 12) : (s.setPassQueue q).watch v = s.watch v := rfl
@[simp] theorem setPassQueue_slot (q : List (Fin 16)) (j : Fin 16) : (s.setPassQueue q).slot j = s.slot j := rfl
@[simp] theorem setPassQueue_base (q : List (Fin 16)) (c : Base) : (s.setPassQueue q).base c = s.base c := by cases c <;> rfl

/-! ### setHoldList -/

@[simp] theorem setHoldList_slots (q : List (Fin 16)) : (s.setHoldList q).upstream.slots = s.upstream.slots := rfl
@[simp] theorem setHoldList_passQueue (q : List (Fin 16)) : (s.setHoldList q).upstream.passQueue = s.upstream.passQueue := rfl
@[simp] theorem setHoldList_holdList (q : List (Fin 16)) : (s.setHoldList q).upstream.holdList = q := rfl
@[simp] theorem setHoldList_nextOrder (q : List (Fin 16)) : (s.setHoldList q).upstream.nextOrder = s.upstream.nextOrder := rfl
@[simp] theorem setHoldList_indication (q : List (Fin 16)) : (s.setHoldList q).upstream.indication = s.upstream.indication := rfl
@[simp] theorem setHoldList_issued (q : List (Fin 16)) : (s.setHoldList q).upstream.issued = s.upstream.issued := rfl
@[simp] theorem setHoldList_windows (q : List (Fin 16)) : (s.setHoldList q).windows = s.windows := rfl
@[simp] theorem setHoldList_groups (q : List (Fin 16)) : (s.setHoldList q).groups = s.groups := rfl
@[simp] theorem setHoldList_freeSlots (q : List (Fin 16)) : (s.setHoldList q).freeSlots = s.freeSlots := rfl
@[simp] theorem setHoldList_baseA (q : List (Fin 16)) : (s.setHoldList q).baseA = s.baseA := rfl
@[simp] theorem setHoldList_baseB (q : List (Fin 16)) : (s.setHoldList q).baseB = s.baseB := rfl
@[simp] theorem setHoldList_releaseLines (q : List (Fin 16)) : (s.setHoldList q).releaseLines = s.releaseLines := rfl
@[simp] theorem setHoldList_faultLines (q : List (Fin 16)) : (s.setHoldList q).faultLines = s.faultLines := rfl
@[simp] theorem setHoldList_releaseQueue (q : List (Fin 16)) : (s.setHoldList q).releaseQueue = s.releaseQueue := rfl
@[simp] theorem setHoldList_drain (q : List (Fin 16)) : (s.setHoldList q).drain = s.drain := rfl
@[simp] theorem setHoldList_port (q : List (Fin 16)) : (s.setHoldList q).port = s.port := rfl
@[simp] theorem setHoldList_safeTable (q : List (Fin 16)) : (s.setHoldList q).safeTable = s.safeTable := rfl
@[simp] theorem setHoldList_watches (q : List (Fin 16)) : (s.setHoldList q).watches = s.watches := rfl
@[simp] theorem setHoldList_link (q : List (Fin 16)) : (s.setHoldList q).link = s.link := rfl
@[simp] theorem setHoldList_events (q : List (Fin 16)) : (s.setHoldList q).events = s.events := rfl
@[simp] theorem setHoldList_inReset (q : List (Fin 16)) : (s.setHoldList q).inReset = s.inReset := rfl
@[simp] theorem setHoldList_mem (q : List (Fin 16)) : (s.setHoldList q).mem = s.mem := rfl
@[simp] theorem setHoldList_pending (q : List (Fin 16)) : (s.setHoldList q).pending = s.pending := rfl
@[simp] theorem setHoldList_group (q : List (Fin 16)) (h : Fin 8) : (s.setHoldList q).group h = s.group h := rfl
@[simp] theorem setHoldList_watch (q : List (Fin 16)) (v : Fin 12) : (s.setHoldList q).watch v = s.watch v := rfl
@[simp] theorem setHoldList_slot (q : List (Fin 16)) (j : Fin 16) : (s.setHoldList q).slot j = s.slot j := rfl
@[simp] theorem setHoldList_base (q : List (Fin 16)) (c : Base) : (s.setHoldList q).base c = s.base c := by cases c <;> rfl

/-! ### setIndication -/

@[simp] theorem setIndication_slots (x : Indication) : (s.setIndication x).upstream.slots = s.upstream.slots := rfl
@[simp] theorem setIndication_passQueue (x : Indication) : (s.setIndication x).upstream.passQueue = s.upstream.passQueue := rfl
@[simp] theorem setIndication_holdList (x : Indication) : (s.setIndication x).upstream.holdList = s.upstream.holdList := rfl
@[simp] theorem setIndication_nextOrder (x : Indication) : (s.setIndication x).upstream.nextOrder = s.upstream.nextOrder := rfl
@[simp] theorem setIndication_indication (x : Indication) : (s.setIndication x).upstream.indication = x := rfl
@[simp] theorem setIndication_issued (x : Indication) : (s.setIndication x).upstream.issued = s.upstream.issued := rfl
@[simp] theorem setIndication_windows (x : Indication) : (s.setIndication x).windows = s.windows := rfl
@[simp] theorem setIndication_groups (x : Indication) : (s.setIndication x).groups = s.groups := rfl
@[simp] theorem setIndication_freeSlots (x : Indication) : (s.setIndication x).freeSlots = s.freeSlots := rfl
@[simp] theorem setIndication_baseA (x : Indication) : (s.setIndication x).baseA = s.baseA := rfl
@[simp] theorem setIndication_baseB (x : Indication) : (s.setIndication x).baseB = s.baseB := rfl
@[simp] theorem setIndication_releaseLines (x : Indication) : (s.setIndication x).releaseLines = s.releaseLines := rfl
@[simp] theorem setIndication_faultLines (x : Indication) : (s.setIndication x).faultLines = s.faultLines := rfl
@[simp] theorem setIndication_releaseQueue (x : Indication) : (s.setIndication x).releaseQueue = s.releaseQueue := rfl
@[simp] theorem setIndication_drain (x : Indication) : (s.setIndication x).drain = s.drain := rfl
@[simp] theorem setIndication_port (x : Indication) : (s.setIndication x).port = s.port := rfl
@[simp] theorem setIndication_safeTable (x : Indication) : (s.setIndication x).safeTable = s.safeTable := rfl
@[simp] theorem setIndication_watches (x : Indication) : (s.setIndication x).watches = s.watches := rfl
@[simp] theorem setIndication_link (x : Indication) : (s.setIndication x).link = s.link := rfl
@[simp] theorem setIndication_events (x : Indication) : (s.setIndication x).events = s.events := rfl
@[simp] theorem setIndication_inReset (x : Indication) : (s.setIndication x).inReset = s.inReset := rfl
@[simp] theorem setIndication_mem (x : Indication) : (s.setIndication x).mem = s.mem := rfl
@[simp] theorem setIndication_pending (x : Indication) : (s.setIndication x).pending = s.pending := rfl
@[simp] theorem setIndication_group (x : Indication) (h : Fin 8) : (s.setIndication x).group h = s.group h := rfl
@[simp] theorem setIndication_watch (x : Indication) (v : Fin 12) : (s.setIndication x).watch v = s.watch v := rfl
@[simp] theorem setIndication_slot (x : Indication) (j : Fin 16) : (s.setIndication x).slot j = s.slot j := rfl
@[simp] theorem setIndication_base (x : Indication) (c : Base) : (s.setIndication x).base c = s.base c := by cases c <;> rfl

/-! ### setIssued -/

@[simp] theorem setIssued_slots (x : Option Issued) : (s.setIssued x).upstream.slots = s.upstream.slots := rfl
@[simp] theorem setIssued_passQueue (x : Option Issued) : (s.setIssued x).upstream.passQueue = s.upstream.passQueue := rfl
@[simp] theorem setIssued_holdList (x : Option Issued) : (s.setIssued x).upstream.holdList = s.upstream.holdList := rfl
@[simp] theorem setIssued_nextOrder (x : Option Issued) : (s.setIssued x).upstream.nextOrder = s.upstream.nextOrder := rfl
@[simp] theorem setIssued_indication (x : Option Issued) : (s.setIssued x).upstream.indication = s.upstream.indication := rfl
@[simp] theorem setIssued_issued (x : Option Issued) : (s.setIssued x).upstream.issued = x := rfl
@[simp] theorem setIssued_windows (x : Option Issued) : (s.setIssued x).windows = s.windows := rfl
@[simp] theorem setIssued_groups (x : Option Issued) : (s.setIssued x).groups = s.groups := rfl
@[simp] theorem setIssued_freeSlots (x : Option Issued) : (s.setIssued x).freeSlots = s.freeSlots := rfl
@[simp] theorem setIssued_baseA (x : Option Issued) : (s.setIssued x).baseA = s.baseA := rfl
@[simp] theorem setIssued_baseB (x : Option Issued) : (s.setIssued x).baseB = s.baseB := rfl
@[simp] theorem setIssued_releaseLines (x : Option Issued) : (s.setIssued x).releaseLines = s.releaseLines := rfl
@[simp] theorem setIssued_faultLines (x : Option Issued) : (s.setIssued x).faultLines = s.faultLines := rfl
@[simp] theorem setIssued_releaseQueue (x : Option Issued) : (s.setIssued x).releaseQueue = s.releaseQueue := rfl
@[simp] theorem setIssued_drain (x : Option Issued) : (s.setIssued x).drain = s.drain := rfl
@[simp] theorem setIssued_port (x : Option Issued) : (s.setIssued x).port = s.port := rfl
@[simp] theorem setIssued_safeTable (x : Option Issued) : (s.setIssued x).safeTable = s.safeTable := rfl
@[simp] theorem setIssued_watches (x : Option Issued) : (s.setIssued x).watches = s.watches := rfl
@[simp] theorem setIssued_link (x : Option Issued) : (s.setIssued x).link = s.link := rfl
@[simp] theorem setIssued_events (x : Option Issued) : (s.setIssued x).events = s.events := rfl
@[simp] theorem setIssued_inReset (x : Option Issued) : (s.setIssued x).inReset = s.inReset := rfl
@[simp] theorem setIssued_mem (x : Option Issued) : (s.setIssued x).mem = s.mem := rfl
@[simp] theorem setIssued_pending (x : Option Issued) : (s.setIssued x).pending = s.pending := rfl
@[simp] theorem setIssued_group (x : Option Issued) (h : Fin 8) : (s.setIssued x).group h = s.group h := rfl
@[simp] theorem setIssued_watch (x : Option Issued) (v : Fin 12) : (s.setIssued x).watch v = s.watch v := rfl
@[simp] theorem setIssued_slot (x : Option Issued) (j : Fin 16) : (s.setIssued x).slot j = s.slot j := rfl
@[simp] theorem setIssued_base (x : Option Issued) (c : Base) : (s.setIssued x).base c = s.base c := by cases c <;> rfl

/-! ### setNextOrder -/

@[simp] theorem setNextOrder_slots (n : Nat) : (s.setNextOrder n).upstream.slots = s.upstream.slots := rfl
@[simp] theorem setNextOrder_passQueue (n : Nat) : (s.setNextOrder n).upstream.passQueue = s.upstream.passQueue := rfl
@[simp] theorem setNextOrder_holdList (n : Nat) : (s.setNextOrder n).upstream.holdList = s.upstream.holdList := rfl
@[simp] theorem setNextOrder_nextOrder (n : Nat) : (s.setNextOrder n).upstream.nextOrder = n := rfl
@[simp] theorem setNextOrder_indication (n : Nat) : (s.setNextOrder n).upstream.indication = s.upstream.indication := rfl
@[simp] theorem setNextOrder_issued (n : Nat) : (s.setNextOrder n).upstream.issued = s.upstream.issued := rfl
@[simp] theorem setNextOrder_windows (n : Nat) : (s.setNextOrder n).windows = s.windows := rfl
@[simp] theorem setNextOrder_groups (n : Nat) : (s.setNextOrder n).groups = s.groups := rfl
@[simp] theorem setNextOrder_freeSlots (n : Nat) : (s.setNextOrder n).freeSlots = s.freeSlots := rfl
@[simp] theorem setNextOrder_baseA (n : Nat) : (s.setNextOrder n).baseA = s.baseA := rfl
@[simp] theorem setNextOrder_baseB (n : Nat) : (s.setNextOrder n).baseB = s.baseB := rfl
@[simp] theorem setNextOrder_releaseLines (n : Nat) : (s.setNextOrder n).releaseLines = s.releaseLines := rfl
@[simp] theorem setNextOrder_faultLines (n : Nat) : (s.setNextOrder n).faultLines = s.faultLines := rfl
@[simp] theorem setNextOrder_releaseQueue (n : Nat) : (s.setNextOrder n).releaseQueue = s.releaseQueue := rfl
@[simp] theorem setNextOrder_drain (n : Nat) : (s.setNextOrder n).drain = s.drain := rfl
@[simp] theorem setNextOrder_port (n : Nat) : (s.setNextOrder n).port = s.port := rfl
@[simp] theorem setNextOrder_safeTable (n : Nat) : (s.setNextOrder n).safeTable = s.safeTable := rfl
@[simp] theorem setNextOrder_watches (n : Nat) : (s.setNextOrder n).watches = s.watches := rfl
@[simp] theorem setNextOrder_link (n : Nat) : (s.setNextOrder n).link = s.link := rfl
@[simp] theorem setNextOrder_events (n : Nat) : (s.setNextOrder n).events = s.events := rfl
@[simp] theorem setNextOrder_inReset (n : Nat) : (s.setNextOrder n).inReset = s.inReset := rfl
@[simp] theorem setNextOrder_mem (n : Nat) : (s.setNextOrder n).mem = s.mem := rfl
@[simp] theorem setNextOrder_pending (n : Nat) : (s.setNextOrder n).pending = s.pending := rfl
@[simp] theorem setNextOrder_group (n : Nat) (h : Fin 8) : (s.setNextOrder n).group h = s.group h := rfl
@[simp] theorem setNextOrder_watch (n : Nat) (v : Fin 12) : (s.setNextOrder n).watch v = s.watch v := rfl
@[simp] theorem setNextOrder_slot (n : Nat) (j : Fin 16) : (s.setNextOrder n).slot j = s.slot j := rfl
@[simp] theorem setNextOrder_base (n : Nat) (c : Base) : (s.setNextOrder n).base c = s.base c := by cases c <;> rfl

/-! ### setDrain -/

@[simp] theorem setDrain_upstream (d : Drain) : (s.setDrain d).upstream = s.upstream := rfl
@[simp] theorem setDrain_windows (d : Drain) : (s.setDrain d).windows = s.windows := rfl
@[simp] theorem setDrain_groups (d : Drain) : (s.setDrain d).groups = s.groups := rfl
@[simp] theorem setDrain_freeSlots (d : Drain) : (s.setDrain d).freeSlots = s.freeSlots := rfl
@[simp] theorem setDrain_baseA (d : Drain) : (s.setDrain d).baseA = s.baseA := rfl
@[simp] theorem setDrain_baseB (d : Drain) : (s.setDrain d).baseB = s.baseB := rfl
@[simp] theorem setDrain_releaseLines (d : Drain) : (s.setDrain d).releaseLines = s.releaseLines := rfl
@[simp] theorem setDrain_faultLines (d : Drain) : (s.setDrain d).faultLines = s.faultLines := rfl
@[simp] theorem setDrain_releaseQueue (d : Drain) : (s.setDrain d).releaseQueue = s.releaseQueue := rfl
@[simp] theorem setDrain_drain (d : Drain) : (s.setDrain d).drain = d := rfl
@[simp] theorem setDrain_port (d : Drain) : (s.setDrain d).port = s.port := rfl
@[simp] theorem setDrain_safeTable (d : Drain) : (s.setDrain d).safeTable = s.safeTable := rfl
@[simp] theorem setDrain_watches (d : Drain) : (s.setDrain d).watches = s.watches := rfl
@[simp] theorem setDrain_link (d : Drain) : (s.setDrain d).link = s.link := rfl
@[simp] theorem setDrain_events (d : Drain) : (s.setDrain d).events = s.events := rfl
@[simp] theorem setDrain_inReset (d : Drain) : (s.setDrain d).inReset = s.inReset := rfl
@[simp] theorem setDrain_mem (d : Drain) : (s.setDrain d).mem = s.mem := rfl
@[simp] theorem setDrain_pending (d : Drain) : (s.setDrain d).pending = s.pending := rfl
@[simp] theorem setDrain_group (d : Drain) (h : Fin 8) : (s.setDrain d).group h = s.group h := rfl
@[simp] theorem setDrain_watch (d : Drain) (v : Fin 12) : (s.setDrain d).watch v = s.watch v := rfl
@[simp] theorem setDrain_slot (d : Drain) (j : Fin 16) : (s.setDrain d).slot j = s.slot j := rfl
@[simp] theorem setDrain_base (d : Drain) (c : Base) : (s.setDrain d).base c = s.base c := by cases c <;> rfl

/-! ### setPort -/

@[simp] theorem setPort_upstream (p : Port) : (s.setPort p).upstream = s.upstream := rfl
@[simp] theorem setPort_windows (p : Port) : (s.setPort p).windows = s.windows := rfl
@[simp] theorem setPort_groups (p : Port) : (s.setPort p).groups = s.groups := rfl
@[simp] theorem setPort_freeSlots (p : Port) : (s.setPort p).freeSlots = s.freeSlots := rfl
@[simp] theorem setPort_baseA (p : Port) : (s.setPort p).baseA = s.baseA := rfl
@[simp] theorem setPort_baseB (p : Port) : (s.setPort p).baseB = s.baseB := rfl
@[simp] theorem setPort_releaseLines (p : Port) : (s.setPort p).releaseLines = s.releaseLines := rfl
@[simp] theorem setPort_faultLines (p : Port) : (s.setPort p).faultLines = s.faultLines := rfl
@[simp] theorem setPort_releaseQueue (p : Port) : (s.setPort p).releaseQueue = s.releaseQueue := rfl
@[simp] theorem setPort_drain (p : Port) : (s.setPort p).drain = s.drain := rfl
@[simp] theorem setPort_port (p : Port) : (s.setPort p).port = p := rfl
@[simp] theorem setPort_safeTable (p : Port) : (s.setPort p).safeTable = s.safeTable := rfl
@[simp] theorem setPort_watches (p : Port) : (s.setPort p).watches = s.watches := rfl
@[simp] theorem setPort_link (p : Port) : (s.setPort p).link = s.link := rfl
@[simp] theorem setPort_events (p : Port) : (s.setPort p).events = s.events := rfl
@[simp] theorem setPort_inReset (p : Port) : (s.setPort p).inReset = s.inReset := rfl
@[simp] theorem setPort_mem (p : Port) : (s.setPort p).mem = s.mem := rfl
@[simp] theorem setPort_pending (p : Port) : (s.setPort p).pending = s.pending := rfl
@[simp] theorem setPort_group (p : Port) (h : Fin 8) : (s.setPort p).group h = s.group h := rfl
@[simp] theorem setPort_watch (p : Port) (v : Fin 12) : (s.setPort p).watch v = s.watch v := rfl
@[simp] theorem setPort_slot (p : Port) (j : Fin 16) : (s.setPort p).slot j = s.slot j := rfl
@[simp] theorem setPort_base (p : Port) (c : Base) : (s.setPort p).base c = s.base c := by cases c <;> rfl

/-! ### setLink -/

@[simp] theorem setLink_upstream (l : Link) : (s.setLink l).upstream = s.upstream := rfl
@[simp] theorem setLink_windows (l : Link) : (s.setLink l).windows = s.windows := rfl
@[simp] theorem setLink_groups (l : Link) : (s.setLink l).groups = s.groups := rfl
@[simp] theorem setLink_freeSlots (l : Link) : (s.setLink l).freeSlots = s.freeSlots := rfl
@[simp] theorem setLink_baseA (l : Link) : (s.setLink l).baseA = s.baseA := rfl
@[simp] theorem setLink_baseB (l : Link) : (s.setLink l).baseB = s.baseB := rfl
@[simp] theorem setLink_releaseLines (l : Link) : (s.setLink l).releaseLines = s.releaseLines := rfl
@[simp] theorem setLink_faultLines (l : Link) : (s.setLink l).faultLines = s.faultLines := rfl
@[simp] theorem setLink_releaseQueue (l : Link) : (s.setLink l).releaseQueue = s.releaseQueue := rfl
@[simp] theorem setLink_drain (l : Link) : (s.setLink l).drain = s.drain := rfl
@[simp] theorem setLink_port (l : Link) : (s.setLink l).port = s.port := rfl
@[simp] theorem setLink_safeTable (l : Link) : (s.setLink l).safeTable = s.safeTable := rfl
@[simp] theorem setLink_watches (l : Link) : (s.setLink l).watches = s.watches := rfl
@[simp] theorem setLink_link (l : Link) : (s.setLink l).link = l := rfl
@[simp] theorem setLink_events (l : Link) : (s.setLink l).events = s.events := rfl
@[simp] theorem setLink_inReset (l : Link) : (s.setLink l).inReset = s.inReset := rfl
@[simp] theorem setLink_mem (l : Link) : (s.setLink l).mem = s.mem := rfl
@[simp] theorem setLink_pending (l : Link) : (s.setLink l).pending = s.pending := rfl
@[simp] theorem setLink_group (l : Link) (h : Fin 8) : (s.setLink l).group h = s.group h := rfl
@[simp] theorem setLink_watch (l : Link) (v : Fin 12) : (s.setLink l).watch v = s.watch v := rfl
@[simp] theorem setLink_slot (l : Link) (j : Fin 16) : (s.setLink l).slot j = s.slot j := rfl
@[simp] theorem setLink_base (l : Link) (c : Base) : (s.setLink l).base c = s.base c := by cases c <;> rfl

/-! ### setFreeSlots -/

@[simp] theorem setFreeSlots_upstream (n : Nat) : (s.setFreeSlots n).upstream = s.upstream := rfl
@[simp] theorem setFreeSlots_windows (n : Nat) : (s.setFreeSlots n).windows = s.windows := rfl
@[simp] theorem setFreeSlots_groups (n : Nat) : (s.setFreeSlots n).groups = s.groups := rfl
@[simp] theorem setFreeSlots_freeSlots (n : Nat) : (s.setFreeSlots n).freeSlots = n := rfl
@[simp] theorem setFreeSlots_baseA (n : Nat) : (s.setFreeSlots n).baseA = s.baseA := rfl
@[simp] theorem setFreeSlots_baseB (n : Nat) : (s.setFreeSlots n).baseB = s.baseB := rfl
@[simp] theorem setFreeSlots_releaseLines (n : Nat) : (s.setFreeSlots n).releaseLines = s.releaseLines := rfl
@[simp] theorem setFreeSlots_faultLines (n : Nat) : (s.setFreeSlots n).faultLines = s.faultLines := rfl
@[simp] theorem setFreeSlots_releaseQueue (n : Nat) : (s.setFreeSlots n).releaseQueue = s.releaseQueue := rfl
@[simp] theorem setFreeSlots_drain (n : Nat) : (s.setFreeSlots n).drain = s.drain := rfl
@[simp] theorem setFreeSlots_port (n : Nat) : (s.setFreeSlots n).port = s.port := rfl
@[simp] theorem setFreeSlots_safeTable (n : Nat) : (s.setFreeSlots n).safeTable = s.safeTable := rfl
@[simp] theorem setFreeSlots_watches (n : Nat) : (s.setFreeSlots n).watches = s.watches := rfl
@[simp] theorem setFreeSlots_link (n : Nat) : (s.setFreeSlots n).link = s.link := rfl
@[simp] theorem setFreeSlots_events (n : Nat) : (s.setFreeSlots n).events = s.events := rfl
@[simp] theorem setFreeSlots_inReset (n : Nat) : (s.setFreeSlots n).inReset = s.inReset := rfl
@[simp] theorem setFreeSlots_mem (n : Nat) : (s.setFreeSlots n).mem = s.mem := rfl
@[simp] theorem setFreeSlots_pending (n : Nat) : (s.setFreeSlots n).pending = s.pending := rfl
@[simp] theorem setFreeSlots_group (n : Nat) (h : Fin 8) : (s.setFreeSlots n).group h = s.group h := rfl
@[simp] theorem setFreeSlots_watch (n : Nat) (v : Fin 12) : (s.setFreeSlots n).watch v = s.watch v := rfl
@[simp] theorem setFreeSlots_slot (n : Nat) (j : Fin 16) : (s.setFreeSlots n).slot j = s.slot j := rfl
@[simp] theorem setFreeSlots_base (n : Nat) (c : Base) : (s.setFreeSlots n).base c = s.base c := by cases c <;> rfl

/-! ### setReleaseQueue -/

@[simp] theorem setReleaseQueue_upstream (q : List Item) : (s.setReleaseQueue q).upstream = s.upstream := rfl
@[simp] theorem setReleaseQueue_windows (q : List Item) : (s.setReleaseQueue q).windows = s.windows := rfl
@[simp] theorem setReleaseQueue_groups (q : List Item) : (s.setReleaseQueue q).groups = s.groups := rfl
@[simp] theorem setReleaseQueue_freeSlots (q : List Item) : (s.setReleaseQueue q).freeSlots = s.freeSlots := rfl
@[simp] theorem setReleaseQueue_baseA (q : List Item) : (s.setReleaseQueue q).baseA = s.baseA := rfl
@[simp] theorem setReleaseQueue_baseB (q : List Item) : (s.setReleaseQueue q).baseB = s.baseB := rfl
@[simp] theorem setReleaseQueue_releaseLines (q : List Item) : (s.setReleaseQueue q).releaseLines = s.releaseLines := rfl
@[simp] theorem setReleaseQueue_faultLines (q : List Item) : (s.setReleaseQueue q).faultLines = s.faultLines := rfl
@[simp] theorem setReleaseQueue_releaseQueue (q : List Item) : (s.setReleaseQueue q).releaseQueue = q := rfl
@[simp] theorem setReleaseQueue_drain (q : List Item) : (s.setReleaseQueue q).drain = s.drain := rfl
@[simp] theorem setReleaseQueue_port (q : List Item) : (s.setReleaseQueue q).port = s.port := rfl
@[simp] theorem setReleaseQueue_safeTable (q : List Item) : (s.setReleaseQueue q).safeTable = s.safeTable := rfl
@[simp] theorem setReleaseQueue_watches (q : List Item) : (s.setReleaseQueue q).watches = s.watches := rfl
@[simp] theorem setReleaseQueue_link (q : List Item) : (s.setReleaseQueue q).link = s.link := rfl
@[simp] theorem setReleaseQueue_events (q : List Item) : (s.setReleaseQueue q).events = s.events := rfl
@[simp] theorem setReleaseQueue_inReset (q : List Item) : (s.setReleaseQueue q).inReset = s.inReset := rfl
@[simp] theorem setReleaseQueue_mem (q : List Item) : (s.setReleaseQueue q).mem = s.mem := rfl
@[simp] theorem setReleaseQueue_pending (q : List Item) : (s.setReleaseQueue q).pending = s.pending := rfl
@[simp] theorem setReleaseQueue_group (q : List Item) (h : Fin 8) : (s.setReleaseQueue q).group h = s.group h := rfl
@[simp] theorem setReleaseQueue_watch (q : List Item) (v : Fin 12) : (s.setReleaseQueue q).watch v = s.watch v := rfl
@[simp] theorem setReleaseQueue_slot (q : List Item) (j : Fin 16) : (s.setReleaseQueue q).slot j = s.slot j := rfl
@[simp] theorem setReleaseQueue_base (q : List Item) (c : Base) : (s.setReleaseQueue q).base c = s.base c := by cases c <;> rfl

/-! ### setEvents -/

@[simp] theorem setEvents_upstream (e : EventQueue) : (s.setEvents e).upstream = s.upstream := rfl
@[simp] theorem setEvents_windows (e : EventQueue) : (s.setEvents e).windows = s.windows := rfl
@[simp] theorem setEvents_groups (e : EventQueue) : (s.setEvents e).groups = s.groups := rfl
@[simp] theorem setEvents_freeSlots (e : EventQueue) : (s.setEvents e).freeSlots = s.freeSlots := rfl
@[simp] theorem setEvents_baseA (e : EventQueue) : (s.setEvents e).baseA = s.baseA := rfl
@[simp] theorem setEvents_baseB (e : EventQueue) : (s.setEvents e).baseB = s.baseB := rfl
@[simp] theorem setEvents_releaseLines (e : EventQueue) : (s.setEvents e).releaseLines = s.releaseLines := rfl
@[simp] theorem setEvents_faultLines (e : EventQueue) : (s.setEvents e).faultLines = s.faultLines := rfl
@[simp] theorem setEvents_releaseQueue (e : EventQueue) : (s.setEvents e).releaseQueue = s.releaseQueue := rfl
@[simp] theorem setEvents_drain (e : EventQueue) : (s.setEvents e).drain = s.drain := rfl
@[simp] theorem setEvents_port (e : EventQueue) : (s.setEvents e).port = s.port := rfl
@[simp] theorem setEvents_safeTable (e : EventQueue) : (s.setEvents e).safeTable = s.safeTable := rfl
@[simp] theorem setEvents_watches (e : EventQueue) : (s.setEvents e).watches = s.watches := rfl
@[simp] theorem setEvents_link (e : EventQueue) : (s.setEvents e).link = s.link := rfl
@[simp] theorem setEvents_events (e : EventQueue) : (s.setEvents e).events = e := rfl
@[simp] theorem setEvents_inReset (e : EventQueue) : (s.setEvents e).inReset = s.inReset := rfl
@[simp] theorem setEvents_mem (e : EventQueue) : (s.setEvents e).mem = s.mem := rfl
@[simp] theorem setEvents_pending (e : EventQueue) : (s.setEvents e).pending = s.pending := rfl
@[simp] theorem setEvents_group (e : EventQueue) (h : Fin 8) : (s.setEvents e).group h = s.group h := rfl
@[simp] theorem setEvents_watch (e : EventQueue) (v : Fin 12) : (s.setEvents e).watch v = s.watch v := rfl
@[simp] theorem setEvents_slot (e : EventQueue) (j : Fin 16) : (s.setEvents e).slot j = s.slot j := rfl
@[simp] theorem setEvents_base (e : EventQueue) (c : Base) : (s.setEvents e).base c = s.base c := by cases c <;> rfl

/-! ### setMem -/

@[simp] theorem setMem_upstream (m : List Host.Cell) : (s.setMem m).upstream = s.upstream := rfl
@[simp] theorem setMem_windows (m : List Host.Cell) : (s.setMem m).windows = s.windows := rfl
@[simp] theorem setMem_groups (m : List Host.Cell) : (s.setMem m).groups = s.groups := rfl
@[simp] theorem setMem_freeSlots (m : List Host.Cell) : (s.setMem m).freeSlots = s.freeSlots := rfl
@[simp] theorem setMem_baseA (m : List Host.Cell) : (s.setMem m).baseA = s.baseA := rfl
@[simp] theorem setMem_baseB (m : List Host.Cell) : (s.setMem m).baseB = s.baseB := rfl
@[simp] theorem setMem_releaseLines (m : List Host.Cell) : (s.setMem m).releaseLines = s.releaseLines := rfl
@[simp] theorem setMem_faultLines (m : List Host.Cell) : (s.setMem m).faultLines = s.faultLines := rfl
@[simp] theorem setMem_releaseQueue (m : List Host.Cell) : (s.setMem m).releaseQueue = s.releaseQueue := rfl
@[simp] theorem setMem_drain (m : List Host.Cell) : (s.setMem m).drain = s.drain := rfl
@[simp] theorem setMem_port (m : List Host.Cell) : (s.setMem m).port = s.port := rfl
@[simp] theorem setMem_safeTable (m : List Host.Cell) : (s.setMem m).safeTable = s.safeTable := rfl
@[simp] theorem setMem_watches (m : List Host.Cell) : (s.setMem m).watches = s.watches := rfl
@[simp] theorem setMem_link (m : List Host.Cell) : (s.setMem m).link = s.link := rfl
@[simp] theorem setMem_events (m : List Host.Cell) : (s.setMem m).events = s.events := rfl
@[simp] theorem setMem_inReset (m : List Host.Cell) : (s.setMem m).inReset = s.inReset := rfl
@[simp] theorem setMem_mem (m : List Host.Cell) : (s.setMem m).mem = m := rfl
@[simp] theorem setMem_pending (m : List Host.Cell) : (s.setMem m).pending = s.pending := rfl
@[simp] theorem setMem_group (m : List Host.Cell) (h : Fin 8) : (s.setMem m).group h = s.group h := rfl
@[simp] theorem setMem_watch (m : List Host.Cell) (v : Fin 12) : (s.setMem m).watch v = s.watch v := rfl
@[simp] theorem setMem_slot (m : List Host.Cell) (j : Fin 16) : (s.setMem m).slot j = s.slot j := rfl
@[simp] theorem setMem_base (m : List Host.Cell) (c : Base) : (s.setMem m).base c = s.base c := by cases c <;> rfl

/-! ### setReleaseLine -/

@[simp] theorem setReleaseLine_upstream (n : Fin 4) (x : ReleaseLine) : (s.setReleaseLine n x).upstream = s.upstream := rfl
@[simp] theorem setReleaseLine_windows (n : Fin 4) (x : ReleaseLine) : (s.setReleaseLine n x).windows = s.windows := rfl
@[simp] theorem setReleaseLine_groups (n : Fin 4) (x : ReleaseLine) : (s.setReleaseLine n x).groups = s.groups := rfl
@[simp] theorem setReleaseLine_freeSlots (n : Fin 4) (x : ReleaseLine) : (s.setReleaseLine n x).freeSlots = s.freeSlots := rfl
@[simp] theorem setReleaseLine_baseA (n : Fin 4) (x : ReleaseLine) : (s.setReleaseLine n x).baseA = s.baseA := rfl
@[simp] theorem setReleaseLine_baseB (n : Fin 4) (x : ReleaseLine) : (s.setReleaseLine n x).baseB = s.baseB := rfl
@[simp] theorem setReleaseLine_releaseLines (n : Fin 4) (x : ReleaseLine) : (s.setReleaseLine n x).releaseLines = s.releaseLines.set n x := rfl
@[simp] theorem setReleaseLine_faultLines (n : Fin 4) (x : ReleaseLine) : (s.setReleaseLine n x).faultLines = s.faultLines := rfl
@[simp] theorem setReleaseLine_releaseQueue (n : Fin 4) (x : ReleaseLine) : (s.setReleaseLine n x).releaseQueue = s.releaseQueue := rfl
@[simp] theorem setReleaseLine_drain (n : Fin 4) (x : ReleaseLine) : (s.setReleaseLine n x).drain = s.drain := rfl
@[simp] theorem setReleaseLine_port (n : Fin 4) (x : ReleaseLine) : (s.setReleaseLine n x).port = s.port := rfl
@[simp] theorem setReleaseLine_safeTable (n : Fin 4) (x : ReleaseLine) : (s.setReleaseLine n x).safeTable = s.safeTable := rfl
@[simp] theorem setReleaseLine_watches (n : Fin 4) (x : ReleaseLine) : (s.setReleaseLine n x).watches = s.watches := rfl
@[simp] theorem setReleaseLine_link (n : Fin 4) (x : ReleaseLine) : (s.setReleaseLine n x).link = s.link := rfl
@[simp] theorem setReleaseLine_events (n : Fin 4) (x : ReleaseLine) : (s.setReleaseLine n x).events = s.events := rfl
@[simp] theorem setReleaseLine_inReset (n : Fin 4) (x : ReleaseLine) : (s.setReleaseLine n x).inReset = s.inReset := rfl
@[simp] theorem setReleaseLine_mem (n : Fin 4) (x : ReleaseLine) : (s.setReleaseLine n x).mem = s.mem := rfl
@[simp] theorem setReleaseLine_pending (n : Fin 4) (x : ReleaseLine) : (s.setReleaseLine n x).pending = s.pending := rfl
@[simp] theorem setReleaseLine_group (n : Fin 4) (x : ReleaseLine) (h : Fin 8) : (s.setReleaseLine n x).group h = s.group h := rfl
@[simp] theorem setReleaseLine_watch (n : Fin 4) (x : ReleaseLine) (v : Fin 12) : (s.setReleaseLine n x).watch v = s.watch v := rfl
@[simp] theorem setReleaseLine_slot (n : Fin 4) (x : ReleaseLine) (j : Fin 16) : (s.setReleaseLine n x).slot j = s.slot j := rfl
@[simp] theorem setReleaseLine_base (n : Fin 4) (x : ReleaseLine) (c : Base) : (s.setReleaseLine n x).base c = s.base c := by cases c <;> rfl

/-! ### setFaultLine -/

@[simp] theorem setFaultLine_upstream (n : Fin 2) (x : FaultLine) : (s.setFaultLine n x).upstream = s.upstream := rfl
@[simp] theorem setFaultLine_windows (n : Fin 2) (x : FaultLine) : (s.setFaultLine n x).windows = s.windows := rfl
@[simp] theorem setFaultLine_groups (n : Fin 2) (x : FaultLine) : (s.setFaultLine n x).groups = s.groups := rfl
@[simp] theorem setFaultLine_freeSlots (n : Fin 2) (x : FaultLine) : (s.setFaultLine n x).freeSlots = s.freeSlots := rfl
@[simp] theorem setFaultLine_baseA (n : Fin 2) (x : FaultLine) : (s.setFaultLine n x).baseA = s.baseA := rfl
@[simp] theorem setFaultLine_baseB (n : Fin 2) (x : FaultLine) : (s.setFaultLine n x).baseB = s.baseB := rfl
@[simp] theorem setFaultLine_releaseLines (n : Fin 2) (x : FaultLine) : (s.setFaultLine n x).releaseLines = s.releaseLines := rfl
@[simp] theorem setFaultLine_faultLines (n : Fin 2) (x : FaultLine) : (s.setFaultLine n x).faultLines = s.faultLines.set n x := rfl
@[simp] theorem setFaultLine_releaseQueue (n : Fin 2) (x : FaultLine) : (s.setFaultLine n x).releaseQueue = s.releaseQueue := rfl
@[simp] theorem setFaultLine_drain (n : Fin 2) (x : FaultLine) : (s.setFaultLine n x).drain = s.drain := rfl
@[simp] theorem setFaultLine_port (n : Fin 2) (x : FaultLine) : (s.setFaultLine n x).port = s.port := rfl
@[simp] theorem setFaultLine_safeTable (n : Fin 2) (x : FaultLine) : (s.setFaultLine n x).safeTable = s.safeTable := rfl
@[simp] theorem setFaultLine_watches (n : Fin 2) (x : FaultLine) : (s.setFaultLine n x).watches = s.watches := rfl
@[simp] theorem setFaultLine_link (n : Fin 2) (x : FaultLine) : (s.setFaultLine n x).link = s.link := rfl
@[simp] theorem setFaultLine_events (n : Fin 2) (x : FaultLine) : (s.setFaultLine n x).events = s.events := rfl
@[simp] theorem setFaultLine_inReset (n : Fin 2) (x : FaultLine) : (s.setFaultLine n x).inReset = s.inReset := rfl
@[simp] theorem setFaultLine_mem (n : Fin 2) (x : FaultLine) : (s.setFaultLine n x).mem = s.mem := rfl
@[simp] theorem setFaultLine_pending (n : Fin 2) (x : FaultLine) : (s.setFaultLine n x).pending = s.pending := rfl
@[simp] theorem setFaultLine_group (n : Fin 2) (x : FaultLine) (h : Fin 8) : (s.setFaultLine n x).group h = s.group h := rfl
@[simp] theorem setFaultLine_watch (n : Fin 2) (x : FaultLine) (v : Fin 12) : (s.setFaultLine n x).watch v = s.watch v := rfl
@[simp] theorem setFaultLine_slot (n : Fin 2) (x : FaultLine) (j : Fin 16) : (s.setFaultLine n x).slot j = s.slot j := rfl
@[simp] theorem setFaultLine_base (n : Fin 2) (x : FaultLine) (c : Base) : (s.setFaultLine n x).base c = s.base c := by cases c <;> rfl

/-! ### setBase -/

@[simp] theorem setBase_upstream (b : Base) (x : TimeBase) : (s.setBase b x).upstream = s.upstream := by cases b <;> rfl
@[simp] theorem setBase_windows (b : Base) (x : TimeBase) : (s.setBase b x).windows = s.windows := by cases b <;> rfl
@[simp] theorem setBase_groups (b : Base) (x : TimeBase) : (s.setBase b x).groups = s.groups := by cases b <;> rfl
@[simp] theorem setBase_freeSlots (b : Base) (x : TimeBase) : (s.setBase b x).freeSlots = s.freeSlots := by cases b <;> rfl
@[simp] theorem setBase_releaseLines (b : Base) (x : TimeBase) : (s.setBase b x).releaseLines = s.releaseLines := by cases b <;> rfl
@[simp] theorem setBase_faultLines (b : Base) (x : TimeBase) : (s.setBase b x).faultLines = s.faultLines := by cases b <;> rfl
@[simp] theorem setBase_releaseQueue (b : Base) (x : TimeBase) : (s.setBase b x).releaseQueue = s.releaseQueue := by cases b <;> rfl
@[simp] theorem setBase_drain (b : Base) (x : TimeBase) : (s.setBase b x).drain = s.drain := by cases b <;> rfl
@[simp] theorem setBase_port (b : Base) (x : TimeBase) : (s.setBase b x).port = s.port := by cases b <;> rfl
@[simp] theorem setBase_safeTable (b : Base) (x : TimeBase) : (s.setBase b x).safeTable = s.safeTable := by cases b <;> rfl
@[simp] theorem setBase_watches (b : Base) (x : TimeBase) : (s.setBase b x).watches = s.watches := by cases b <;> rfl
@[simp] theorem setBase_link (b : Base) (x : TimeBase) : (s.setBase b x).link = s.link := by cases b <;> rfl
@[simp] theorem setBase_events (b : Base) (x : TimeBase) : (s.setBase b x).events = s.events := by cases b <;> rfl
@[simp] theorem setBase_inReset (b : Base) (x : TimeBase) : (s.setBase b x).inReset = s.inReset := by cases b <;> rfl
@[simp] theorem setBase_mem (b : Base) (x : TimeBase) : (s.setBase b x).mem = s.mem := by cases b <;> rfl
@[simp] theorem setBase_pending (b : Base) (x : TimeBase) : (s.setBase b x).pending = s.pending := by cases b <;> rfl
@[simp] theorem setBase_group (b : Base) (x : TimeBase) (h : Fin 8) : (s.setBase b x).group h = s.group h := by cases b <;> rfl
@[simp] theorem setBase_watch (b : Base) (x : TimeBase) (v : Fin 12) : (s.setBase b x).watch v = s.watch v := by cases b <;> rfl
@[simp] theorem setBase_slot (b : Base) (x : TimeBase) (j : Fin 16) : (s.setBase b x).slot j = s.slot j := by cases b <;> rfl

/-! ### newCycle -/

@[simp] theorem newCycle_slots : s.newCycle.upstream.slots = s.upstream.slots := rfl
@[simp] theorem newCycle_passQueue : s.newCycle.upstream.passQueue = s.upstream.passQueue := rfl
@[simp] theorem newCycle_holdList : s.newCycle.upstream.holdList = s.upstream.holdList := rfl
@[simp] theorem newCycle_nextOrder : s.newCycle.upstream.nextOrder = s.upstream.nextOrder := rfl
@[simp] theorem newCycle_indication : s.newCycle.upstream.indication = .idle := rfl
@[simp] theorem newCycle_issued : s.newCycle.upstream.issued = none := rfl
@[simp] theorem newCycle_windows : s.newCycle.windows = s.windows := rfl
@[simp] theorem newCycle_groups : s.newCycle.groups = s.groups := rfl
@[simp] theorem newCycle_freeSlots : s.newCycle.freeSlots = s.freeSlots := rfl
@[simp] theorem newCycle_baseA : s.newCycle.baseA = s.baseA := rfl
@[simp] theorem newCycle_baseB : s.newCycle.baseB = s.baseB := rfl
@[simp] theorem newCycle_releaseLines : s.newCycle.releaseLines = s.releaseLines := rfl
@[simp] theorem newCycle_faultLines : s.newCycle.faultLines = s.faultLines := rfl
@[simp] theorem newCycle_releaseQueue : s.newCycle.releaseQueue = s.releaseQueue := rfl
@[simp] theorem newCycle_drain : s.newCycle.drain = s.drain := rfl
@[simp] theorem newCycle_port : s.newCycle.port = s.port := rfl
@[simp] theorem newCycle_safeTable : s.newCycle.safeTable = s.safeTable := rfl
@[simp] theorem newCycle_watches : s.newCycle.watches = s.watches := rfl
@[simp] theorem newCycle_link : s.newCycle.link = s.link := rfl
@[simp] theorem newCycle_events : s.newCycle.events = s.events := rfl
@[simp] theorem newCycle_inReset : s.newCycle.inReset = s.inReset := rfl
@[simp] theorem newCycle_mem : s.newCycle.mem = s.mem := rfl
@[simp] theorem newCycle_pending : s.newCycle.pending = s.pending := rfl
@[simp] theorem newCycle_group (h : Fin 8) : s.newCycle.group h = s.group h := rfl
@[simp] theorem newCycle_watch (v : Fin 12) : s.newCycle.watch v = s.watch v := rfl
@[simp] theorem newCycle_slot (j : Fin 16) : s.newCycle.slot j = s.slot j := rfl
@[simp] theorem newCycle_base (c : Base) : s.newCycle.base c = s.base c := by cases c <;> rfl
@[simp] theorem newCycle_newCycle : s.newCycle.newCycle = s.newCycle := rfl

/-! ### A record written by its number, and read again -/

@[simp] theorem setGroup_group (g h : Fin 8) (x : Group) : (s.setGroup g x).group h = if g = h then x else s.group h := by
  simp only [State.setGroup, State.group, Fin.getElem_fin, Vector.getElem_set, Fin.ext_iff]

@[simp] theorem setWatch_watch (w v : Fin 12) (x : Watch) : (s.setWatch w x).watch v = if w = v then x else s.watch v := by
  simp only [State.setWatch, State.watch, Fin.getElem_fin, Vector.getElem_set, Fin.ext_iff]

@[simp] theorem setSlot_slot (i j : Fin 16) (x : Slot) : (s.setSlot i x).slot j = if i = j then x else s.slot j := by
  simp only [State.setSlot, State.slot, Fin.getElem_fin, Vector.getElem_set, Fin.ext_iff]

@[simp] theorem setBase_base (b c : Base) (x : TimeBase) : (s.setBase b x).base c = if b = c then x else s.base c := by
  cases b <;> cases c <;> rfl

theorem setBase_timeA (x : TimeBase) : s.setBase .timeA x = { s with baseA := x } := rfl

theorem setBase_timeB (x : TimeBase) : s.setBase .timeB x = { s with baseB := x } := rfl

/-- A second write of one group replaces the first. -/
@[simp] theorem setGroup_setGroup (g : Fin 8) (x y : Group) : (s.setGroup g x).setGroup g y = s.setGroup g y := by
  simp [State.setGroup]

/-- A second write of one watch replaces the first. -/
@[simp] theorem setWatch_setWatch (w : Fin 12) (x y : Watch) : (s.setWatch w x).setWatch w y = s.setWatch w y := by
  simp [State.setWatch]

/-- A second write of one slot replaces the first. -/
@[simp] theorem setSlot_setSlot (i : Fin 16) (x y : Slot) : (s.setSlot i x).setSlot i y = s.setSlot i y := by
  simp [State.setSlot]

/-- The link alone decides whether a soft reset is in progress (R166). -/
theorem softResetting_iff : s.softResetting = true ↔ s.link.pending = some .softReset := by
  unfold State.softResetting
  split <;> simp_all

/-- A state with the same link and drain engine has the same soft reset and current item. -/
theorem softResetting_congr {t : State} (h : t.link = s.link) : t.softResetting = s.softResetting := by
  simp only [State.softResetting, h]

theorem itemCurrent_congr {t : State} (h : t.drain.current = s.drain.current) (g : Fin 8) :
    t.itemCurrent g = s.itemCurrent g := by
  simp only [State.itemCurrent, h]

/-- R23, R4: a word's window and group depend on the window table alone. -/
theorem windowOf_congr {t : State} (h : t.windows = s.windows) (a : WordAddr) : t.windowOf a = s.windowOf a := by
  simp only [State.windowOf, h]

theorem wordGroup_congr {t : State} (h : t.windows = s.windows) (a : WordAddr) : t.wordGroup a = s.wordGroup a := by
  simp only [State.wordGroup, windowOf_congr s h]

end Sys2Proof.Machine
end

