-- ==== Sys2Proof/Laws/Footprint.lean ====
section
/-! SUPPORT. What the shared operations leave alone. `GroupsOnly`: an operation of the group controllers touches the group records, the
free list, the release queue and the event queue. `WatchesOnly`: one of the watch unit touches those, the watches and the service list
besides. One lemma per shared operation; a later proof takes the fields from the relation. -/

namespace Sys2Proof.Machine

/-- `t` is `s` but for the groups, the free list, the release queue and the event queue. -/
def GroupsOnly (s t : State) : Prop :=
  ∃ gs n q e, t = { s with groups := gs, freeSlots := n, releaseQueue := q, events := e }

/-- `t` is `s` but for those, the watches and the service list. -/
def WatchesOnly (s t : State) : Prop :=
  ∃ gs n q e ws l, t = { s with groups := gs, freeSlots := n, releaseQueue := q, events := e, watches := ws,
                                port := { s.port with service := l } }

namespace GroupsOnly

variable {s t u : State}

@[refl] theorem refl (s : State) : GroupsOnly s s := ⟨s.groups, s.freeSlots, s.releaseQueue, s.events, rfl⟩

theorem trans (h : GroupsOnly s t) (k : GroupsOnly t u) : GroupsOnly s u := by
  obtain ⟨_, _, _, _, rfl⟩ := h
  obtain ⟨_, _, _, _, rfl⟩ := k
  exact ⟨_, _, _, _, rfl⟩

theorem upstream (h : GroupsOnly s t) : t.upstream = s.upstream := by
  obtain ⟨_, _, _, _, rfl⟩ := h
  rfl

theorem windows (h : GroupsOnly s t) : t.windows = s.windows := by
  obtain ⟨_, _, _, _, rfl⟩ := h
  rfl

theorem baseA (h : GroupsOnly s t) : t.baseA = s.baseA := by
  obtain ⟨_, _, _, _, rfl⟩ := h
  rfl

theorem baseB (h : GroupsOnly s t) : t.baseB = s.baseB := by
  obtain ⟨_, _, _, _, rfl⟩ := h
  rfl

theorem releaseLines (h : GroupsOnly s t) : t.releaseLines = s.releaseLines := by
  obtain ⟨_, _, _, _, rfl⟩ := h
  rfl

theorem faultLines (h : GroupsOnly s t) : t.faultLines = s.faultLines := by
  obtain ⟨_, _, _, _, rfl⟩ := h
  rfl

theorem drain (h : GroupsOnly s t) : t.drain = s.drain := by
  obtain ⟨_, _, _, _, rfl⟩ := h
  rfl

theorem port (h : GroupsOnly s t) : t.port = s.port := by
  obtain ⟨_, _, _, _, rfl⟩ := h
  rfl

theorem safeTable (h : GroupsOnly s t) : t.safeTable = s.safeTable := by
  obtain ⟨_, _, _, _, rfl⟩ := h
  rfl

theorem watches (h : GroupsOnly s t) : t.watches = s.watches := by
  obtain ⟨_, _, _, _, rfl⟩ := h
  rfl

theorem link (h : GroupsOnly s t) : t.link = s.link := by
  obtain ⟨_, _, _, _, rfl⟩ := h
  rfl

theorem inReset (h : GroupsOnly s t) : t.inReset = s.inReset := by
  obtain ⟨_, _, _, _, rfl⟩ := h
  rfl

theorem mem (h : GroupsOnly s t) : t.mem = s.mem := by
  obtain ⟨_, _, _, _, rfl⟩ := h
  rfl

theorem pending (h : GroupsOnly s t) : t.pending = s.pending := by
  obtain ⟨_, _, _, _, rfl⟩ := h
  rfl

theorem watch (h : GroupsOnly s t) (w : Fin 12) : t.watch w = s.watch w := by
  obtain ⟨_, _, _, _, rfl⟩ := h
  rfl

theorem slot (h : GroupsOnly s t) (i : Fin 16) : t.slot i = s.slot i := by
  obtain ⟨_, _, _, _, rfl⟩ := h
  rfl

theorem base (h : GroupsOnly s t) (b : Base) : t.base b = s.base b := by
  obtain ⟨_, _, _, _, rfl⟩ := h
  cases b <;> rfl

theorem softResetting (h : GroupsOnly s t) : t.softResetting = s.softResetting := softResetting_congr s h.link

/-- A run over records by number keeps to the groups when each of its steps does. -/
theorem foldl {α : Type} (f : State → α → State) (hf : ∀ s a, GroupsOnly s (f s a)) (l : List α) (s : State) :
    GroupsOnly s (l.foldl f s) := by
  induction l generalizing s with
  | nil => exact refl s
  | cons a l ih => exact (hf s a).trans (ih (f s a))

theorem watchesOnly (h : GroupsOnly s t) : WatchesOnly s t := by
  obtain ⟨gs, n, q, e, rfl⟩ := h
  exact ⟨gs, n, q, e, s.watches, s.port.service, rfl⟩

end GroupsOnly

namespace WatchesOnly

variable {s t u : State}

@[refl] theorem refl (s : State) : WatchesOnly s s := (GroupsOnly.refl s).watchesOnly

theorem trans (h : WatchesOnly s t) (k : WatchesOnly t u) : WatchesOnly s u := by
  obtain ⟨_, _, _, _, _, _, rfl⟩ := h
  obtain ⟨_, _, _, _, _, _, rfl⟩ := k
  exact ⟨_, _, _, _, _, _, rfl⟩

theorem upstream (h : WatchesOnly s t) : t.upstream = s.upstream := by
  obtain ⟨_, _, _, _, _, _, rfl⟩ := h
  rfl

theorem windows (h : WatchesOnly s t) : t.windows = s.windows := by
  obtain ⟨_, _, _, _, _, _, rfl⟩ := h
  rfl

theorem baseA (h : WatchesOnly s t) : t.baseA = s.baseA := by
  obtain ⟨_, _, _, _, _, _, rfl⟩ := h
  rfl

theorem baseB (h : WatchesOnly s t) : t.baseB = s.baseB := by
  obtain ⟨_, _, _, _, _, _, rfl⟩ := h
  rfl

theorem releaseLines (h : WatchesOnly s t) : t.releaseLines = s.releaseLines := by
  obtain ⟨_, _, _, _, _, _, rfl⟩ := h
  rfl

theorem faultLines (h : WatchesOnly s t) : t.faultLines = s.faultLines := by
  obtain ⟨_, _, _, _, _, _, rfl⟩ := h
  rfl

theorem drain (h : WatchesOnly s t) : t.drain = s.drain := by
  obtain ⟨_, _, _, _, _, _, rfl⟩ := h
  rfl

theorem safeTable (h : WatchesOnly s t) : t.safeTable = s.safeTable := by
  obtain ⟨_, _, _, _, _, _, rfl⟩ := h
  rfl

theorem link (h : WatchesOnly s t) : t.link = s.link := by
  obtain ⟨_, _, _, _, _, _, rfl⟩ := h
  rfl

theorem inReset (h : WatchesOnly s t) : t.inReset = s.inReset := by
  obtain ⟨_, _, _, _, _, _, rfl⟩ := h
  rfl

theorem mem (h : WatchesOnly s t) : t.mem = s.mem := by
  obtain ⟨_, _, _, _, _, _, rfl⟩ := h
  rfl

theorem pending (h : WatchesOnly s t) : t.pending = s.pending := by
  obtain ⟨_, _, _, _, _, _, rfl⟩ := h
  rfl

theorem port (h : WatchesOnly s t) : t.port = { s.port with service := t.port.service } := by
  obtain ⟨_, _, _, _, _, _, rfl⟩ := h
  rfl

theorem slot (h : WatchesOnly s t) (i : Fin 16) : t.slot i = s.slot i := by
  obtain ⟨_, _, _, _, _, _, rfl⟩ := h
  rfl

theorem base (h : WatchesOnly s t) (b : Base) : t.base b = s.base b := by
  obtain ⟨_, _, _, _, _, _, rfl⟩ := h
  cases b <;> rfl

theorem softResetting (h : WatchesOnly s t) : t.softResetting = s.softResetting := softResetting_congr s h.link

/-- A run over records by number keeps to the watches when each of its steps does. -/
theorem foldl {α : Type} (f : State → α → State) (hf : ∀ s a, WatchesOnly s (f s a)) (l : List α) (s : State) :
    WatchesOnly s (l.foldl f s) := by
  induction l generalizing s with
  | nil => exact refl s
  | cons a l ih => exact (hf s a).trans (ih (f s a))

end WatchesOnly

/-! ### Events -/

theorem setGroup_groupsOnly (s : State) (g : Fin 8) (x : Group) : GroupsOnly s (s.setGroup g x) := ⟨_, _, _, _, rfl⟩

theorem setEvents_groupsOnly (s : State) (e : EventQueue) : GroupsOnly s (s.setEvents e) := ⟨_, _, _, _, rfl⟩

theorem setFreeSlots_groupsOnly (s : State) (n : Nat) : GroupsOnly s (s.setFreeSlots n) := ⟨_, _, _, _, rfl⟩

theorem setReleaseQueue_groupsOnly (s : State) (q : List Item) : GroupsOnly s (s.setReleaseQueue q) := ⟨_, _, _, _, rfl⟩

/-- R172, R173: storing a record touches the event queue alone. -/
theorem store_eq (s : State) (b : EventBody) : s.store b = s.setEvents (s.store b).events := by
  unfold State.store
  split <;> rfl

/-- R171: submitting a record touches the event queue alone. -/
theorem submit_eq (s : State) (b : EventBody) : s.submit b = s.setEvents (s.submit b).events := by
  unfold State.submit
  split
  · exact store_eq s b
  · rfl

theorem submit_groupsOnly (s : State) (b : EventBody) : GroupsOnly s (s.submit b) := by
  rw [submit_eq]
  exact setEvents_groupsOnly _ _

@[simp] theorem submit_upstream (s : State) (b : EventBody) : (s.submit b).upstream = s.upstream := by rw [submit_eq]; rfl

@[simp] theorem submit_windows (s : State) (b : EventBody) : (s.submit b).windows = s.windows := by rw [submit_eq]; rfl

@[simp] theorem submit_groups (s : State) (b : EventBody) : (s.submit b).groups = s.groups := by rw [submit_eq]; rfl

@[simp] theorem submit_freeSlots (s : State) (b : EventBody) : (s.submit b).freeSlots = s.freeSlots := by rw [submit_eq]; rfl

@[simp] theorem submit_baseA (s : State) (b : EventBody) : (s.submit b).baseA = s.baseA := by rw [submit_eq]; rfl

@[simp] theorem submit_baseB (s : State) (b : EventBody) : (s.submit b).baseB = s.baseB := by rw [submit_eq]; rfl

@[simp] theorem submit_releaseLines (s : State) (b : EventBody) : (s.submit b).releaseLines = s.releaseLines := by rw [submit_eq]; rfl

@[simp] theorem submit_faultLines (s : State) (b : EventBody) : (s.submit b).faultLines = s.faultLines := by rw [submit_eq]; rfl

@[simp] theorem submit_releaseQueue (s : State) (b : EventBody) : (s.submit b).releaseQueue = s.releaseQueue := by rw [submit_eq]; rfl

@[simp] theorem submit_drain (s : State) (b : EventBody) : (s.submit b).drain = s.drain := by rw [submit_eq]; rfl

@[simp] theorem submit_port (s : State) (b : EventBody) : (s.submit b).port = s.port := by rw [submit_eq]; rfl

@[simp] theorem submit_safeTable (s : State) (b : EventBody) : (s.submit b).safeTable = s.safeTable := by rw [submit_eq]; rfl

@[simp] theorem submit_watches (s : State) (b : EventBody) : (s.submit b).watches = s.watches := by rw [submit_eq]; rfl

@[simp] theorem submit_link (s : State) (b : EventBody) : (s.submit b).link = s.link := by rw [submit_eq]; rfl

@[simp] theorem submit_inReset (s : State) (b : EventBody) : (s.submit b).inReset = s.inReset := by rw [submit_eq]; rfl

@[simp] theorem submit_mem (s : State) (b : EventBody) : (s.submit b).mem = s.mem := by rw [submit_eq]; rfl

@[simp] theorem submit_pending (s : State) (b : EventBody) : (s.submit b).pending = s.pending := by rw [submit_eq]; rfl

@[simp] theorem submit_group (s : State) (b : EventBody) (g : Fin 8) : (s.submit b).group g = s.group g := by rw [submit_eq]; rfl

@[simp] theorem submit_watch (s : State) (b : EventBody) (w : Fin 12) : (s.submit b).watch w = s.watch w := by rw [submit_eq]; rfl

@[simp] theorem submit_slot (s : State) (b : EventBody) (i : Fin 16) : (s.submit b).slot i = s.slot i := by rw [submit_eq]; rfl

@[simp] theorem submit_base (s : State) (b : EventBody) (c : Base) : (s.submit b).base c = s.base c := by
  rw [submit_eq]; cases c <;> rfl

/-! ### Batches, trips and release points -/

theorem queueOther_groupsOnly (s : State) (g : Fin 8) : GroupsOnly s (s.queueOther g) := by
  unfold State.queueOther
  split
  · exact (setGroup_groupsOnly _ _ _).trans (setReleaseQueue_groupsOnly _ _)
  · exact .refl s

theorem sealOpen_groupsOnly (s : State) (g : Fin 8) (c : SealCause) : GroupsOnly s (s.sealOpen g c) := by
  unfold State.sealOpen
  dsimp only
  split
  · exact .refl s
  · split
    · split
      · exact (setGroup_groupsOnly _ _ _).trans (queueOther_groupsOnly _ _)
      · exact setGroup_groupsOnly _ _ _
    · exact (setGroup_groupsOnly _ _ _).trans (queueOther_groupsOnly _ _)

theorem sealRequest_groupsOnly (s : State) (g : Fin 8) (c : SealCause) : GroupsOnly s (s.sealRequest g c).1 := by
  unfold State.sealRequest
  dsimp only
  split
  · split
    · exact sealOpen_groupsOnly _ _ _
    · split
      · exact .refl s
      · exact setGroup_groupsOnly _ _ _
  · split <;> exact .refl s
  · exact .refl s

theorem discardBatches_groupsOnly (s : State) (g : Fin 8) : GroupsOnly s (s.discardBatches g) := ⟨_, _, _, s.events, rfl⟩

theorem stageEntry_groupsOnly (s : State) (g : Fin 8) (b : Batch) (a : WordAddr) (d : Word) (m : Mask) :
    GroupsOnly s (s.stageEntry g b a d m).1 := by
  unfold State.stageEntry
  dsimp only
  split
  · exact .refl s
  · split
    · exact setGroup_groupsOnly _ _ _
    · split
      · exact .refl s
      · split
        · exact .refl s
        · exact (setGroup_groupsOnly _ _ _).trans (setFreeSlots_groupsOnly _ _)

theorem stage_groupsOnly (s : State) (g : Fin 8) (a : WordAddr) (d : Word) (m : Mask) (w : Bool) :
    GroupsOnly s (s.stage g a d m w).1 := by
  unfold State.stage
  split
  · exact .refl s
  · rename_i b _
    have h := stageEntry_groupsOnly s g b a d m
    split
    · rename_i e; rw [e] at h; exact h
    · rename_i e
      rw [e] at h
      split
      · exact h.trans (sealRequest_groupsOnly _ _ _)
      · exact h

theorem tripSource_groupsOnly (s : State) (g : Fin 8) (x : TripSource) : GroupsOnly s (s.tripSource g x) := by
  have h1 : GroupsOnly s (s.firstTrip g x) :=
    (discardBatches_groupsOnly s g).trans (GroupsOnly.trans ⟨_, _, _, _, rfl⟩ (submit_groupsOnly _ _))
  have h2 : GroupsOnly s (s.secondFault g x) := setGroup_groupsOnly _ _ _
  unfold State.tripSource
  split
  · exact .refl s
  · split <;> first | exact .refl s | exact h1 | exact h2

theorem clearGroup_groupsOnly (s : State) (g : Fin 8) (c : ClearCause) (f : Bool) : GroupsOnly s (s.clearGroup g c f) :=
  (setGroup_groupsOnly _ _ _).trans (submit_groupsOnly _ _)

theorem lineBecomesActive_groupsOnly (s : State) (n : Fin 2) : GroupsOnly s (s.lineBecomesActive n) := by
  refine .foldl _ (fun s g => ?_) _ _
  split
  · exact tripSource_groupsOnly _ _ _
  · exact .refl s

theorem reportRefusal_groupsOnly (s : State) (g : Fin 8) (c : RefusalCause) (i : BitVec 2) :
    GroupsOnly s (s.reportRefusal g c i) := by
  unfold State.reportRefusal
  dsimp only
  split
  · exact setGroup_groupsOnly _ _ _
  · exact (setGroup_groupsOnly _ _ _).trans (submit_groupsOnly _ _)

theorem miss_groupsOnly (s : State) (g : Fin 8) : GroupsOnly s (s.miss g).1 := by
  unfold State.miss
  dsimp only
  split
  · exact (setGroup_groupsOnly _ _ _).trans ((submit_groupsOnly _ _).trans (tripSource_groupsOnly _ _ _))
  · exact (setGroup_groupsOnly _ _ _).trans (submit_groupsOnly _ _)

theorem overrun_groupsOnly (s : State) (g : Fin 8) (b : Batch) : GroupsOnly s (s.overrun g b).1 :=
  (setGroup_groupsOnly _ _ _).trans (submit_groupsOnly _ _)

theorem queueSealed_groupsOnly (s : State) (g : Fin 8) (b : Batch) : GroupsOnly s (s.queueSealed g b).1 :=
  (setGroup_groupsOnly _ _ _).trans (queueOther_groupsOnly _ _)

theorem releasePoint_groupsOnly (s : State) (g : Fin 8) : GroupsOnly s (s.releasePoint g).1 := by
  unfold State.releasePoint
  split
  · exact .refl s
  · split
    · split
      · exact miss_groupsOnly _ _
      · split
        · exact queueSealed_groupsOnly _ _ _
        · exact overrun_groupsOnly _ _ _
    · split
      · exact clearGroup_groupsOnly _ _ _ _
      · exact .refl s
    · exact .refl s
    · exact .refl s
    · exact .refl s

theorem candidate_groupsOnly (s : State) (g : Fin 8) : GroupsOnly s (s.candidate g) := by
  unfold State.candidate
  dsimp only
  split
  · exact .refl s
  · exact .refl s
  · exact .refl s
  · split
    · exact (setGroup_groupsOnly _ _ _).trans (releasePoint_groupsOnly _ _)
    · exact setGroup_groupsOnly _ _ _
  · split
    · exact (setGroup_groupsOnly _ _ _).trans (releasePoint_groupsOnly _ _)
    · exact setGroup_groupsOnly _ _ _

theorem phaseMatches_groupsOnly (s : State) (b : Base) : GroupsOnly s (s.phaseMatches b) := by
  refine .foldl _ (fun s g => ?_) _ _
  split
  · exact candidate_groupsOnly _ _
  · exact .refl s

theorem lineCandidates_groupsOnly (s : State) (n : Fin 4) : GroupsOnly s (s.lineCandidates n) := by
  refine .foldl _ (fun s g => ?_) _ _
  split
  · exact candidate_groupsOnly _ _
  · exact .refl s

/-- R108: a change of a fault line's record touches that line and the groups. -/
theorem changeFaultLine_groupsOnly (s : State) (n : Fin 2) (l : FaultLine) :
    GroupsOnly (s.setFaultLine n l) (s.changeFaultLine n l) := by
  unfold State.changeFaultLine
  dsimp only
  split
  · exact lineBecomesActive_groupsOnly _ _
  · exact .refl _

theorem followUp_groupsOnly (s : State) (g : Fin 8) : GroupsOnly s (s.followUp g) := by
  unfold State.followUp
  dsimp only
  split
  · exact setGroup_groupsOnly _ _ _
  · split
    · exact (setGroup_groupsOnly _ _ _).trans (sealOpen_groupsOnly _ _ _)
    · split
      · exact (setGroup_groupsOnly _ _ _).trans (submit_groupsOnly _ _)
      · exact .refl s

/-! ### The watch unit -/

theorem setWatch_watchesOnly (s : State) (w : Fin 12) (x : Watch) : WatchesOnly s (s.setWatch w x) :=
  ⟨s.groups, s.freeSlots, s.releaseQueue, s.events, _, s.port.service, rfl⟩

theorem raiseProbe_watchesOnly (s : State) (w : Fin 12) : WatchesOnly s (s.raiseProbe w) :=
  ⟨s.groups, s.freeSlots, s.releaseQueue, s.events, s.watches, _, rfl⟩

theorem withdrawProbe_watchesOnly (s : State) (w : Fin 12) : WatchesOnly s (s.withdrawProbe w) :=
  ⟨s.groups, s.freeSlots, s.releaseQueue, s.events, s.watches, _, rfl⟩

/-- R141: a mismatch report touches the event queue and, for a TRIP watch, its trip group. -/
theorem reportMismatch_groupsOnly (s : State) (w : Fin 12) (c : MismatchCause) : GroupsOnly s (s.reportMismatch w c) := by
  unfold State.reportMismatch
  dsimp only
  split
  · exact (submit_groupsOnly _ _).trans (tripSource_groupsOnly _ _ _)
  · exact submit_groupsOnly _ _

theorem toMismatch_watchesOnly (s : State) (w : Fin 12) : WatchesOnly s (s.toMismatch w) := by
  unfold State.toMismatch
  dsimp only
  split
  · exact (setWatch_watchesOnly _ _ _).trans (reportMismatch_groupsOnly _ _ _).watchesOnly
  · exact setWatch_watchesOnly _ _ _

theorem toMatch_watchesOnly (s : State) (w : Fin 12) : WatchesOnly s (s.toMatch w) := by
  unfold State.toMatch
  dsimp only
  split
  · exact setWatch_watchesOnly _ _ _
  · split
    · exact (setWatch_watchesOnly _ _ _).trans (submit_groupsOnly _ _).watchesOnly
    · exact setWatch_watchesOnly _ _ _

theorem settleReport_watchesOnly (s : State) (w : Fin 12) : WatchesOnly s (s.settleReport w) :=
  (setWatch_watchesOnly _ _ _).trans (reportMismatch_groupsOnly _ _ _).watchesOnly

theorem transition_watchesOnly (s : State) (w : Fin 12) (f h : Found) : WatchesOnly s (s.transition w f h) := by
  cases f <;> cases h
  · exact .refl s
  · exact toMismatch_watchesOnly s w
  · exact toMatch_watchesOnly s w
  · exact .refl s

theorem landedAt_watchesOnly (a : WordAddr) (d : Word) (m : Mask) (e : Bool) (s : State) (w : Fin 12) :
    WatchesOnly s (State.landedAt a d m e s w) := by
  unfold State.landedAt
  split
  · split
    · split
      · exact (setWatch_watchesOnly _ _ _).trans (raiseProbe_watchesOnly _ _)
      · exact (setWatch_watchesOnly _ _ _).trans (transition_watchesOnly _ _ _ _)
    · exact .refl s
  · exact .refl s
  · exact .refl s

/-- R83, R140: one event at every watch keeps to the watches when each of its steps does. -/
theorem eachWatch_watchesOnly (f : State → Fin 12 → State) (hf : ∀ s w, WatchesOnly s (f s w)) (s : State) :
    WatchesOnly s (s.eachWatch f) :=
  (WatchesOnly.foldl f hf _ s).trans (setReleaseQueue_groupsOnly _ _).watchesOnly

theorem landedWrite_watchesOnly (s : State) (a : WordAddr) (d : Word) (m : Mask) (e : Bool) :
    WatchesOnly s (s.landedWrite a d m e) := eachWatch_watchesOnly _ (landedAt_watchesOnly a d m e) s

theorem probeResult_watchesOnly (s : State) (w : Fin 12) (e : Bool) (word : Word) : WatchesOnly s (s.probeResult w e word) := by
  have ha : WatchesOnly s (s.armed w word) := (setWatch_watchesOnly _ _ _).trans (submit_groupsOnly _ _).watchesOnly
  have hf : ∀ r, WatchesOnly s (s.armFailed w r) := fun r =>
    (setWatch_watchesOnly _ _ _).trans (submit_groupsOnly _ _).watchesOnly
  have hr : ∀ p, WatchesOnly s (s.reArmed w word p) := fun p => by
    have h0 : ∀ x b, WatchesOnly s ((s.setWatch w x).submit b) := fun x b =>
      (setWatch_watchesOnly _ _ _).trans (submit_groupsOnly _ _).watchesOnly
    unfold State.reArmed
    dsimp only
    split
    · split
      · exact (h0 _ _).trans (settleReport_watchesOnly _ _)
      · exact h0 _ _
    · exact h0 _ _
    · exact (h0 _ _).trans (transition_watchesOnly _ _ _ _)
    · exact (h0 _ _).trans (transition_watchesOnly _ _ _ _)
  unfold State.probeResult
  dsimp only
  split
  · split
    · exact hf _
    · exact ha
  · split
    · exact hf _
    · exact hr _
  · exact setWatch_watchesOnly _ _ _
  · exact setWatch_watchesOnly _ _ _
  · exact setWatch_watchesOnly _ _ _
  · exact .refl s
  · exact .refl s

theorem openWindows_watchesOnly (s : State) (g : Fin 8) : WatchesOnly s (s.openWindows g) :=
  .foldl _ (fun _ _ => setWatch_watchesOnly _ _ _) _ _

theorem settleMarkAt_watchesOnly (s : State) (w : Fin 12) : WatchesOnly s (s.settleMarkAt w) := by
  unfold State.settleMarkAt State.windowEnd
  dsimp only
  split
  · split
    · exact (setWatch_watchesOnly _ _ _).trans (settleReport_watchesOnly _ _)
    · exact setWatch_watchesOnly _ _ _
  · exact setWatch_watchesOnly _ _ _

theorem settleMarks_watchesOnly (s : State) (b : Base) : WatchesOnly s (s.settleMarks b) := by
  refine eachWatch_watchesOnly _ (fun s w => ?_) s
  split
  · exact settleMarkAt_watchesOnly _ _
  · exact .refl s

theorem armWatch_watchesOnly (s : State) (w : Fin 12) : WatchesOnly s (s.armWatch w) :=
  (setWatch_watchesOnly _ _ _).trans (raiseProbe_watchesOnly _ _)

theorem disarmWatch_watchesOnly (s : State) (w : Fin 12) : WatchesOnly s (s.disarmWatch w) := by
  unfold State.disarmWatch
  dsimp only
  split
  · exact (setWatch_watchesOnly _ _ _).trans (withdrawProbe_watchesOnly _ _)
  · exact setWatch_watchesOnly _ _ _

theorem setReference_watchesOnly (s : State) (w : Fin 12) (r k : Word) : WatchesOnly s (s.setReference w r k) := by
  unfold State.setReference
  dsimp only
  split
  · split
    · exact (setWatch_watchesOnly _ _ _).trans ((setWatch_watchesOnly _ _ _).trans (reportMismatch_groupsOnly _ _ _).watchesOnly)
    · exact setWatch_watchesOnly _ _ _
  · split
    · exact (setWatch_watchesOnly _ _ _).trans (toMatch_watchesOnly _ _)
    · exact setWatch_watchesOnly _ _ _
  · exact setWatch_watchesOnly _ _ _
  · exact setWatch_watchesOnly _ _ _

/-! ### Time bases -/

/-- R67, R75, R145: a period mark touches its base, the groups and the watches. -/
theorem ownMark_watchesOnly (s : State) (b : Base) : WatchesOnly (s.setBase b (s.base b).marked) (s.ownMark b) :=
  (phaseMatches_groupsOnly _ _).watchesOnly.trans (settleMarks_watchesOnly _ _)

/-! ### The drain engine -/

/-- A safe job's completion touches its group, the event queue and the engine. -/
theorem completeSafe_groupsOnly (s : State) (g : Fin 8) :
    GroupsOnly (s.setDrain { s.drain with progress := .ending }) (s.completeSafe g) := by
  unfold State.completeSafe
  dsimp only
  rw [submit_eq]
  exact ⟨_, _, _, _, rfl⟩

/-- A retirement touches the groups, the watches and the engine's progress. -/
theorem retire_watchesOnly (s : State) (g : Fin 8) (b : Batch) :
    WatchesOnly (s.setDrain { s.drain with progress := .ending }) (s.retire g b) := by
  have h : ∀ u, WatchesOnly s u →
      WatchesOnly (s.setDrain { s.drain with progress := .ending }) (u.setDrain { u.drain with progress := .ending }) := by
    rintro u ⟨gs, n, q, e, ws, l, rfl⟩
    exact ⟨gs, n, q, e, ws, l, rfl⟩
  unfold State.retire
  dsimp only
  have h1 : ∀ x y : Group, ∀ e, WatchesOnly s
      ((((((s.setGroup g x).submit e).setGroup g y).followUp g).openWindows g)) := fun x y e =>
    ((setGroup_groupsOnly _ _ _).trans ((submit_groupsOnly _ _).trans
      ((setGroup_groupsOnly _ _ _).trans (followUp_groupsOnly _ _)))).watchesOnly.trans (openWindows_watchesOnly _ _)
  split
  · exact (h _ (h1 _ _ _)).trans (tripSource_groupsOnly _ _ _).watchesOnly
  · exact h _ (h1 _ _ _)

end Sys2Proof.Machine
end

