-- ==== Sys2Proof/Laws/Memory.lean ====
section
/-! SUPPORT. The SRAM's known contents: lanes and words, read after write and after forgetting, and that every operation over the
list keeps its canonical form. -/

namespace Sys2Proof.Machine

/-! ### Lanes -/

@[simp] theorem lane_joinLanes_0 (l0 l1 l2 l3 : Byte) : lane (joinLanes l0 l1 l2 l3) 0 = l0 := by
  apply BitVec.eq_of_getLsbD_eq; intro i hi
  simp only [lane, joinLanes, BitVec.getLsbD_append, BitVec.getLsbD_extractLsb']
  simp [hi]

@[simp] theorem lane_joinLanes_1 (l0 l1 l2 l3 : Byte) : lane (joinLanes l0 l1 l2 l3) 1 = l1 := by
  apply BitVec.eq_of_getLsbD_eq; intro i hi
  simp only [lane, joinLanes, BitVec.getLsbD_append, BitVec.getLsbD_extractLsb']
  have h0 : ¬ (8 + i < 8) := by omega
  have h : 8 + i - 8 = i := by omega
  simp [hi, h, h0]

@[simp] theorem lane_joinLanes_2 (l0 l1 l2 l3 : Byte) : lane (joinLanes l0 l1 l2 l3) 2 = l2 := by
  apply BitVec.eq_of_getLsbD_eq; intro i hi
  simp only [lane, joinLanes, BitVec.getLsbD_append, BitVec.getLsbD_extractLsb']
  have h0 : ¬ (16 + i < 8) := by omega
  have h1 : ¬ (16 + i - 8 < 8) := by omega
  have h : 16 + i - 8 - 8 = i := by omega
  simp [hi, h, h0, h1]

@[simp] theorem lane_joinLanes_3 (l0 l1 l2 l3 : Byte) : lane (joinLanes l0 l1 l2 l3) 3 = l3 := by
  apply BitVec.eq_of_getLsbD_eq; intro i hi
  simp only [lane, joinLanes, BitVec.getLsbD_append, BitVec.getLsbD_extractLsb']
  have h0 : ¬ (24 + i < 8) := by omega
  have h1 : ¬ (24 + i - 8 < 8) := by omega
  have h2 : ¬ (24 + i - 8 - 8 < 8) := by omega
  have h : 24 + i - 8 - 8 - 8 = i := by omega
  simp [hi, h, h0, h1, h2]

/-- A word is its four lanes. -/
theorem joinLanes_lane (w : Word) : joinLanes (lane w 0) (lane w 1) (lane w 2) (lane w 3) = w := by
  apply BitVec.eq_of_getLsbD_eq; intro i hi
  simp only [lane, joinLanes, BitVec.getLsbD_append, BitVec.getLsbD_extractLsb']
  by_cases h1 : i < 8
  · simp [h1]
  · by_cases h2 : i - 8 < 8
    · have : 8 + (i - 8) = i := by omega
      simp [h1, h2, this]
    · by_cases h3 : i - 8 - 8 < 8
      · have : 16 + (i - 8 - 8) = i := by omega
        simp [h1, h2, h3, this]
      · have h4 : i - 8 - 8 - 8 < 8 := by omega
        have : 24 + (i - 8 - 8 - 8) = i := by omega
        simp [h1, h2, h3, h4, this]

/-- Two words with the same lanes are equal. -/
theorem word_ext {v w : Word} (h : ∀ i, i < 4 → lane v i = lane w i) : v = w := by
  rw [← joinLanes_lane v, ← joinLanes_lane w, h 0 (by omega), h 1 (by omega), h 2 (by omega), h 3 (by omega)]

/-- R49, R137: the lanes of a merged word. -/
theorem lane_mergeLanes (mask : Mask) (old new : Word) (i : Nat) (h : i < 4) :
    lane (mergeLanes mask old new) i = if mask.getLsbD i then lane new i else lane old i := by
  rcases (by omega : i = 0 ∨ i = 1 ∨ i = 2 ∨ i = 3) with rfl | rfl | rfl | rfl <;> simp [mergeLanes, pickLane]

/-- With no lane enabled the word stays. -/
@[simp] theorem mergeLanes_none (old new : Word) : mergeLanes 0#4 old new = old :=
  word_ext (fun i h => by rw [lane_mergeLanes _ _ _ i h]; simp)

/-- With every lane enabled the word is the new one. -/
@[simp] theorem mergeLanes_all (old new : Word) : mergeLanes 0xF#4 old new = new :=
  word_ext (fun i h => by
    rw [lane_mergeLanes _ _ _ i h]
    rcases (by omega : i = 0 ∨ i = 1 ∨ i = 2 ∨ i = 3) with rfl | rfl | rfl | rfl <;> simp)

/-! ### One byte -/

/-- A byte read after a byte is listed. -/
@[simp] theorem readByte_writeByte (m : List Host.Cell) (a b : Nat) (v : Byte) :
    readByte (writeByte m a v) b = if a = b then some v else readByte m b := by
  induction m with
  | nil => simp [writeByte, readByte]
  | cons c rest ih =>
    obtain ⟨k, w⟩ := c
    simp only [writeByte]
    split
    · simp [readByte]
    · split
      · rename_i h
        subst h
        simp only [readByte]
        split <;> simp_all
      · simp only [readByte, ih]
        split <;> split <;> simp_all

/-- A byte read after a byte is forgotten. -/
@[simp] theorem readByte_forgetByte (m : List Host.Cell) (a b : Nat) :
    readByte (forgetByte m a) b = if a = b then none else readByte m b := by
  induction m with
  | nil => simp [forgetByte, readByte]
  | cons c rest ih =>
    obtain ⟨k, w⟩ := c
    simp only [forgetByte, List.filter_cons] at ih ⊢
    by_cases h : k = a
    · subst h
      simp only [bne_self_eq_false, Bool.false_eq_true, if_false, ih, readByte]
      split <;> simp_all
    · simp only [bne_iff_ne, ne_eq, h, not_false_eq_true, if_true, readByte, ih]
      split <;> split <;> simp_all

/-- The canonical form of a list with at least one byte: the first lies inside the SRAM, the rest rise strictly above it. -/
theorem memoryWf_cons (c : Host.Cell) (rest : List Host.Cell) :
    memoryWf (c :: rest) = true ↔ c.1 < memBytes ∧ memoryWf rest = true ∧ ∀ d ∈ rest.head?, c.1 < d.1 := by
  cases rest with
  | nil => simp [memoryWf]
  | cons d rest =>
    simp only [memoryWf, Bool.and_eq_true, decide_eq_true_eq, List.head?_cons, Option.mem_some_iff, forall_eq']
    constructor
    · rintro ⟨h, hr⟩
      refine ⟨?_, hr, h⟩
      have : d.1 < memBytes := by
        clear h
        induction rest generalizing d with
        | nil => simpa [memoryWf] using hr
        | cons e rest ih =>
          simp only [memoryWf, Bool.and_eq_true, decide_eq_true_eq] at hr
          exact Nat.lt_trans hr.1 (ih e hr.2)
      omega
    · rintro ⟨-, hr, h⟩
      exact ⟨h, hr⟩

/-- The canonical form, said at once: strictly rising addresses, all inside the SRAM. -/
theorem memoryWf_iff (m : List Host.Cell) :
    memoryWf m = true ↔ m.Pairwise (fun c d => c.1 < d.1) ∧ ∀ c ∈ m, c.1 < memBytes := by
  induction m with
  | nil => simp [memoryWf]
  | cons c rest ih =>
    rw [memoryWf_cons, ih]
    constructor
    · rintro ⟨hc, ⟨hp, hb⟩, hh⟩
      refine ⟨List.pairwise_cons.2 ⟨fun d hd => ?_, hp⟩, fun d hd => ?_⟩
      · cases rest with
        | nil => simp at hd
        | cons e rest =>
          have he : c.1 < e.1 := hh e (by simp)
          rcases List.mem_cons.1 hd with rfl | hd
          · exact he
          · exact Nat.lt_trans he ((List.pairwise_cons.1 hp).1 d hd)
      · rcases List.mem_cons.1 hd with rfl | hd
        · exact hc
        · exact hb d hd
    · rintro ⟨hp, hb⟩
      obtain ⟨h1, h2⟩ := List.pairwise_cons.1 hp
      refine ⟨hb c (by simp), ⟨h2, fun d hd => hb d (by simp [hd])⟩, fun d hd => h1 d ?_⟩
      exact List.mem_of_mem_head? hd

theorem mem_writeByte (m : List Host.Cell) (a : Nat) (v : Byte) (c : Host.Cell) (h : c ∈ writeByte m a v) :
    c = (a, v) ∨ c ∈ m := by
  induction m with
  | nil => simpa [writeByte] using h
  | cons d rest ih =>
    obtain ⟨k, w⟩ := d
    simp only [writeByte] at h
    split at h
    · simpa using h
    · split at h
      · rcases List.mem_cons.1 h with h | h <;> simp [h]
      · rcases List.mem_cons.1 h with h | h
        · simp [h]
        · rcases ih h with h | h <;> simp [h]

/-- Listing a byte of the SRAM keeps the canonical form. -/
theorem memoryWf_writeByte (m : List Host.Cell) (a : Nat) (v : Byte) (ha : a < memBytes) (h : memoryWf m = true) :
    memoryWf (writeByte m a v) = true := by
  rw [memoryWf_iff] at h ⊢
  refine ⟨?_, fun c hc => ?_⟩
  · obtain ⟨hp, -⟩ := h
    induction m with
    | nil => simp [writeByte]
    | cons d rest ih =>
      obtain ⟨k, w⟩ := d
      obtain ⟨h1, h2⟩ := List.pairwise_cons.1 hp
      simp only [writeByte]
      split
      · rename_i hlt
        refine List.pairwise_cons.2 ⟨fun c hc => ?_, hp⟩
        rcases List.mem_cons.1 hc with rfl | hc
        · exact hlt
        · exact Nat.lt_trans hlt (h1 c hc)
      · split
        · rename_i he
          subst he
          exact List.pairwise_cons.2 ⟨h1, h2⟩
        · refine List.pairwise_cons.2 ⟨fun c hc => ?_, ih h2⟩
          rcases mem_writeByte _ _ _ _ hc with rfl | hc
          · simp only; omega
          · exact h1 c hc
  · rcases mem_writeByte _ _ _ _ hc with rfl | hc
    · exact ha
    · exact h.2 c hc

/-- Forgetting a byte keeps the canonical form. -/
theorem memoryWf_forgetByte (m : List Host.Cell) (a : Nat) (h : memoryWf m = true) : memoryWf (forgetByte m a) = true := by
  rw [memoryWf_iff] at h ⊢
  exact ⟨h.1.filter _, fun c hc => h.2 c (List.mem_of_mem_filter hc)⟩

/-! ### One word -/

theorem byteAddr_lt (a : WordAddr) (i : Nat) (h : i < 4) : byteAddr a i < memBytes := by
  have := a.isLt
  simp only [byteAddr, memBytes]
  omega

/-- The byte addresses of two lanes are equal just when word and lane are. -/
theorem byteAddr_inj (a b : WordAddr) (i j : Nat) (hi : i < 4) (hj : j < 4) : byteAddr a i = byteAddr b j ↔ a = b ∧ i = j := by
  simp only [byteAddr]
  constructor
  · intro h
    refine ⟨BitVec.eq_of_toNat_eq ?_, ?_⟩ <;> omega
  · rintro ⟨rfl, rfl⟩
    rfl

theorem memoryWf_writeLane (mask : Mask) (d : Word) (a : WordAddr) (m : List Host.Cell) (i : Nat) (hi : i < 4)
    (h : memoryWf m = true) : memoryWf (writeLane mask d a m i) = true := by
  unfold writeLane
  split
  · exact memoryWf_writeByte _ _ _ (byteAddr_lt a i hi) h
  · exact h

/-- A masked write of a word keeps the canonical form. -/
theorem memoryWf_writeWord (m : List Host.Cell) (a : WordAddr) (d : Word) (mask : Mask) (h : memoryWf m = true) :
    memoryWf (writeWord m a d mask) = true := by
  unfold writeWord
  exact memoryWf_writeLane _ _ _ _ _ (by omega) (memoryWf_writeLane _ _ _ _ _ (by omega)
    (memoryWf_writeLane _ _ _ _ _ (by omega) (memoryWf_writeLane _ _ _ _ _ (by omega) h)))

/-- Forgetting a word keeps the canonical form. -/
theorem memoryWf_forgetWord (m : List Host.Cell) (a : WordAddr) (h : memoryWf m = true) : memoryWf (forgetWord m a) = true := by
  unfold forgetWord
  exact memoryWf_forgetByte _ _ (memoryWf_forgetByte _ _ (memoryWf_forgetByte _ _ (memoryWf_forgetByte _ _ h)))

/-- What a transaction's answer makes of the contents keeps the canonical form (R100). -/
theorem memoryWf_memoryAfter (m : List Host.Cell) (t : Transaction) (e : Bool) (rd : Word) (h : memoryWf m = true) :
    memoryWf (memoryAfter m t e rd) = true := by
  unfold memoryAfter
  split
  · exact memoryWf_writeWord _ _ _ _ h
  · exact h
  · exact memoryWf_writeWord _ _ _ _ h
  · exact memoryWf_forgetWord _ _ h

/-- The reset's contents have the canonical form. -/
theorem memoryWf_reset : memoryWf State.reset.mem = true := rfl

theorem readByte_writeLane (mask : Mask) (d : Word) (a : WordAddr) (m : List Host.Cell) (i b : Nat) :
    readByte (writeLane mask d a m i) b = if mask.getLsbD i ∧ byteAddr a i = b then some (lane d i) else readByte m b := by
  unfold writeLane
  split <;> simp_all

/-- A byte after a masked write of a word: the write's lane where it is enabled, else as before. -/
theorem readByte_writeWord (m : List Host.Cell) (a : WordAddr) (d : Word) (mask : Mask) (b : Nat) :
    readByte (writeWord m a d mask) b =
      if b / 4 = a.toNat ∧ mask.getLsbD (b % 4) then some (lane d (b % 4)) else readByte m b := by
  simp only [writeWord, readByte_writeLane, byteAddr]
  by_cases hb : b / 4 = a.toNat
  · rcases (by omega : b % 4 = 0 ∨ b % 4 = 1 ∨ b % 4 = 2 ∨ b % 4 = 3) with h | h | h | h
    · have e : b = 4 * a.toNat + 0 := by omega
      subst e
      simp_all
    · have e : b = 4 * a.toNat + 1 := by omega
      subst e
      simp_all
    · have e : b = 4 * a.toNat + 2 := by omega
      subst e
      simp_all
    · have e : b = 4 * a.toNat + 3 := by omega
      subst e
      simp_all
  · have h0 : ¬ 4 * a.toNat + 0 = b := by omega
    have h1 : ¬ 4 * a.toNat + 1 = b := by omega
    have h2 : ¬ 4 * a.toNat + 2 = b := by omega
    have h3 : ¬ 4 * a.toNat + 3 = b := by omega
    simp only [hb, h0, h1, h2, h3, and_false, false_and, if_false]

/-- A byte after a word is forgotten. -/
theorem readByte_forgetWord (m : List Host.Cell) (a : WordAddr) (b : Nat) :
    readByte (forgetWord m a) b = if b / 4 = a.toNat then none else readByte m b := by
  simp only [forgetWord, readByte_forgetByte, byteAddr]
  by_cases hb : b / 4 = a.toNat
  · have : 4 * a.toNat + 0 = b ∨ 4 * a.toNat + 1 = b ∨ 4 * a.toNat + 2 = b ∨ 4 * a.toNat + 3 = b := by omega
    rcases this with h | h | h | h <;> simp [h, hb]
  · have h0 : ¬ 4 * a.toNat + 0 = b := by omega
    have h1 : ¬ 4 * a.toNat + 1 = b := by omega
    have h2 : ¬ 4 * a.toNat + 2 = b := by omega
    have h3 : ¬ 4 * a.toNat + 3 = b := by omega
    simp only [hb, h0, h1, h2, h3, if_false]

/-- A word is known just when its four lanes are. -/
theorem knownWord_eq_some (m : List Host.Cell) (a : WordAddr) (w : Word) :
    knownWord m a = some w ↔ ∀ i, i < 4 → readByte m (byteAddr a i) = some (lane w i) := by
  unfold knownWord
  constructor
  · intro h
    split at h
    · rename_i l0 l1 l2 l3 h0 h1 h2 h3
      obtain rfl := Option.some.inj h
      intro i hi
      rcases (by omega : i = 0 ∨ i = 1 ∨ i = 2 ∨ i = 3) with rfl | rfl | rfl | rfl <;> simp_all
    · simp at h
  · intro h
    rw [h 0 (by omega), h 1 (by omega), h 2 (by omega), h 3 (by omega)]
    simp only [joinLanes_lane]

/-- The lanes of the word a read answers. -/
theorem lane_readWord (m : List Host.Cell) (a : WordAddr) (rd : Word) (i : Nat) (h : i < 4) :
    lane (readWord m a rd) i = (readByte m (byteAddr a i)).getD (lane rd i) := by
  rcases (by omega : i = 0 ∨ i = 1 ∨ i = 2 ∨ i = 3) with rfl | rfl | rfl | rfl <;> simp [readWord, answerLane]

/-- A known word is what a read of it answers. -/
theorem readWord_of_known (m : List Host.Cell) (a : WordAddr) (w rd : Word) (h : knownWord m a = some w) : readWord m a rd = w :=
  word_ext (fun i hi => by rw [lane_readWord _ _ _ i hi, (knownWord_eq_some m a w).1 h i hi]; rfl)

/-- R100: a masked write over a known word leaves it known, with the enabled lanes merged in (R137). -/
theorem knownWord_writeWord (m : List Host.Cell) (a : WordAddr) (w d : Word) (mask : Mask) (h : knownWord m a = some w) :
    knownWord (writeWord m a d mask) a = some (mergeLanes mask w d) := by
  rw [knownWord_eq_some] at h ⊢
  intro i hi
  have h4 : byteAddr a i / 4 = a.toNat := by simp only [byteAddr]; omega
  have h5 : byteAddr a i % 4 = i := by simp only [byteAddr]; omega
  rw [readByte_writeWord, h4, h5, lane_mergeLanes _ _ _ i hi, h i hi]
  split <;> simp_all

/-- Writes and forgetting at another word leave a known word as it is. -/
theorem knownWord_writeWord_ne (m : List Host.Cell) (a b : WordAddr) (d : Word) (mask : Mask) (hab : a ≠ b) :
    knownWord (writeWord m a d mask) b = knownWord m b := by
  have hn : a.toNat ≠ b.toNat := fun h => hab (BitVec.eq_of_toNat_eq h)
  have hb : ∀ i, i < 4 → readByte (writeWord m a d mask) (byteAddr b i) = readByte m (byteAddr b i) := by
    intro i hi
    have h4 : byteAddr b i / 4 = b.toNat := by simp only [byteAddr]; omega
    rw [readByte_writeWord, h4]
    simp [Ne.symm hn]
  simp only [knownWord, hb 0 (by omega), hb 1 (by omega), hb 2 (by omega), hb 3 (by omega)]

theorem knownWord_forgetWord_ne (m : List Host.Cell) (a b : WordAddr) (hab : a ≠ b) :
    knownWord (forgetWord m a) b = knownWord m b := by
  have hn : a.toNat ≠ b.toNat := fun h => hab (BitVec.eq_of_toNat_eq h)
  have hb : ∀ i, i < 4 → readByte (forgetWord m a) (byteAddr b i) = readByte m (byteAddr b i) := by
    intro i hi
    have h4 : byteAddr b i / 4 = b.toNat := by simp only [byteAddr]; omega
    rw [readByte_forgetWord, h4]
    simp [Ne.symm hn]
  simp only [knownWord, hb 0 (by omega), hb 1 (by omega), hb 2 (by omega), hb 3 (by omega)]

/-- R100: a successful read tells the word. -/
theorem knownWord_read (m : List Host.Cell) (a : WordAddr) (rd : Word) :
    knownWord (writeWord m a (readWord m a rd) 0xF#4) a = some (readWord m a rd) := by
  rw [knownWord_eq_some]
  intro i hi
  have h4 : byteAddr a i / 4 = a.toNat := by simp only [byteAddr]; omega
  have h5 : byteAddr a i % 4 = i := by simp only [byteAddr]; omega
  rw [readByte_writeWord, h4, h5]
  rcases (by omega : i = 0 ∨ i = 1 ∨ i = 2 ∨ i = 3) with rfl | rfl | rfl | rfl <;> simp

end Sys2Proof.Machine
end

