-- ==== Sys2Proof/Laws/Operations.lean ====
section
/-! SUPPORT. What each shared operation can do, said once: a later proof cites one of these and does not unfold the operation. -/

namespace Sys2Proof.Machine

/-- Every command answers a next state (INVENTORY.md, "Faults"). -/
theorem exec_next (c : Instr) (s : State) : ∃ t, exec c s = .next t := by
  cases c <;> exact ⟨_, rfl⟩

/-! ### Events -/

/-- R171 to R173: a submitted record is masked, stored, or lost. -/
theorem submit_cases (s : State) (b : EventBody) :
    (s.eventEnabled b = false ∧ s.submit b = s) ∨
    (s.eventEnabled b = true ∧ s.events.records.length < 32 ∧
      s.submit b = s.setEvents { records := s.events.records ++ [s.stamped b], lost := 0 }) ∨
    (s.eventEnabled b = true ∧ 32 ≤ s.events.records.length ∧
      s.submit b = s.setEvents { s.events with lost := min (s.events.lost + 1) 255 }) := by
  unfold State.submit State.store
  split
  · split
    · exact .inr (.inl ⟨‹_›, ‹_›, rfl⟩)
    · exact .inr (.inr ⟨‹_›, Nat.le_of_not_lt ‹_›, rfl⟩)
  · exact .inl ⟨by simp_all, rfl⟩

/-- A record and a trip source neither read nor change the upstream link's signals (R183). -/
@[simp] theorem submit_newCycle (s : State) (b : EventBody) : s.newCycle.submit b = (s.submit b).newCycle := by
  have he : s.newCycle.eventEnabled b = s.eventEnabled b := rfl
  simp only [State.submit, State.store, he, newCycle_events]
  by_cases h : s.eventEnabled b = true
  · by_cases k : s.events.records.length < Config.eventRecords
    · simp only [h, k, if_true]; rfl
    · simp only [h, k, if_true, if_false]; rfl
  · simp only [h, Bool.false_eq_true, if_false]

@[simp] theorem tripSource_newCycle (s : State) (g : Fin 8) (x : TripSource) :
    s.newCycle.tripSource g x = (s.tripSource g x).newCycle := by
  have hs : s.newCycle.softResetting = s.softResetting := rfl
  have hf : s.newCycle.firstTrip g x = (s.firstTrip g x).newCycle := by
    unfold State.firstTrip
    rw [← submit_newCycle]
    rfl
  unfold State.tripSource
  rw [hs, hf, newCycle_group]
  cases s.softResetting
  · cases (s.group g).state <;> rfl
  · rfl

/-! ### Groups -/

/-- R112: a trip source is dropped, trips the group for the first time, or is a second fault. -/
theorem tripSource_cases (s : State) (g : Fin 8) (x : TripSource) :
    ((s.softResetting = true ∨ (s.group g).state = .off) ∧ s.tripSource g x = s) ∨
    (s.softResetting = false ∧ ((s.group g).state = .active ∨ (s.group g).state = .stopping) ∧
      s.tripSource g x = s.firstTrip g x) ∨
    (s.softResetting = false ∧ ((s.group g).state = .safing ∨ (s.group g).state = .faulted) ∧
      s.tripSource g x = s.secondFault g x) := by
  unfold State.tripSource
  split
  · exact .inl ⟨.inl ‹_›, rfl⟩
  · have hs : s.softResetting = false := by simp_all
    split
    · exact .inl ⟨.inr ‹_›, rfl⟩
    · exact .inr (.inl ⟨hs, .inl ‹_›, rfl⟩)
    · exact .inr (.inl ⟨hs, .inr ‹_›, rfl⟩)
    · exact .inr (.inr ⟨hs, .inl ‹_›, rfl⟩)
    · exact .inr (.inr ⟨hs, .inr ‹_›, rfl⟩)

/-- R78: the group's other batch enters QUEUED and its item joins the release queue. -/
theorem queueOther_of_some (s : State) (g : Fin 8) (b : Batch) (h : (s.group g).other = some b) :
    s.queueOther g = (s.setGroup g { s.group g with other := some { b with state := .queued } }).setReleaseQueue
      (s.releaseQueue ++ [.batch g b.seq]) := by
  simp only [State.queueOther, h]

/-- R53: a seal request seals, sets seal pending, finds it set, or is out of place. -/
theorem sealRequest_cases (s : State) (g : Fin 8) (c : SealCause) :
    (∃ b, (s.group g).state = .active ∧ (s.group g).opened = some b ∧ (s.group g).other = none ∧
      s.sealRequest g c = (s.sealOpen g c, .closed b.seq)) ∨
    (∃ b, (s.group g).state = .active ∧ (s.group g).opened = some b ∧ (s.group g).other ≠ none ∧
      (s.group g).sealPending = false ∧
      s.sealRequest g c = (s.setGroup g { s.group g with sealPending := true }, .pendingSet b.seq)) ∨
    (∃ b, ((s.group g).state = .active ∧ (s.group g).other ≠ none ∨ (s.group g).state = .stopping) ∧
      (s.group g).opened = some b ∧ (s.group g).sealPending = true ∧ s.sealRequest g c = (s, .alreadyPending b.seq)) ∨
    (s.sealRequest g c = (s, .badState) ∧ ((s.group g).state = .active → (s.group g).opened = none)) := by
  unfold State.sealRequest
  dsimp only
  split
  · rename_i b hs ho
    split
    · exact .inl ⟨b, hs, ho, by simp_all, rfl⟩
    · have hn : (s.group g).other ≠ none := by simp_all
      split
      · exact .inr (.inr (.inl ⟨b, .inl ⟨hs, hn⟩, ho, ‹_›, rfl⟩))
      · exact .inr (.inl ⟨b, hs, ho, hn, by simp_all, rfl⟩)
  · rename_i b hs ho
    split
    · exact .inr (.inr (.inl ⟨b, .inr hs, ho, ‹_›, rfl⟩))
    · exact .inr (.inr (.inr ⟨rfl, fun h => by rw [h] at hs; cases hs⟩))
  · rename_i h1 h2
    refine .inr (.inr (.inr ⟨rfl, fun h => ?_⟩))
    cases ho : (s.group g).opened with
    | none => rfl
    | some b => exact absurd ho (h1 b h)

/-- R54: the seal of an ACTIVE group's OPEN batch. -/
theorem sealOpen_active (s : State) (g : Fin 8) (c : SealCause) (b : Batch) (hs : (s.group g).state = .active)
    (ho : (s.group g).opened = some b) :
    s.sealOpen g c =
      let u := s.setGroup g (Group.openBatch { s.group g with opened := none, other := some (b.close c) })
      if (s.group g).config.trigger = .immediate then u.queueOther g else u := by
  simp only [State.sealOpen, ho, hs, if_true]

/-- R54: the seal of a STOPPING group's OPEN batch: none opens, and the sealed one is queued. -/
theorem sealOpen_stopping (s : State) (g : Fin 8) (c : SealCause) (b : Batch) (hs : (s.group g).state ≠ .active)
    (ho : (s.group g).opened = some b) :
    s.sealOpen g c =
      ((s.setGroup g { s.group g with opened := none, other := some { b.close c with state := .queued } }).setReleaseQueue
        (s.releaseQueue ++ [.batch g b.seq])) := by
  simp only [State.sealOpen, ho, hs, if_false]
  rw [queueOther_of_some _ g (b.close c) (by simp)]
  simp [Batch.close]

/-- R47: the staging decision. -/
theorem stageEntry_cases (s : State) (g : Fin 8) (b : Batch) (a : WordAddr) (d : Word) (m : Mask) :
    (m = 0#4 ∧ s.stageEntry g b a d m = (s, none)) ∨
    (m ≠ 0#4 ∧ (b.entryFor a).isSome = true ∧
      s.stageEntry g b a d m = (s.setGroup g { s.group g with opened := some (b.coalesce a d m) }, none)) ∨
    (m ≠ 0#4 ∧ b.entryFor a = none ∧ (s.group g).config.quota ≤ (s.group g).held ∧
      s.stageEntry g b a d m = (s, some .quota)) ∨
    (m ≠ 0#4 ∧ b.entryFor a = none ∧ (s.group g).held < (s.group g).config.quota ∧ s.freeSlots = 0 ∧
      s.stageEntry g b a d m = (s, some .poolFull)) ∨
    (m ≠ 0#4 ∧ b.entryFor a = none ∧ (s.group g).held < (s.group g).config.quota ∧ s.freeSlots ≠ 0 ∧
      s.stageEntry g b a d m =
        ((s.setGroup g { s.group g with opened := some (b.append a d m), held := (s.group g).held + 1 }).setFreeSlots
          (s.freeSlots - 1), none)) := by
  unfold State.stageEntry
  dsimp only
  split
  · exact .inl ⟨‹_›, rfl⟩
  · split
    · exact .inr (.inl ⟨‹_›, ‹_›, rfl⟩)
    · have hn : b.entryFor a = none := by simp_all
      split
      · exact .inr (.inr (.inl ⟨‹_›, hn, ‹_›, rfl⟩))
      · split
        · exact .inr (.inr (.inr (.inl ⟨‹_›, hn, Nat.lt_of_not_le ‹_›, ‹_›, rfl⟩)))
        · exact .inr (.inr (.inr (.inr ⟨‹_›, hn, Nat.lt_of_not_le ‹_›, ‹_›, rfl⟩)))

/-- R77: a release point. -/
theorem releasePoint_cases (s : State) (g : Fin 8) :
    ((s.releasePoint g).1 = s ∧ ((s.releasePoint g).2 = .ignored ∨ (s.releasePoint g).2 = .notCleared)) ∨
    (s.softResetting = false ∧
      (((s.group g).state = .active ∧ (s.group g).other = none ∧ s.releasePoint g = s.miss g) ∨
       (∃ b, (s.group g).state = .active ∧ (s.group g).other = some b ∧ b.state = .closed ∧
          s.releasePoint g = s.queueSealed g b) ∨
       (∃ b, (s.group g).state = .active ∧ (s.group g).other = some b ∧ b.state ≠ .closed ∧
          s.releasePoint g = s.overrun g b) ∨
       ((s.group g).state = .faulted ∧ s.autoClears g = true ∧ s.releasePoint g = (s.clearGroup g .auto false, .cleared)))) := by
  unfold State.releasePoint
  split
  · exact .inl ⟨rfl, .inl rfl⟩
  · have hs : s.softResetting = false := by simp_all
    split
    · rename_i hg
      split
      · exact .inr ⟨hs, .inl ⟨hg, ‹_›, rfl⟩⟩
      · rename_i b ho
        split
        · exact .inr ⟨hs, .inr (.inl ⟨b, hg, ho, ‹_›, rfl⟩)⟩
        · exact .inr ⟨hs, .inr (.inr (.inl ⟨b, hg, ho, ‹_›, rfl⟩))⟩
    · rename_i hg
      split
      · exact .inr ⟨hs, .inr (.inr (.inr ⟨hg, ‹_›, rfl⟩))⟩
      · exact .inl ⟨rfl, .inr rfl⟩
    · exact .inl ⟨rfl, .inl rfl⟩
    · exact .inl ⟨rfl, .inl rfl⟩
    · exact .inl ⟨rfl, .inl rfl⟩

/-- R76: a candidate is passed over, counts down skip, or is a release point with skip set again. -/
theorem candidate_cases (s : State) (g : Fin 8) :
    (((s.group g).state ≠ .active ∧ (s.group g).state ≠ .faulted) ∧ s.candidate g = s) ∨
    (((s.group g).state = .active ∨ (s.group g).state = .faulted) ∧
      (((s.group g).skipRemaining ≠ 0 ∧
          s.candidate g = s.setGroup g { s.group g with skipRemaining := (s.group g).skipRemaining - 1 }) ∨
       ((s.group g).skipRemaining = 0 ∧
          s.candidate g =
            ((s.setGroup g { s.group g with skipRemaining := (s.group g).config.skip }).releasePoint g).1))) := by
  unfold State.candidate
  dsimp only
  split
  · rename_i h; exact .inl ⟨⟨by simp [h], by simp [h]⟩, rfl⟩
  · rename_i h; exact .inl ⟨⟨by simp [h], by simp [h]⟩, rfl⟩
  · rename_i h; exact .inl ⟨⟨by simp [h], by simp [h]⟩, rfl⟩
  · rename_i h
    split
    · exact .inr ⟨.inl h, .inr ⟨‹_›, rfl⟩⟩
    · exact .inr ⟨.inl h, .inl ⟨‹_›, rfl⟩⟩
  · rename_i h
    split
    · exact .inr ⟨.inr h, .inr ⟨‹_›, rfl⟩⟩
    · exact .inr ⟨.inr h, .inl ⟨‹_›, rfl⟩⟩

/-! ### Requests -/

/-- R5, R6: the routes by what they need. -/
theorem route_window (s : State) (i : Fin 16) (w : Window) (h : s.windowOf (s.slot i).addr = some w)
    (hg : (s.group w.group).state ≠ .off) : s.route i = s.routeIn i w := by
  simp only [State.route, h, hg, if_false]

/-- R4, cases 1 and 4. -/
theorem route_pass (s : State) (i : Fin 16)
    (h : s.windowOf (s.slot i).addr = none ∨ ∃ w, s.windowOf (s.slot i).addr = some w ∧ (s.group w.group).state = .off) :
    s.route i = .pass := by
  rcases h with h | ⟨w, h, hg⟩
  · simp only [State.route, h]
  · simp only [State.route, h, hg, if_true]

/-- R7: the report of a refusal touches the groups and the event queue; the refused slot is the one answered. -/
theorem refuse_slot (s : State) (i j : Fin 16) (g : Fin 8) (c : RefusalCause) :
    (s.refuse i g c).slot j =
      if i = j then { s.slot i with
        state := .answering, prepared := some { response := .refused c, performed := false }, returnMark := none }
      else s.slot j := by
  unfold State.refuse
  rw [(reportRefusal_groupsOnly _ _ _ _).slot]
  simp [State.answer]

/-! ### Return clearance and block reports -/

theorem foldl_clear (l : List (Fin 8)) (s : State) (p : State → Fin 8 → Bool)
    (hp : ∀ (s : State) (d : Drain) (g : Fin 8), p (s.setDrain d) g = p s g) :
    ∃ v, l.foldl (fun s g => if p s g then s.setDrain { s.drain with clearanceWait := s.drain.clearanceWait.set g false } else s) s =
        s.setDrain { s.drain with clearanceWait := v } ∧
      ∀ g : Fin 8, v[g] = (s.drain.clearanceWait[g] && !(decide (g ∈ l) && p s g)) := by
  induction l generalizing s with
  | nil => exact ⟨s.drain.clearanceWait, rfl, by simp⟩
  | cons a l ih =>
    simp only [List.foldl_cons]
    by_cases h : p s a = true
    · obtain ⟨v, hv, hw⟩ := ih (s.setDrain { s.drain with clearanceWait := s.drain.clearanceWait.set a false })
      refine ⟨v, by rw [if_pos h, hv]; rfl, fun g => ?_⟩
      rw [hw g, hp]
      simp only [setDrain_drain, Fin.getElem_fin, Vector.getElem_set]
      by_cases hg : a = g
      · subst hg; simp [h]
      · have : ¬ (a.val = g.val) := fun e => hg (Fin.ext e)
        simp [this, Ne.symm hg]
    · obtain ⟨v, hv, hw⟩ := ih s
      refine ⟨v, by rw [if_neg h, hv], fun g => ?_⟩
      rw [hw g]
      by_cases hg : g = a
      · subst hg; simp [h]
      · simp [hg]

/-- R19, R99: the report of return clearance lowers the flag of every group whose mark no slot carries, and does nothing else. -/
theorem reportClearance_spec (s : State) :
    ∃ v, s.reportClearance = s.setDrain { s.drain with clearanceWait := v } ∧
      ∀ g : Fin 8, v[g] = (s.drain.clearanceWait[g] && !s.unmarked g) := by
  obtain ⟨v, h, hv⟩ := foldl_clear groupNumbers s State.unmarked (fun _ _ _ => rfl)
  refine ⟨v, h, fun g => ?_⟩
  rw [hv g]
  have : g ∈ groupNumbers := by revert g; decide
  simp [this]

/-- A flag already low in every cleared group leaves the report without effect. -/
theorem reportClearance_of_clear (s : State) (h : ∀ g : Fin 8, s.unmarked g = true → s.drain.clearanceWait[g] = false) :
    s.reportClearance = s := by
  obtain ⟨v, hv, hg⟩ := reportClearance_spec s
  have : v = s.drain.clearanceWait := by
    apply Vector.ext
    intro i hi
    have := hg ⟨i, hi⟩
    have hh := h ⟨i, hi⟩
    simp only [Fin.getElem_fin] at this hh
    rw [this]
    cases hu : s.unmarked ⟨i, hi⟩ with
    | false => simp
    | true => simp [hh hu]
  rw [hv, this]
  rfl

/-- R166: outside a soft reset no block reports. -/
theorem reportBlocks_of_not (s : State) (h : s.softResetting = false) : s.reportBlocks = s := by
  simp [State.reportBlocks, h]

/-- R166, R106: a step of a soft reset writes the reports, and the arbiter's turn and run count at the port's. -/
theorem reportBlocks_spec (s : State) :
    ∃ r turn run, s.reportBlocks = { s with
      link := { s.link with reports := r }, port := { s.port with turn := turn, run := run } } := by
  unfold State.reportBlocks
  split
  · unfold State.portReport
    split
    · exact ⟨_, .drain, 0, rfl⟩
    · exact ⟨_, s.port.turn, s.port.run, rfl⟩
  · exact ⟨s.link.reports, s.port.turn, s.port.run, rfl⟩

/-! ### The management link -/

/-- R148, R153: a frame that carries a command is dropped, rejected with BUSY, or runs the command's body. -/
theorem command_cases (code : Byte) (body : State → State) (s : State) :
    (s.frameDropped = true ∧ command code body s = s.newCycle.noFrame) ∨
    (s.frameDropped = false ∧ s.link.pending ≠ none ∧ command code body s = s.newCycle.closeFrame.rejectFrame .busy code) ∨
    (s.frameDropped = false ∧ s.link.pending = none ∧ command code body s = body s.newCycle.closeFrame) := by
  unfold command State.endFrame State.unlessBusy
  split
  · exact .inl ⟨‹_›, rfl⟩
  · have hd : s.frameDropped = false := by simp_all
    have hp : s.newCycle.closeFrame.link.pending = s.link.pending := rfl
    dsimp only
    rw [hp]
    cases h : s.link.pending with
    | none => exact .inr (.inr ⟨hd, rfl, by simp⟩)
    | some p => exact .inr (.inl ⟨hd, by simp, by simp⟩)

/-- R155, R156: an immediate command is refused with no other effect, or its result is written over its effect. -/
theorem immediate_cases (code : Byte) (f : State → CommandResult) (s : State) :
    (∃ status, f s = .error status ∧ immediate code f s = s.refuseCommand status code) ∨
    (∃ data t, f s = .ok (data, t) ∧ immediate code f s = t.writeResult .ok code data) := by
  unfold immediate
  split
  · exact .inr ⟨_, _, ‹_›, rfl⟩
  · exact .inl ⟨_, ‹_›, rfl⟩

/-- R102: the arbiter grants nothing, or the drain engine, the pass queue or the service list. -/
theorem arbitrate_cases (s : State) :
    s.arbitrate = s ∨
    (s.inReset = false ∧ s.port.current = none ∧
      ((s.choose = some .drain ∧ s.arbitrate = s.grantDrain) ∨
       (s.choose = some .pass ∧ s.arbitrate = s.grantPass) ∨
       (s.choose = some .service ∧ s.arbitrate = s.grantService))) := by
  unfold State.arbitrate
  split
  · exact .inl rfl
  · rename_i h
    simp only [Bool.or_eq_true, not_or, Bool.not_eq_true, Option.isSome_eq_false_iff, Option.isNone_iff_eq_none] at h
    split
    · exact .inl rfl
    · exact .inr ⟨h.1, h.2, .inl ⟨‹_›, rfl⟩⟩
    · exact .inr ⟨h.1, h.2, .inr (.inl ⟨‹_›, rfl⟩)⟩
    · exact .inr ⟨h.1, h.2, .inr (.inr ⟨‹_›, rfl⟩)⟩

end Sys2Proof.Machine
end

