-- ==== Sys2Proof/Laws/PerInstr.lean ====
section
/-! SUPPORT. Per command: the field bytes of its frame are at most 33, so the frame's one length byte holds their number (R149). -/

namespace Sys2Proof.Laws.Carried

open Sys2Proof.Wire

/-- R149, R187: the frame that carries the command, if one does, has a field length that its length byte holds. -/
def Statement (c : Instr) : Prop :=
  ∀ (code : Byte) (fields : List Byte), encodeCommand c = some (code, fields) → fields.length ≤ 33

theorem of_none {c : Instr} (h : encodeCommand c = none) : Statement c := fun _ _ hc => by simp [h] at hc

theorem of_some {c : Instr} {k : Byte} {l : List Byte} (h : encodeCommand c = some (k, l)) (hl : l.length ≤ 33) : Statement c :=
  fun _ _ hc => by
    rw [h] at hc
    simp only [Option.some.injEq, Prod.mk.injEq] at hc
    exact hc.2 ▸ hl

theorem upstreamRequest (init : BitVec 2) (tag : BitVec 2) (kind : ReqKind) (addr : WordAddr) : Statement (.upstreamRequest init tag kind addr) := of_none rfl

theorem responseIssue (init : BitVec 2) (tag : BitVec 2) : Statement (.responseIssue init tag) := of_none rfl

theorem memoryGrant : Statement .memoryGrant := of_none rfl

theorem transactionPerformed (error : Bool) (rdata : Word) : Statement (.transactionPerformed error rdata) := of_none rfl

theorem drainTakeItem : Statement .drainTakeItem := of_none rfl

theorem endReport : Statement .endReport := of_none rfl

theorem tick (base : Base) : Statement (.tick base) := of_none rfl

theorem periodMark (base : Base) : Statement (.periodMark base) := of_none rfl

theorem settleWindowEnd (watch : Fin 12) : Statement (.settleWindowEnd watch) := of_none rfl

theorem releaseLineQualifiedEdge (line : Fin 4) (high : Bool) (cycles : Nat) : Statement (.releaseLineQualifiedEdge line high cycles) := of_none rfl

theorem faultLineQualifiedEdge (line : Fin 2) (high : Bool) (cycles : Nat) : Statement (.faultLineQualifiedEdge line high cycles) := of_none rfl

theorem frameStart : Statement .frameStart := of_none rfl

theorem frameEnd (mdi : List Bool) : Statement (.frameEnd mdi) := of_none rfl

theorem nop : Statement .nop := of_some rfl (Nat.le_of_ble_eq_true rfl)

theorem readResult : Statement .readResult := of_some rfl (Nat.le_of_ble_eq_true rfl)

theorem readTable (kind : Byte) (index : Byte) : Statement (.readTable kind index) := of_some rfl (Nat.le_of_ble_eq_true rfl)

theorem writeTableWindow (index : Byte) (fields : WindowFields) : Statement (.writeTableWindow index fields) := of_some rfl (Nat.le_of_ble_eq_true rfl)

theorem writeTableGroup (index : Byte) (fields : GroupFields) : Statement (.writeTableGroup index fields) := of_some rfl (Nat.le_of_ble_eq_true rfl)

theorem writeTableSafe (index : Byte) (fields : SafeFields) : Statement (.writeTableSafe index fields) := of_some rfl (Nat.le_of_ble_eq_true rfl)

theorem writeTableWatch (index : Byte) (fields : WatchFields) : Statement (.writeTableWatch index fields) := of_some rfl (Nat.le_of_ble_eq_true rfl)

theorem writeTableTimebase (index : Byte) (fields : TimebaseFields) : Statement (.writeTableTimebase index fields) := of_some rfl (Nat.le_of_ble_eq_true rfl)

theorem writeTableLines (index : Byte) (fields : LinesFields) : Statement (.writeTableLines index fields) := of_some rfl (Nat.le_of_ble_eq_true rfl)

theorem writeTableMemport (index : Byte) (burst : Byte) : Statement (.writeTableMemport index burst) := of_some rfl (Nat.le_of_ble_eq_true rfl)

theorem groupStart (group : Byte) : Statement (.groupStart group) := of_some rfl (Nat.le_of_ble_eq_true rfl)

theorem groupStopDiscard (group : Byte) : Statement (.groupStopDiscard group) := of_some rfl (Nat.le_of_ble_eq_true rfl)

theorem groupStopFlush (group : Byte) : Statement (.groupStopFlush group) := of_some rfl (Nat.le_of_ble_eq_true rfl)

theorem sealBatch (group : Byte) : Statement (.sealBatch group) := of_some rfl (Nat.le_of_ble_eq_true rfl)

theorem release (group : Byte) : Statement (.release group) := of_some rfl (Nat.le_of_ble_eq_true rfl)

theorem readStatus (group : Byte) : Statement (.readStatus group) := of_some rfl (Nat.le_of_ble_eq_true rfl)

theorem readStatusClear (group : Byte) : Statement (.readStatusClear group) := of_some rfl (Nat.le_of_ble_eq_true rfl)

theorem forceFault (group : Byte) : Statement (.forceFault group) := of_some rfl (Nat.le_of_ble_eq_true rfl)

theorem clearFault (group : Byte) (force : Byte) : Statement (.clearFault group force) := of_some rfl (Nat.le_of_ble_eq_true rfl)

theorem armWatch (watch : Byte) : Statement (.armWatch watch) := of_some rfl (Nat.le_of_ble_eq_true rfl)

theorem disarmWatch (watch : Byte) : Statement (.disarmWatch watch) := of_some rfl (Nat.le_of_ble_eq_true rfl)

theorem setReference (watch : Byte) (reference : Word) (compareMask : Word) : Statement (.setReference watch reference compareMask) := of_some rfl (Nat.le_of_ble_eq_true rfl)

theorem timebaseStart (base : Byte) : Statement (.timebaseStart base) := of_some rfl (Nat.le_of_ble_eq_true rfl)

theorem timebaseStop (base : Byte) : Statement (.timebaseStop base) := of_some rfl (Nat.le_of_ble_eq_true rfl)

theorem timebaseZero (base : Byte) : Statement (.timebaseZero base) := of_some rfl (Nat.le_of_ble_eq_true rfl)

theorem popEvent : Statement .popEvent := of_some rfl (Nat.le_of_ble_eq_true rfl)

theorem peek (addr : Addr24) : Statement (.peek addr) := of_some rfl (Nat.le_of_ble_eq_true rfl)

theorem poke (addr : Addr24) (data : Word) (mask : Mask) : Statement (.poke addr data mask) := of_some rfl (Nat.le_of_ble_eq_true rfl)

theorem softReset : Statement .softReset := of_some rfl (Nat.le_of_ble_eq_true rfl)

theorem softResetComplete : Statement .softResetComplete := of_none rfl

theorem powerOnReset : Statement .powerOnReset := of_none rfl

theorem powerOnResetEnd (releasePins : BitVec 4) (faultPins : BitVec 2) : Statement (.powerOnResetEnd releasePins faultPins) := of_none rfl

end Sys2Proof.Laws.Carried
end

