-- ==== Sys2Proof/Laws/Units.lean ====
section
/-! SUPPORT. What the operations of the drain engine, the watch unit, the port, the scheduler and the request lists can do, each said
once. -/

namespace Sys2Proof.Machine

/-! ### The request lists -/

/-- A run of slot updates over slots that differ touches the slots alone, each listed one once. -/
theorem foldl_setSlot (f : Slot → Slot) (l : List (Fin 16)) (hl : l.Nodup) (s : State) :
    ∃ v, l.foldl (fun s i => s.setSlot i (f (s.slot i))) s = { s with upstream := { s.upstream with slots := v } } ∧
      ∀ j : Fin 16, v[j] = if j ∈ l then f (s.slot j) else s.slot j := by
  induction l generalizing s with
  | nil => exact ⟨s.upstream.slots, rfl, fun j => by simp [State.slot]⟩
  | cons a l ih =>
    obtain ⟨ha, hl⟩ := List.nodup_cons.1 hl
    obtain ⟨v, hv, hj⟩ := ih hl (s.setSlot a (f (s.slot a)))
    refine ⟨v, by rw [List.foldl_cons, hv]; rfl, fun j => ?_⟩
    rw [hj j, setSlot_slot]
    by_cases h : a = j
    · subst h; simp [ha]
    · simp [h, Ne.symm h]

/-- R15: an item's start moves the group's queued slots, in their order, to the end of the hold list, and they are HELD. -/
theorem holdAtStart_spec (s : State) (g : Fin 8) (h : s.upstream.passQueue.Nodup) :
    ∃ v, s.holdAtStart g = { s with upstream := { s.upstream with
        slots := v
        passQueue := s.upstream.passQueue.filter (fun i => !s.slotIn g i)
        holdList := s.upstream.holdList ++ s.upstream.passQueue.filter (s.slotIn g) } } ∧
      ∀ j : Fin 16, v[j] =
        if j ∈ s.upstream.passQueue ∧ s.slotIn g j = true then { s.slot j with state := .held } else s.slot j := by
  obtain ⟨v, hv, hj⟩ := foldl_setSlot (fun x => { x with state := .held }) (s.upstream.passQueue.filter (s.slotIn g)) (h.filter _)
    ((s.setPassQueue (s.upstream.passQueue.filter (fun i => !s.slotIn g i))).setHoldList
      (s.upstream.holdList ++ s.upstream.passQueue.filter (s.slotIn g)))
  exact ⟨v, hv, fun j => by rw [hj j]; simp⟩

/-! ### The drain engine -/

/-- R56, R37, R38: what the group controller does at a retirement. -/
theorem followUp_cases (s : State) (g : Fin 8) :
    (s.softResetting = true ∧ s.followUp g = s.setGroup g { s.group g with state := .off }) ∨
    (s.softResetting = false ∧ (s.group g).sealPending = true ∧
      s.followUp g = (s.setGroup g { s.group g with sealPending := false }).sealOpen g .pendingSeal) ∨
    (s.softResetting = false ∧ (s.group g).sealPending = false ∧ (s.group g).state = .stopping ∧
      s.followUp g = (s.setGroup g { s.group g with state := .off }).submit (.groupStopped g (s.group g).stopOption)) ∨
    (s.softResetting = false ∧ (s.group g).sealPending = false ∧ (s.group g).state ≠ .stopping ∧ s.followUp g = s) := by
  unfold State.followUp
  dsimp only
  split
  · exact .inl ⟨‹_›, rfl⟩
  · split
    · exact .inr (.inl ⟨by simp_all, ‹_›, rfl⟩)
    · split
      · exact .inr (.inr (.inl ⟨by simp_all, by simp_all, ‹_›, rfl⟩))
      · exact .inr (.inr (.inr ⟨by simp_all, by simp_all, ‹_›, rfl⟩))

/-- R90, R91, R93: a performed write of a batch takes its first entry off; the last one retires the batch. -/
theorem entryWritten_of_entry (s : State) (g : Fin 8) (error : Bool) (b : Batch) (e : Entry) (rest : List Entry)
    (ho : (s.group g).other = some b) (he : b.entries = e :: rest) :
    s.entryWritten g error =
      let b' := { b with entries := rest, errorsSeen := if error then b.errorsSeen + 1 else b.errorsSeen }
      let u := (s.setGroup g { s.group g with
        other := some b', held := (s.group g).held - 1
        drainErrors := if error then bump (s.group g).drainErrors else (s.group g).drainErrors }).setFreeSlots (s.freeSlots + 1)
      if rest = [] then u.retire g b' else u := by
  simp only [State.entryWritten, ho, he, List.isEmpty_iff]

/-- R97: the next safe entry is the first enabled one of the group at or after the index. -/
theorem nextSafe_eq_some (s : State) (g : Fin 8) (n : Nat) (k : Fin 128) (h : s.nextSafe g n = some k) :
    n ≤ k.val ∧ s.safeTable[k].enabled = true ∧ s.safeTable[k].group = g := by
  have := List.find?_some h
  simpa [and_assoc] using this

theorem nextSafe_eq_none (s : State) (g : Fin 8) (n : Nat) :
    s.nextSafe g n = none ↔ ∀ k : Fin 128, n ≤ k.val → s.safeTable[k].enabled = true → s.safeTable[k].group ≠ g := by
  simp only [State.nextSafe, List.find?_eq_none, safeIndices, List.mem_finRange, forall_const, Bool.and_eq_true,
    decide_eq_true_eq, beq_iff_eq, not_and, and_imp, ne_eq]

/-- R97, R98: the engine goes to the next safe entry or completes the job. -/
theorem advanceSafe_cases (s : State) (g : Fin 8) (n : Nat) :
    (∃ k, s.nextSafe g n = some k ∧ s.advanceSafe g n = s.setDrain { s.drain with safeNext := k }) ∨
    (s.nextSafe g n = none ∧ s.advanceSafe g n = s.completeSafe g) := by
  unfold State.advanceSafe
  split
  · exact .inl ⟨_, ‹_›, rfl⟩
  · exact .inr ⟨‹_›, rfl⟩

/-- R87: the item picked stands in the queue, its group is clear, and it is a safe job whenever the queue holds one. -/
theorem pickItem_eq_some (s : State) (it : Item) (h : s.pickItem = some it) :
    it ∈ s.releaseQueue ∧ s.drain.clearanceWait[it.group] = false ∧
      (it.isSafe = true ∨ ∀ j ∈ s.releaseQueue, j.isSafe = false) := by
  unfold State.pickItem at h
  split at h
  · have h1 := List.mem_of_find?_eq_some h
    have h2 := List.find?_some h
    simp only [Bool.and_eq_true, State.cleared, Bool.not_eq_true'] at h2
    exact ⟨h1, h2.2, .inl h2.1⟩
  · rename_i hq
    have h1 := List.mem_of_find?_eq_some h
    have h2 := List.find?_some h
    simp only [State.cleared, Bool.not_eq_true'] at h2
    refine ⟨h1, h2, .inr (fun j hj => ?_)⟩
    cases hs : j.isSafe with
    | false => rfl
    | true => exact absurd (List.any_eq_true.2 ⟨j, hj, hs⟩) hq

/-! ### The watch unit -/

/-- R83: the place of an item that is no newly joined safe job is kept, whatever groups are to be filled in. -/
theorem fillSafe_cons_of_old (before : List Item) (gs : List (Fin 8)) (it : Item) (q : List Item)
    (h : (it.isSafe && !before.contains it) = false) : fillSafe before gs (it :: q) = it :: fillSafe before gs q := by
  cases gs with
  | nil => cases q <;> simp [fillSafe]
  | cons g gs => rw [fillSafe, h]; rfl

/-- R83: a queue in which no safe job is new is left as it is. -/
theorem inGroupOrder_of_old (before q : List Item) (h : ∀ it ∈ q, it.isSafe = true → it ∈ before) :
    inGroupOrder before q = q := by
  suffices ∀ gs, fillSafe before gs q = q from this _
  induction q with
  | nil => intro gs; cases gs <;> rfl
  | cons it q ih =>
    intro gs
    rw [fillSafe_cons_of_old, ih fun x hx => h x (List.mem_cons_of_mem _ hx)]
    cases hs : it.isSafe with
    | false => rfl
    | true => simp [h it List.mem_cons_self hs]

/-- R83: with no new safe job, an event dealt with at every watch is its steps in order of number. -/
theorem eachWatch_of_old (s : State) (f : State → Fin 12 → State)
    (h : ∀ it ∈ (watchNumbers.foldl f s).releaseQueue, it.isSafe = true → it ∈ s.releaseQueue) :
    s.eachWatch f = watchNumbers.foldl f s := by
  simp only [State.eachWatch, inGroupOrder_of_old _ _ h]
  rfl

/-- R83: an event dealt with at every watch has its steps' effect on all but the order of the release queue. -/
theorem eachWatch_eq (s : State) (f : State → Fin 12 → State) :
    ∃ q, s.eachWatch f = (watchNumbers.foldl f s).setReleaseQueue q := ⟨_, rfl⟩

/-- R141: a mismatch report. -/
theorem reportMismatch_cases (s : State) (w : Fin 12) (c : MismatchCause) :
    ((s.watch w).action = .report ∧ s.reportMismatch w c = s.submit (.watchMismatch w c)) ∨
    ((s.watch w).action = .trip ∧
      s.reportMismatch w c = (s.submit (.watchMismatch w c)).tripSource (s.watch w).tripGroup (.watch w)) := by
  unfold State.reportMismatch
  dsimp only
  split
  · exact .inr ⟨‹_›, rfl⟩
  · refine .inl ⟨?_, rfl⟩
    cases h : (s.watch w).action <;> simp_all

/-- No operation of the groups changes a watch, so a report leaves the watches as they are. -/
@[simp] theorem reportMismatch_watch (s : State) (w v : Fin 12) (c : MismatchCause) : (s.reportMismatch w c).watch v = s.watch v :=
  (reportMismatch_groupsOnly s w c).watch v

/-- R141, R142: a transition touches the watch's own record: its state, and its deferred flag. -/
theorem transition_watch (s : State) (w v : Fin 12) (f h : Found) (hs : (s.watch w).state = .compared f) :
    (s.transition w f h).watch v =
      if w = v then { s.watch w with
        state := .compared h
        deferred := match f, h with
          | .agrees, .differs => (s.watch w).deferred || decide ((s.watch w).marks ≠ 0)
          | .differs, .agrees => false
          | .agrees, .agrees => (s.watch w).deferred
          | .differs, .differs => (s.watch w).deferred }
      else s.watch v := by
  have hself : ∀ x : Watch, x.state = .compared f → { x with state := .compared f } = x := fun x hx => by rw [← hx]
  cases f <;> cases h
  · simp only [State.transition, hself _ hs]
    split <;> simp_all
  · simp only [State.transition, State.toMismatch]
    split
    · rename_i hm
      rw [reportMismatch_watch]
      simp [hm]
    · rename_i hm
      simp [hm]
  · simp only [State.transition, State.toMatch]
    split
    · simp
    · split <;> simp
  · simp only [State.transition, hself _ hs]
    split <;> simp_all

/-! ### The scheduler -/

/-- R67: a tick raises the count and looks at the phases, or is the period mark. -/
theorem tickBase_cases (s : State) (b : Base) :
    ((s.base b).count + 1 < (s.base b).period ∧
      s.tickBase b = (s.setBase b { s.base b with count := (s.base b).count + 1, interval := 0 }).phaseMatches b) ∨
    ((s.base b).period ≤ (s.base b).count + 1 ∧ s.tickBase b = s.mark b) := by
  unfold State.tickBase
  dsimp only
  split
  · exact .inl ⟨‹_›, rfl⟩
  · exact .inr ⟨Nat.le_of_not_lt ‹_›, rfl⟩

/-- R70: what A's period mark does to B. -/
theorem restartB_cases (s : State) :
    (¬ (s.baseB.running = true ∧ s.baseB.bLock = true) ∧ s.restartB = s) ∨
    (s.baseB.running = true ∧ s.baseB.bLock = true ∧ s.baseB.count = 0 ∧
      s.restartB = s.setBase .timeB { s.baseB with interval := 0 }) ∨
    (s.baseB.running = true ∧ s.baseB.bLock = true ∧ s.baseB.count ≠ 0 ∧ s.restartB = s.ownMark .timeB) := by
  unfold State.restartB
  split
  · rename_i h
    simp only [Bool.and_eq_true] at h
    split
    · exact .inr (.inl ⟨h.1, h.2, ‹_›, rfl⟩)
    · exact .inr (.inr ⟨h.1, h.2, ‹_›, rfl⟩)
  · exact .inl ⟨by simp_all, rfl⟩

/-- R72, R107: the qualification of a level. -/
theorem qualify_eq (q c n : Nat) :
    (q ≤ c + n ∧ qualify q c n = none) ∨ (c + n < q ∧ qualify q c n = some (c + n)) := by
  unfold qualify
  split
  · exact .inl ⟨‹_›, rfl⟩
  · exact .inr ⟨Nat.lt_of_not_le ‹_›, rfl⟩

/-! ### The port -/

/-- R101: an answer reaches the slot of a PASS transaction and no other. -/
theorem passPerformed_slot (s : State) (i j : Fin 16) (e : Bool) (word : Word) (h : i ≠ j) :
    (s.passPerformed i e word).slot j = s.slot j := by
  unfold State.passPerformed
  dsimp only
  split
  · simp [State.answer, h]
  · split <;> simp [State.answer, h]

/-- R157: a completed command touches the link alone. -/
theorem completeCommand_eq (s : State) (status : Status) (code : Byte) (data : List Byte) :
    s.completeCommand status code data =
      { s with link := { s.link with pending := none, result := { status := status, echo := code, data := data } } } := rfl

/-- R100: an answer at the port keeps the memory's canonical form. -/
theorem performed_memoryWf_of (s : State) (t : Transaction) (e : Bool) (rd : Word) (h : memoryWf s.mem = true) :
    memoryWf ((s.setPort { s.port with current := none }).setMem (memoryAfter s.mem t e rd)).mem = true :=
  memoryWf_memoryAfter _ _ _ _ h

end Sys2Proof.Machine
end

