-- ==== Sys2Proof/Tests/Slice0.lean ====
section
/-! SUPPORT. Small checks: the well-formedness checks each refuse an ill-formed command; frames written out from chapters 8 and 11 decode
to their commands; one step of each command on a small state, with expected values from the manual's worked examples (each test names its
source); and for every obligation with hypotheses, concrete states and operands that meet them, clause by clause. -/

namespace Sys2Proof.Tests

set_option Elab.async false

open Sys2Proof Sys2Proof.Machine Sys2Proof.Safety

/-! ### States -/

/-- The state after a command. -/
def after (c : Instr) (s : State) : State :=
  match exec c s with
  | .next t => t
  | .fault _ => s
  | .refused _ => s

/-- Section 3.3, example: window 9 of group 6, words 0x4000 to 0x400F, owner initiator 0, seal word offset 15. -/
def window9 : Window :=
  { enabled := true, base := 0x4000, length := 16, group := 6, owners := 0x1, foreign := .refuse, readOwn := true,
    sealOffset := some 15 }

/-- A MANUAL group with quota 4, every event enabled. -/
def config6 : GroupConfig := { GroupConfig.reset with trigger := .manual, quota := 4, eventMask := 0xFF, missLimit := 3 }

/-- Entries of the section 3.3 example. -/
def entry3 : Entry := { addr := 0x4003, data := 0x44332211, mask := 0xF, position := 0 }
def entry1 : Entry := { addr := 0x4001, data := 0x00006655, mask := 0x3, position := 1 }

/-- A batch in a state, with its entries. -/
def batch (seq : Seq) (state : BatchState) (entries : List Entry) : Batch :=
  { seq := seq, state := state, entries := entries, sealCause := if state = .opened then none else some .sealWord, errorsSeen := 0 }

/-- Group 6 in a state, with its batches. -/
def group6 (state : GroupState) (opened other : Option Batch) : Group :=
  { Group.reset with
    config := config6, state := state, opened := opened, other := other, nextSeq := 22,
    held := entryCount opened + entryCount other }

/-- A part with window 9 and this group 6, over an otherwise reset state. -/
def part (gr : Group) : State :=
  { State.reset with
    windows := State.reset.windows.set 9 window9
    groups := State.reset.groups.set 6 gr
    freeSlots := 512 - gr.held }

/-- Group 6 ACTIVE, its OPEN batch 21 with two entries, no other batch. -/
def staging : State := part (group6 .active (some (batch 21 .opened [entry3, entry1])) none)

/-- Group 6 ACTIVE, its OPEN batch 21 empty, its other batch 20 with two entries in a state. -/
def twoBatches (state : BatchState) : State :=
  part (group6 .active (some (batch 21 .opened [])) (some (batch 20 state [entry3, entry1])))

/-- A part whose batch 20 stands in the release queue. -/
def queued : State := { twoBatches .queued with releaseQueue := [.batch 6 20] }

/-- A part whose engine writes batch 20, with these entries left. -/
def drainingOf (entries : List Entry) : State :=
  { part (group6 .active (some (batch 21 .opened [])) (some (batch 20 .draining entries))) with
    drain := { Drain.reset with current := some (.batch 6 20), taken := 2 } }

/-- A part whose engine writes batch 20. -/
def draining : State := drainingOf [entry3, entry1]

/-- The DRAIN transaction of an entry at the port. -/
def drainAt (e : Entry) : Option Transaction := some { requester := .drain, kind := .write e.data e.mask, addr := e.addr }

/-- A slot in a state with a request for a word. -/
def slotIn (state : SlotState) (kind : ReqKind) (a : WordAddr) (order : Nat) : Slot :=
  { Slot.reset with state := state, kind := kind, addr := a, order := order }

/-- A watch on a word, with reference 0x00000100 and compare mask 0x0000FF00 (section 7.7). -/
def watch2 (state : WatchState) (shadow : Word) : Watch :=
  { Watch.reset with
    addr := 0x2040, reference := 0x00000100, compareMask := 0x0000FF00, reportRestore := true, state := state, shadow := shadow }

/-- A part with one watch. -/
def watching (x : Watch) : State := { State.reset with watches := State.reset.watches.set 2 x }

/-- A part with a command pending at the link. -/
def busy (c : PendingCommand) : State := { State.reset with link := { Link.reset with pending := some c } }

/-- A transaction of slot 0 at the port, the slot PERFORMING. -/
def passAt (s : State) (kind : ReqKind) (a : WordAddr) : State :=
  { s.setSlot 0 (slotIn .performing kind a 0) with
    port := { s.port with current := some { requester := .pass 0, kind := kind, addr := a } } }

/-- A probe of watch 2 at the port. -/
def probing (x : Watch) : State :=
  { watching x with port := { Port.reset with current := some { requester := .probe 2, kind := .read, addr := 0x2040 } } }

/-- Group 6 with no batch, in a state. -/
def plain (state : GroupState) : State := part (group6 state none none)

/-- The safe job of group 6 being written, its safe entries 4 and 9. -/
def safeJob : State :=
  let e : SafeEntry := { enabled := true, addr := 0x4000, data := 0xCAFE0001, mask := 0xF, group := 6 }
  { plain .safing with
    safeTable := (State.reset.safeTable.set 4 e).set 9 { e with addr := 0x4001 }
    drain := { Drain.reset with current := some (.safe 6), safeNext := 4 } }

/-! ### Well-formedness (each check refuses an ill-formed command) -/

def badWindow : WindowFields :=
  { enabled := true, readOwn := false, foreignPass := false, sealPresent := false, group := 0, owners := 0, base := 0,
    length := 65536, sealOffset := 0 }

theorem test_wf_readTable_kind : wellFormed (.readTable 7 0) = false := by decide +kernel
theorem test_wf_readTable_index : wellFormed (.readTable 3 12) = false := by decide +kernel
theorem test_wf_window_index : wellFormed (.writeTableWindow 16 badWindow) = false := by decide +kernel
theorem test_wf_window_length : wellFormed (.writeTableWindow 0 { badWindow with length := 65537 }) = false := by decide +kernel
theorem test_wf_window_end : wellFormed (.writeTableWindow 0 { badWindow with base := 0x3F0001 }) = false := by decide +kernel
theorem test_wf_window_ok : wellFormed (.writeTableWindow 0 { badWindow with base := 0x3F0000 }) = true := by decide +kernel
theorem test_wf_window_group : wellFormed (.writeTableWindow 0 { badWindow with group := 8 }) = false := by decide +kernel

def goodGroup : GroupFields :=
  { trigger := 3, timeBaseB := false, stampBaseB := false, overflowTrip := false, clearAuto := false, drainErrorTrip := false,
    faultLine0 := false, faultLine1 := false, phase := 65534, skip := 15, releaseLine := 3, quota := 512, missLimit := 15,
    eventMask := 0xFF }

theorem test_wf_group_ok : wellFormed (.writeTableGroup 7 goodGroup) = true := by decide +kernel
theorem test_wf_group_index : wellFormed (.writeTableGroup 8 goodGroup) = false := by decide +kernel
theorem test_wf_group_trigger : wellFormed (.writeTableGroup 0 { goodGroup with trigger := 4 }) = false := by decide +kernel
theorem test_wf_group_phase : wellFormed (.writeTableGroup 0 { goodGroup with phase := 65535 }) = false := by decide +kernel
theorem test_wf_group_skip : wellFormed (.writeTableGroup 0 { goodGroup with skip := 16 }) = false := by decide +kernel
theorem test_wf_group_line : wellFormed (.writeTableGroup 0 { goodGroup with releaseLine := 4 }) = false := by decide +kernel
theorem test_wf_group_quota : wellFormed (.writeTableGroup 0 { goodGroup with quota := 513 }) = false := by decide +kernel
theorem test_wf_group_miss : wellFormed (.writeTableGroup 0 { goodGroup with missLimit := 16 }) = false := by decide +kernel

def goodSafe : SafeFields := { enabled := true, group := 7, addr := 4194303, data := 1, mask := 1 }

theorem test_wf_safe_ok : wellFormed (.writeTableSafe 127 goodSafe) = true := by decide +kernel
theorem test_wf_safe_index : wellFormed (.writeTableSafe 128 goodSafe) = false := by decide +kernel
theorem test_wf_safe_group : wellFormed (.writeTableSafe 0 { goodSafe with group := 8 }) = false := by decide +kernel
theorem test_wf_safe_addr : wellFormed (.writeTableSafe 0 { goodSafe with addr := 4194304 }) = false := by decide +kernel
theorem test_wf_safe_mask : wellFormed (.writeTableSafe 0 { goodSafe with mask := 0 }) = false := by decide +kernel

def goodWatch : WatchFields :=
  { trip := true, settlePresent := true, settleBaseB := true, reportRestore := true, tripGroup := 7, settleGroup := 7,
    settleLength := 15, addr := 4194303, reference := 0, compareMask := 0 }

theorem test_wf_watch_ok : wellFormed (.writeTableWatch 11 goodWatch) = true := by decide +kernel
theorem test_wf_watch_index : wellFormed (.writeTableWatch 12 goodWatch) = false := by decide +kernel
theorem test_wf_watch_addr : wellFormed (.writeTableWatch 0 { goodWatch with addr := 4194304 }) = false := by decide +kernel
theorem test_wf_watch_trip : wellFormed (.writeTableWatch 0 { goodWatch with tripGroup := 8 }) = false := by decide +kernel
theorem test_wf_watch_settle : wellFormed (.writeTableWatch 0 { goodWatch with settleGroup := 8 }) = false := by decide +kernel
theorem test_wf_watch_length : wellFormed (.writeTableWatch 0 { goodWatch with settleLength := 16 }) = false := by decide +kernel
theorem test_wf_base_index : wellFormed (.writeTableTimebase 2 ⟨1, 16, false⟩) = false := by decide +kernel
theorem test_wf_base_divider : wellFormed (.writeTableTimebase 0 ⟨257, 16, false⟩) = false := by decide +kernel
theorem test_wf_base_lock : wellFormed (.writeTableTimebase 0 ⟨1, 16, true⟩) = false := by decide +kernel

def goodLines : LinesFields := ⟨⟨2, 4⟩, ⟨0, 0⟩, ⟨0, 0⟩, ⟨0, 0⟩, ⟨0, 16⟩, ⟨1, 64⟩⟩

theorem test_wf_lines_ok : wellFormed (.writeTableLines 0 goodLines) = true := by decide +kernel
theorem test_wf_lines_index : wellFormed (.writeTableLines 1 goodLines) = false := by decide +kernel
theorem test_wf_lines_edge : wellFormed (.writeTableLines 0 { goodLines with release0 := ⟨3, 4⟩ }) = false := by decide +kernel
theorem test_wf_lines_qual : wellFormed (.writeTableLines 0 { goodLines with release3 := ⟨0, 5⟩ }) = false := by decide +kernel
theorem test_wf_lines_level : wellFormed (.writeTableLines 0 { goodLines with fault0 := ⟨2, 0⟩ }) = false := by decide +kernel
theorem test_wf_burst : wellFormed (.writeTableMemport 0 17) = false := by decide +kernel
theorem test_wf_burst_index : wellFormed (.writeTableMemport 1 16) = false := by decide +kernel
theorem test_wf_group_number : (wellFormed (.groupStart 8) || wellFormed (.groupStopDiscard 8) || wellFormed (.groupStopFlush 8) ||
  wellFormed (.sealBatch 8) || wellFormed (.release 8) || wellFormed (.readStatus 8) || wellFormed (.readStatusClear 8) ||
  wellFormed (.forceFault 8) || wellFormed (.clearFault 8 0)) = false := by decide +kernel
theorem test_wf_force : wellFormed (.clearFault 0 2) = false := by decide +kernel
theorem test_wf_watch_number : (wellFormed (.armWatch 12) || wellFormed (.disarmWatch 12) || wellFormed (.setReference 12 0 0)) =
  false := by decide +kernel
theorem test_wf_base_number : (wellFormed (.timebaseStart 3) || wellFormed (.timebaseStop 3) || wellFormed (.timebaseZero 3)) =
  false := by decide +kernel
theorem test_wf_word : (wellFormed (.peek 4194304) || wellFormed (.poke 4194304 0 0)) = false := by decide +kernel

/-! ### Frames written out -/

/-- R150's check values. -/
theorem test_crc : Wire.crc [0x00] = 0xF3#8 ∧ Wire.crc [0x00, 0x00] = 0xD7#8 := by decide +kernel

/-- R148: bits most significant first, a last group of fewer than eight dropped. -/
theorem test_bits : Wire.bytesOfBits [true, false, false, false, false, false, false, true, true, true] = [0x81#8] := by decide +kernel

/-- 11.4: SEAL of group 5 is code 0x22 with one field byte; GROUP_STOP of group 2 with option FLUSH is code 0x21. -/
theorem test_decode_group : Wire.decodeCommand 0x22 [5] = .ok (.sealBatch 5) ∧
  Wire.decodeCommand 0x21 [2, 1] = .ok (.groupStopFlush 2) := ⟨rfl, rfl⟩

/-- 11.4, R185: PEEK of word 0x3010, and POKE of it with lanes 0 and 3 enabled, most significant byte first. -/
theorem test_decode_memory : Wire.decodeCommand 0x60 [0x00, 0x30, 0x10] = .ok (.peek 0x3010) ∧
  Wire.decodeCommand 0x61 [0x00, 0x30, 0x10, 0x12, 0x34, 0x56, 0x78, 0x09] = .ok (.poke 0x3010 0x12345678 0x9) := ⟨rfl, rfl⟩

/-- R187 WINDOW: the reference set-up's window 0 (section 10): flags enabled, read-own-writes and seal word, group 0, owner 0, base
0x8000, length 64, seal word offset 63. -/
theorem test_decode_window :
    Wire.decodeCommand 0x11 [0, 0, 0x0B, 0, 0x01, 0x00, 0x80, 0x00, 0x00, 0x00, 0x40, 0x00, 0x3F] =
      .ok (.writeTableWindow 0 {
        enabled := true, readOwn := true, foreignPass := false, sealPresent := true, group := 0, owners := 1, base := 0x8000,
        length := 64, sealOffset := 63 }) := rfl

/-- R187 TIMEBASE: divider 150 and period 1000 (section 10). -/
theorem test_decode_timebase : Wire.decodeCommand 0x11 [4, 0, 0x00, 0x96, 0x03, 0xE8, 0x00] =
  .ok (.writeTableTimebase 0 ⟨150, 1000, false⟩) := rfl

/-- R187 SAFE, WATCH and LINES, each byte its own value. -/
theorem test_decode_safe : Wire.decodeCommand 0x11 [2, 9, 0x01, 1, 0x00, 0x80, 0x02, 0xDE, 0xAD, 0xBE, 0xEF, 0x0C] =
  .ok (.writeTableSafe 9 { enabled := true, group := 1, addr := 0x8002, data := 0xDEADBEEF, mask := 0xC }) := rfl

theorem test_decode_watch :
    Wire.decodeCommand 0x11 [3, 2, 0x0B, 2, 5, 7, 0x00, 0x20, 0x40, 0x00, 0x00, 0x01, 0x00, 0x00, 0x00, 0xFF, 0x00] =
      .ok (.writeTableWatch 2 {
        trip := true, settlePresent := true, settleBaseB := false, reportRestore := true, tripGroup := 2,
        settleGroup := 5, settleLength := 7, addr := 0x2040, reference := 0x100, compareMask := 0xFF00 }) := rfl

theorem test_decode_lines : Wire.decodeCommand 0x11 [5, 0, 0, 4, 1, 16, 2, 64, 0, 0, 0, 16, 1, 4] =
  .ok (.writeTableLines 0 ⟨⟨0, 4⟩, ⟨1, 16⟩, ⟨2, 64⟩, ⟨0, 0⟩, ⟨0, 16⟩, ⟨1, 4⟩⟩) := rfl

/-- R155: an unknown code, a wrong length. -/
theorem test_decode_refused : Wire.decodeCommand 0x99 [] = .error .badCommand ∧ Wire.decodeCommand 0x22 [5, 0] = .error .badValue ∧
  Wire.decodeCommand 0x10 [7, 0] = .error .badIndex := ⟨rfl, rfl, rfl⟩

/-- R168: the first reply after a power-on reset shows status RESET. -/
theorem test_first_reply : (after .frameStart State.reset).link.frame.map (fun f => f.reply.take 3) =
  some [0x02#8, 0x00#8, 0x00#8] := by decide +kernel

/-! ### One step of each command -/

/-- 3.3, first row: a new entry is STAGED. -/
theorem test_upstream_staged :
    let t := after (.upstreamRequest 0 0 (.write 0x44332211 0xF) 0x4003)
      { part (group6 .active (some (batch 21 .opened [])) none) with freeSlots := 2 }
    t.freeSlots = 1 ∧ (t.group 6).held = 1 ∧ (t.slot 0).prepared.map (·.response) = some .staged := by decide +kernel

/-- 3.3, third row: the free list is empty. -/
theorem test_upstream_poolFull :
    let t := after (.upstreamRequest 0 0 (.write 0 0x1) 0x4002) { staging with freeSlots := 0 }
    (t.slot 0).prepared.map (·.response) = some (.refused .poolFull) ∧ (t.group 6).refused = 1 ∧
      t.events.records.map (·.body) = [.writeRefused 6 .poolFull 0] := by decide +kernel

/-- 3.3, fourth row: lanes 2 and 3 coalesce into the entry of 0x4001. -/
theorem test_upstream_coalesced :
    let t := after (.upstreamRequest 0 0 (.write 0x88770000 0xC) 0x4001) { staging with freeSlots := 0 }
    ((t.group 6).opened.map (·.entries)) = some [entry3, { entry1 with data := 0x88776655, mask := 0xF }] := by decide +kernel

/-- 3.3, last row: a seal-word write with no lane seals batch 21 and opens 22. -/
theorem test_upstream_seal :
    let t := after (.upstreamRequest 0 0 (.write 0 0x0) 0x400F) staging
    (t.group 6).other.map (·.seq) = some 21 ∧ (t.group 6).opened.map (·.seq) = some 22 ∧ (t.group 6).nextSeq = 23 ∧
      (t.slot 0).prepared.map (·.response) = some .stagedSealed := by decide +kernel

/-- 3.6, example: lanes 3, 2, 1 from the two batches, lane 0 from memory: DATA 0x992211D0. -/
theorem test_snapshot :
    let s := part (group6 .active
      (some (batch 41 .opened [{ addr := 0x4000, data := 0x99000000, mask := 0x8, position := 0 }]))
      (some (batch 40 .queued [{ addr := 0x4000, data := 0x33221100, mask := 0xE, position := 0 }])))
    s.snapshot 6 0x4000 = { value := 0x99221100, covered := 0xE } ∧
      Slot.readResponse { Slot.reset with snapshot := some (s.snapshot 6 0x4000) } 0xA0B0C0D0 = .data 0x992211D0 := by
  decide +kernel

/-- R183: UQ_TAKEN is high in the request's cycle and low after the next command. -/
theorem test_one_cycle :
    let t := after (.upstreamRequest 0 0 .read 0x4003) staging
    t.upstreamFace.taken = true ∧ (after (.tick .timeA) t).upstreamFace.taken = false := by decide +kernel

/-- R2: an issued response frees its slot. -/
theorem test_responseIssue :
    let s := State.reset.setSlot 6 { slotIn .answering .read 0x3000 0 with prepared := some { response := .done, performed := true } }
    ((after (.responseIssue 1 2) s).slot 6).state = .free ∧
      (after (.responseIssue 1 2) s).upstream.issued = some { init := 1, tag := 2, response := .done } := by decide +kernel

/-- 5.10, step 3: the second DRAIN grant of a burst of 2 hands the turn to PASS. -/
theorem test_memoryGrant :
    let t := after .memoryGrant { draining with port := { Port.reset with burst := 2, run := 1 } }
    t.port.turn = .pass ∧ t.port.run = 0 ∧ t.port.current = drainAt entry3 := by decide +kernel

/-- 5.10: a performed entry's slot returns to the free list. -/
theorem test_performed_drain :
    let t := after (.transactionPerformed false 0) { draining with port := { Port.reset with current := drainAt entry3 } }
    t.freeSlots = draining.freeSlots + 1 ∧ (t.group 6).other.map (·.entries) = some [entry1] ∧
      readByte t.mem 0x1000C = some 0x11 := by decide +kernel

/-- 8.8: the peek completes with the word the memory returns. -/
theorem test_performed_peek :
    let t := after (.transactionPerformed false 0x1F40)
      { busy (.peek 0x3010) with port := { Port.reset with current := some { requester := .peek, kind := .read, addr := 0x3010 } } }
    t.link.pending = none ∧ t.link.result = { status := .ok, echo := 0x60, data := [0, 0, 0x1F, 0x40] } := by decide +kernel

/-- 5.10, step 1: the engine takes the batch at the head of the queue. -/
theorem test_drainTakeItem :
    let t := after .drainTakeItem queued
    t.drain.current = some (.batch 6 20) ∧ t.releaseQueue = [] ∧ (t.group 6).other.map (·.state) = some .draining := by decide +kernel

/-- 5.10, step 10: with nothing returned the clearance-wait flag is set and cleared, and the engine is IDLE. -/
theorem test_endReport :
    let t := after .endReport { staging with drain := { Drain.reset with current := some (.batch 6 20), progress := .ending } }
    t.drain.current = none ∧ t.drain.clearanceWait[(6 : Fin 8)] = false := by decide +kernel

/-- R67: a tick raises the count. -/
theorem test_tick : (after (.tick .timeB) { State.reset with baseB := { TimeBase.reset with running := true } }).baseB.count = 1 := by
  decide +kernel

/-- 4.7: the period mark takes the pending period 20. -/
theorem test_periodMark :
    let t := after (.periodMark .timeA)
      { State.reset with baseA := { TimeBase.reset with running := true, period := 16, count := 15, periodIndex := 43,
                                                        pendingPeriod := some 20 } }
    t.baseA.period = 20 ∧ t.baseA.count = 0 ∧ t.baseA.periodIndex = 44 ∧ t.baseA.pendingPeriod = none := by decide +kernel

/-- Watch 2 in MISMATCH with a deferred mismatch and one settle mark to come on base A, which runs one tick before its mark. -/
def windowEnding : State :=
  { watching { watch2 (.compared .differs) 2 with marks := 1, deferred := true } with
    baseA := { TimeBase.reset with running := true, count := 1023 } }

/-- 10.4: a window that ends in MISMATCH with the flag set reports with cause SETTLE_END. -/
theorem test_settleWindowEnd :
    let t := after (.settleWindowEnd 2) windowEnding
    (t.watch 2).deferred = false ∧ t.events.records.map (·.body) = [.watchMismatch 2 .settleEnd] := by decide +kernel

/-- R145: while the settle base is STOPPED the window stays open. -/
theorem test_settleWindow_open :
    let t := after (.settleWindowEnd 2) { windowEnding with baseA := { TimeBase.reset with count := 1023 } }
    (t.watch 2).marks = 1 ∧ (t.watch 2).deferred = true ∧ t.events.records = [] := by decide +kernel

/-- R72, R73, R77: a qualified rising edge is a release point of a LINE group: its SEALED batch is queued. -/
theorem test_releaseLine :
    let s := part { group6 .active (some (batch 21 .opened [])) (some (batch 20 .closed [entry3])) with
      config := { config6 with trigger := .line, releaseLine := 2 } }
    let s := { s with releaseLines := s.releaseLines.set 2 { ReleaseLine.reset with qual := 4 } }
    (after (.releaseLineQualifiedEdge 2 true 4) s).releaseQueue = [.batch 6 20] ∧
      (after (.releaseLineQualifiedEdge 2 true 3) s).releaseQueue = [] := by decide +kernel

/-- 6.8, first row: 13 slots come back, and the safe job goes ahead of group 4's batch. -/
theorem test_faultLine :
    let gr := { group6 .active (some (batch 30 .opened [entry3, entry1])) (some (batch 29 .queued [entry3, entry1])) with
      config := { config6 with faultLine0 := true } }
    let t := after (.faultLineQualifiedEdge 0 true 1) { part gr with releaseQueue := [.batch 4 11, .batch 6 29] }
    (t.group 6).state = .safing ∧ (t.group 6).causes = 0x01 ∧ t.releaseQueue = [.safe 6, .batch 4 11] ∧ t.freeSlots = 512 ∧
      t.events.records.map (·.body) = [.faultTripped 6 .line0 0] := by decide +kernel

/-- 8.8, frames 2 and 3: a corrupted CRC, then BUSY. -/
theorem test_frameEnd_rejected :
    (after (.frameEnd (Wire.bitsOfBytes [0x23, 1, 5, 0])) (busy (.peek 0x3010))).link.notice = some { status := .badCrc, echo := 0x23 } ∧
      (after (.frameEnd (Wire.bitsOfBytes [0x23, 1, 5, Wire.crc [0x23, 1, 5]])) (busy (.peek 0x3010))).link.notice =
        some { status := .busy, echo := 0x23 } := by decide +kernel

/-- 8.8, frame 6: the next frame shifts out the link status. -/
theorem test_frameEnd_nop : (after (.frameEnd (Wire.bitsOfBytes [0, 0, 0xD7])) State.reset).link.choice = .link := by decide +kernel
theorem test_nop : (after .nop State.reset).link.choice = .link := by decide +kernel

/-- 8.8, frame 4: READ_RESULT takes the notice away and chooses the result slot. -/
theorem test_readResult :
    let t := after .readResult (after .frameStart
      { State.reset with link := { Link.reset with notice := some { status := .busy, echo := 0x23 }, choice := .notice } })
    t.link.notice = none ∧ t.link.choice = .slot := by decide +kernel

/-- R71, R187: a time base's record after a power-on reset: divider 1, period 1024. -/
theorem test_readTable : (after (.readTable 4 1) State.reset).link.result.data = [0, 1, 4, 0, 0, 0, 0, 0, 0, 0, 0, 0] := by
  decide +kernel

/-- 2.7: the first write of the window is refused, its group being ACTIVE. -/
theorem test_writeTableWindow :
    (after (.writeTableWindow 9 { badWindow with length := 16 }) staging).link.result.status = .badState ∧
      ((after (.writeTableWindow 3 { badWindow with length := 16 }) staging).windows[(3 : Fin 16)]).enabled = true := by
  decide +kernel

/-- R28: a group that is not OFF keeps its configuration. -/
theorem test_writeTableGroup :
    ((after (.writeTableGroup 1 goodGroup) State.reset).group 1).config.quota = 512 ∧
      (after (.writeTableGroup 6 goodGroup) staging).link.result.status = .badState := by decide +kernel

/-- R121: BUSY while the entry's group is SAFING. -/
theorem test_writeTableSafe : ((after (.writeTableSafe 5 goodSafe) State.reset).safeTable[(5 : Fin 128)]).addr = 4194303 ∧
  (after (.writeTableSafe 4 goodSafe) safeJob).link.result.status = .busy := by decide +kernel

theorem test_writeTableWatch : ((after (.writeTableWatch 2 goodWatch) State.reset).watch 2).settleGroup = some 7 ∧
  (after (.writeTableWatch 2 goodWatch) (watching (watch2 (.compared .agrees) 0x100))).link.result.status = .badState := by
  decide +kernel

/-- 10.1, step 3: the base is STOPPED, so the period applies at once. -/
theorem test_writeTableTimebase :
    let t := after (.writeTableTimebase 0 ⟨150, 1000, false⟩) State.reset
    t.baseA.divider = 150 ∧ t.baseA.period = 1000 ∧ t.baseA.pendingPeriod = none := by decide +kernel

/-- 10.1, step 4: fault line 0 active HIGH, qualification 16. -/
theorem test_writeTableLines :
    let t := after (.writeTableLines 0 goodLines) State.reset
    t.faultLines[(0 : Fin 2)].qual = 16 ∧ t.faultLines[(0 : Fin 2)].activeHigh = true ∧ t.lineActive 0 = false := by decide +kernel

/-- R109: the active level LOW makes a line at LOW active, which trips the groups that enable it. -/
theorem test_writeTableLines_active :
    let t := after (.writeTableLines 0 goodLines)
      (part { group6 .active none none with config := { config6 with faultLine1 := true } })
    t.lineActive 1 = true ∧ (t.group 6).state = .safing ∧ t.releaseQueue = [.safe 6] ∧
      t.events.records.map (·.body) = [.faultTripped 6 .line1 0] := by decide +kernel

theorem test_writeTableMemport : (after (.writeTableMemport 0 16) State.reset).port.burst = 16 ∧
  (after (.writeTableMemport 0 0) State.reset).link.result.status = .badValue := by decide +kernel

/-- 10.1, step 11: after a power-on reset the first batch is 0. -/
theorem test_groupStart :
    let t := after (.groupStart 6) (part { group6 .off none none with nextSeq := 0 })
    t.link.result = { status := .ok, echo := 0x20, data := [0, 0] } ∧ (t.group 6).opened.map (·.seq) = some 0 := by decide +kernel

/-- R33: quota 0 is refused. -/
theorem test_groupStart_quota : (after (.groupStart 1) State.reset).link.result.status = .badValue := by decide +kernel

/-- R35: DISCARD during a drain keeps the DRAINING batch. -/
theorem test_groupStopDiscard :
    let t := after (.groupStopDiscard 6) draining
    (t.group 6).state = .stopping ∧ (t.group 6).opened = none ∧ (t.group 6).other.isSome = true ∧ t.link.result.data = [2] := by
  decide +kernel

/-- 10.3: FLUSH with a QUEUED batch sets seal pending. -/
theorem test_groupStopFlush :
    let t := after (.groupStopFlush 6) queued
    (t.group 6).state = .stopping ∧ (t.group 6).sealPending = true ∧ t.releaseQueue = [.batch 6 20] := by decide +kernel

/-- R58: outcome SEALED with sequence 21. -/
theorem test_sealBatch : (after (.sealBatch 6) staging).link.result.data = [1, 0, 21, 0, 0, 0, 0] ∧
  (after (.sealBatch 6) queued).link.result.data = [2, 0, 21] := by decide +kernel

/-- 8.8, frame 5: outcome QUEUED with the batch's sequence. -/
theorem test_release : (after (.release 6) (twoBatches .closed)).link.result.data = [1, 0, 20] ∧
  (after (.release 6) (twoBatches .closed)).releaseQueue = [.batch 6 20] := by decide +kernel

/-- 4.7: a miss. -/
theorem test_release_miss :
    let t := after (.release 6) staging
    (t.group 6).misses = 1 ∧ t.events.records.map (·.body) = [.releaseMissed 6 21 1] := by decide +kernel

theorem test_readStatus : (after (.readStatus 6) staging).link.result.data.head? = some 1 ∧
  (after (.readStatus 6) staging).link.result.data.length = 37 := by decide +kernel

/-- 10.5, step 8: the clear option returns the counters to 0. -/
theorem test_readStatusClear :
    let t := after (.readStatusClear 6) (part { group6 .faulted none none with trips := 2, refusalReported := true })
    (t.group 6).trips = 0 ∧ (t.group 6).refusalReported = false := by decide +kernel

/-- 6.8, second row: outcome ADDED, no record. -/
theorem test_forceFault :
    let t := after (.forceFault 6) (part { group6 .safing none none with causes := 0x01, trips := 1 })
    (t.group 6).causes = 0x41 ∧ (t.group 6).trips = 2 ∧ t.link.result.data = [2] ∧ t.events.records = [] := by decide +kernel

/-- 7.7, last row: cleared, with a new OPEN batch. -/
theorem test_clearFault :
    let t := after (.clearFault 6 0) (plain .faulted)
    (t.group 6).state = .active ∧ (t.group 6).opened.map (·.seq) = some 22 ∧
      t.events.records.map (·.body) = [.faultCleared 6 22 .command false] := by decide +kernel

/-- R133: a probe at the tail of the service list. -/
theorem test_armWatch :
    let t := after (.armWatch 2) State.reset
    t.port.service = [.probe 2] ∧ (t.watch 2).state = .arming .arm := by decide +kernel

/-- R136: a raised probe is withdrawn. -/
theorem test_disarmWatch : (after (.disarmWatch 2) (after (.armWatch 2) State.reset)).port.service = [] := by decide +kernel

/-- 7.7: the probe of the re-arm finds the word again. -/
theorem test_probe_rearm :
    let t := after (.transactionPerformed false 0x12340100)
      (probing { watch2 (.arming (.reArm .differs)) 0x12340256 with probe := .inFlight })
    (t.watch 2).state = .compared .agrees ∧
      t.events.records.map (·.body) = [.watchArmed 2 .agrees true, .watchRestored 2] := by decide +kernel

/-- Watches 2 and 3 on one word, both TRIP, watch 2 for group 6 and watch 3 for group 1. -/
def twoTrips : State :=
  let x := { watch2 (.compared .agrees) 0x12340156 with action := .trip, tripGroup := 6 }
  let s := part (group6 .active none none)
  { s with
    groups := s.groups.set 1 { Group.reset with state := .active }
    watches := (State.reset.watches.set 2 x).set 3 { x with tripGroup := 1 } }

/-- R83: the safe jobs that one landed write queues stand in increasing order of group number, the records in watch order (R140). -/
theorem test_trips_in_order :
    let t := after (.transactionPerformed false 0) (passAt twoTrips (.write 0x200 0x2) 0x2040)
    t.releaseQueue = [.safe 1, .safe 6] ∧ (t.watch 3).state = .compared .differs ∧ (t.group 1).state = .safing := by decide +kernel

/-- R143: a new reference is compared at once. -/
theorem test_setReference : (after (.setReference 2 0x200 0xFF00) (watching (watch2 (.compared .agrees) 0x12340156))).link.result.data =
  [3] := by decide +kernel

theorem test_timebaseStart : (after (.timebaseStart 2) State.reset).baseA.running = true ∧
  (after (.timebaseStart 2) State.reset).baseB.running = true := by decide +kernel
theorem test_timebaseStop :
  (after (.timebaseStop 0) { State.reset with baseA := { TimeBase.reset with running := true, count := 5 } }).baseA.count = 5 ∧
  (after (.timebaseStop 0) State.reset).link.result.status = .badState := by decide +kernel
theorem test_timebaseZero :
  (after (.timebaseZero 1) { State.reset with baseB := { TimeBase.reset with count := 5, periodIndex := 3 } }).baseB.count = 0 := by
  decide +kernel

/-- The records of 9.2's example: a full queue loses a record, and the next one stored carries the count. -/
def fullQueue : State :=
  { State.reset with
    events := { records := List.replicate 32 { body := .watchRestored 1, stampCount := 0, stampIndex := 88, lost := 0 }, lost := 1 } }

/-- 9.2, example: 31 remain after POP_EVENT. -/
theorem test_popEvent : (after .popEvent fullQueue).events.records.length = 31 ∧
  (after .popEvent fullQueue).link.result.data.take 2 = [1, 31] := by decide +kernel

/-- 9.2, example: dropped for lack of room; stored at the tail with lost 2. -/
theorem test_lost :
    (fullQueue.submit (.watchMismatch 5 .write)).events.lost = 2 ∧
    (((after .popEvent { fullQueue with events := { fullQueue.events with lost := 2 } }).submit
      (.watchRestored 5)).events.records.getLast?.map (·.lost)) = some 2 := by decide +kernel

/-- 8.8, frame 1: the peek is pending. -/
theorem test_peek : (after (.peek 0x3010) State.reset).link.pending = some (.peek 0x3010) ∧
  (after (.peek 0x3010) State.reset).port.service = [.peek 0x3010] := by decide +kernel

/-- R164: a word of a group that is not OFF is refused. -/
theorem test_poke : (after (.poke 0x4003 1 0xF) staging).link.result.status = .badState ∧
  (after (.poke 0x3010 1 0xF) staging).link.pending = some (.poke 0x3010 1 0xF) := by decide +kernel

/-- R166, R178: with nothing under way the reset completes at once and leaves one PART_RESET record. -/
theorem test_softReset :
    let t := after .softReset staging
    t.link.pending = none ∧ t.freeSlots = 512 ∧ (t.group 6).state = .off ∧ (t.group 6).nextSeq = 22 ∧
      t.events.records.map (·.body) = [.partReset 0] := by decide +kernel

/-- R165: with a drain under way the command stays PENDING. -/
theorem test_softReset_pending : (after .softReset draining).link.pending = some .softReset ∧
  ((after .softReset draining).group 6).state = .stopping := by decide +kernel

theorem test_softResetComplete :
    let s := busy .softReset
    (after .softResetComplete { s with link := { s.link with reports := ⟨true, true, true, true⟩ } }).link.pending = none ∧
      after .softResetComplete s = s := by decide +kernel

/-- R20, R64: every slot FREE, every batch gone, the pool whole. -/
theorem test_powerOnReset :
    let t := after .powerOnReset draining
    t.inReset = true ∧ t.freeSlots = 512 ∧ (t.group 6).other = none ∧ t.drain.current = none := by decide +kernel

/-- R72, R109: the qualified levels take the pins, with no edge. -/
theorem test_powerOnResetEnd :
    let t := after (.powerOnResetEnd 0x4 0x1) (after .powerOnReset State.reset)
    t.inReset = false ∧ t.releaseLines[(2 : Fin 4)].level = true ∧ t.lineActive 0 = true ∧ t.events.records = [] := by decide +kernel

/-! ### Witnesses: for each obligation with hypotheses, states and operands that meet them -/

/-- Group 6 as a timed group on B, skip 1, with a phase. -/
def timed (phase skip : Nat) (state : GroupState) : State :=
  { part { group6 state none none with
      config := { config6 with trigger := .timed, base := .timeB, phase := phase, skip := 1 }, skipRemaining := skip } with
    baseB := { TimeBase.reset with running := true, period := 16, count := 4 } }

theorem witness_StepRunsFront : ({ staging with pending := [.nop, .memoryGrant] } : State).pending = .nop :: [.memoryGrant] := rfl

theorem witness_IdleQueueCycle :
    staging.pending = [] ∧ staging.inReset = false ∧
    (∃ s : State, s.pending = [] ∧ s.inReset = true) ∧
    (let s := { staging with baseA := { TimeBase.reset with running := true, divider := 2 } }
     (s.baseA.running = true → s.baseA.interval + 1 < s.baseA.divider) ∧
      (s.baseB.running = true → s.baseB.interval + 1 < s.baseB.divider) ∧
      (∀ n : Fin 4, s.releaseLines[n].pin = s.releaseLines[n].level) ∧ ∀ n : Fin 2, s.faultLines[n].pin = s.faultLines[n].level) ∧
    (let s := { staging with baseA := { TimeBase.reset with running := true, divider := 150, interval := 149, count := 1022 } }
     s.baseA.running = true ∧ s.baseB.running = false ∧ s.baseA.divider ≤ s.baseA.interval + 1 ∧
      s.baseA.count + 1 < s.baseA.period ∧
      ∀ g : Fin 8, (s.group g).config.trigger = .timed → (s.group g).config.base = .timeA →
        (s.group g).config.phase ≠ s.baseA.count + 1) :=
  ⟨rfl, rfl, ⟨{ staging with inReset := true }, rfl, rfl⟩, by decide +kernel, by decide +kernel⟩

theorem witness_PowerOnReset : State.reset.inReset = false ∧ (after .powerOnReset draining).inReset = true := by decide +kernel

theorem witness_SoftResetAtOnce :
    LinkReady staging ∧ (∀ i : Fin 16, (staging.slot i).state = .free) ∧ staging.drain.current = none ∧
      staging.port.current = none ∧ ∀ g : Fin 8, (staging.group g).draining = false := by decide +kernel

theorem witness_SoftResetTaken :
    LinkReady draining ∧
    (let s := { busy .softReset with link := { (busy .softReset).link with reports := ⟨true, true, true, true⟩ } }
     s.link.pending = some .softReset ∧ s.link.reports = { upstream := true, drain := true, port := true, watches := true }) ∧
    State.reset.link.pending ≠ some .softReset ∧
    (LinkReady staging ∧ (∀ i : Fin 16, (staging.slot i).state = .free) ∧ staging.drain.current = none ∧ staging.port.current = none) ∧
    (PeekPokeOk (busy .softReset) ∧ (busy .softReset).link.pending = some .softReset ∧
      exec .endReport (busy .softReset) = .next (after .endReport (busy .softReset))) :=
  ⟨by decide +kernel, by decide +kernel, by decide +kernel, by decide +kernel, by decide +kernel, by decide +kernel, rfl⟩

theorem witness_RequestTurnedAway :
    (busy .softReset).link.pending = some .softReset ∧ (after .powerOnReset staging).inReset = true ∧
    (let s := staging.setSlot 0 (slotIn .queued .read 5 0)
     s.inReset = false ∧ s.link.pending ≠ some .softReset ∧ (s.slot (slotOf 0 0)).state ≠ .free) := by decide +kernel

theorem witness_RequestPassedOrHeld :
    (Accepts staging 0 0 ∧ staging.windowOf 0x4010 = none) ∧
    (let s := plain .off
     Accepts s 3 3 ∧ s.windowOf 0x400F = some s.windows[(9 : Fin 16)] ∧ ¬ Holds s s.windows[(9 : Fin 16)] 0x400F ∧
      (s.group s.windows[(9 : Fin 16)].group).state = .off) ∧
    (staging.windowOf 0x4000 = some staging.windows[(9 : Fin 16)] ∧ ¬ Holds staging staging.windows[(9 : Fin 16)] 0x4000 ∧
      staging.windows[(9 : Fin 16)].owners.getLsbD (1 : BitVec 2).toNat = false) ∧
    (let s := { staging with windows := staging.windows.set 9 { window9 with readOwn := false, foreign := .pass } }
     s.windowOf 0x4000 = some s.windows[(9 : Fin 16)] ∧ ¬ Holds s s.windows[(9 : Fin 16)] 0x4000 ∧
      s.windows[(9 : Fin 16)].readOwn = false ∧ s.windows[(9 : Fin 16)].foreign = .pass) ∧
    (Accepts draining 0 0 ∧ draining.windowOf 0x4000 = some draining.windows[(9 : Fin 16)] ∧
      Holds draining draining.windows[(9 : Fin 16)] 0x4000) ∧
    (let s := { staging with upstream := { staging.upstream with
        slots := staging.upstream.slots.set 5 (slotIn .held .read 0x4000 0), holdList := [5], nextOrder := 1 } }
     Accepts s 0 0 ∧ s.windowOf 0x4000 = some s.windows[(9 : Fin 16)] ∧ HeldEarlier s 0x4000) := by decide +kernel

/-- The hypotheses of the owner's statements at window 9 and a word of it. -/
abbrev OwnerAt (s : State) (a : WordAddr) : Prop :=
  Accepts s 0 0 ∧ s.windowOf a = some s.windows[(9 : Fin 16)] ∧ ¬ Holds s s.windows[(9 : Fin 16)] a ∧
    (s.group s.windows[(9 : Fin 16)].group).state ≠ .off ∧
    s.windows[(9 : Fin 16)].owners.getLsbD (0 : BitVec 2).toNat = true ∧ s.windows[(9 : Fin 16)].readOwn = true

/-- One word for each of the three outcomes. -/
theorem witness_OwnerReadForwarded :
    (OwnerAt staging 0x4002 ∧ (staging.snapshot 6 0x4002).covered = 0x0#4) ∧
    (OwnerAt staging 0x4003 ∧ (staging.snapshot 6 0x4003).covered = 0xF#4) ∧
    (OwnerAt staging 0x4001 ∧ (staging.snapshot 6 0x4001).covered = 0x3#4) := by decide +kernel

/-- The OPEN batch's lane, the other batch's lane, and no batch's. -/
theorem witness_SnapshotLanes :
    (entryOf (staging.group 6).opened 0x4001 = some entry1 ∧ entry1.mask.getLsbD 0 = true) ∧
    (entryOf (queued.group 6).opened 0x4001 = none ∧ entryOf (queued.group 6).other 0x4001 = some entry1 ∧
      entry1.mask.getLsbD 1 = true ∧ entry1.mask.getLsbD 3 = false) := by decide +kernel

theorem witness_WriteRefused :
    (OwnerAt (plain .stopping) 0x4000 ∧ ownerRefusal ((plain .stopping).group 6).state = some .stopping) ∧
    (OwnerAt (plain .faulted) 0x4000 ∧ ownerRefusal ((plain .faulted).group 6).state = some .faulted) ∧
    (Accepts staging 1 0 ∧ staging.windows[(9 : Fin 16)].owners.getLsbD (1 : BitVec 2).toNat = false ∧
      staging.windows[(9 : Fin 16)].foreign = .refuse) ∧
    (let s := part { group6 .active (some (batch 21 .opened [entry3, entry1])) none with
        config := { config6 with quota := 2, overflow := .trip } }
     OwnerAt s 0x4002 ∧ (s.group 6).opened = some (batch 21 .opened [entry3, entry1]) ∧
      Joins (batch 21 .opened [entry3, entry1]) 0x4002 0x1 ∧ (s.group 6).config.quota ≤ (s.group 6).held) ∧
    (let s := { staging with freeSlots := 0 }
     OwnerAt s 0x4002 ∧ (s.group 6).opened = some (batch 21 .opened [entry3, entry1]) ∧ s.freeSlots = 0 ∧
      ¬ (s.group 6).config.quota ≤ (s.group 6).held) :=
  ⟨by decide +kernel, by decide +kernel, by decide +kernel, by decide +kernel, by decide +kernel⟩

/-- A new entry, a coalesced one and a write with no lane; the seal word with and without another batch. -/
theorem witness_WriteStaged :
    (OwnerAt staging 0x4002 ∧ staging.windows[(9 : Fin 16)].isSealWord 0x4002 = false ∧ (staging.group 6).state = .active ∧
      (staging.group 6).opened = some (batch 21 .opened [entry3, entry1]) ∧
      Joins (batch 21 .opened [entry3, entry1]) 0x4002 0x1 ∧ (staging.group 6).held < (staging.group 6).config.quota ∧
      staging.freeSlots ≠ 0) ∧
    (OwnerAt staging 0x4001 ∧ ¬ Joins (batch 21 .opened [entry3, entry1]) 0x4001 0xC ∧
      ¬ Joins (batch 21 .opened [entry3, entry1]) 0x4002 0x0) ∧
    (OwnerAt staging 0x400F ∧ staging.windows[(9 : Fin 16)].isSealWord 0x400F = true ∧ (staging.group 6).other = none) ∧
    (OwnerAt queued 0x400F ∧ queued.windows[(9 : Fin 16)].isSealWord 0x400F = true ∧ (queued.group 6).state = .active ∧
      (queued.group 6).opened = some (batch 21 .opened []) ∧ (queued.group 6).other ≠ none) :=
  ⟨by decide +kernel, by decide +kernel, by decide +kernel, by decide +kernel⟩

/-- Two requests of initiator 1 for one word, in slots 4 and 6, the first in a state. -/
def twoRequests (first : SlotState) : State :=
  (State.reset.setSlot 4 (slotIn first .read 0x3000 0)).setSlot 6
    { slotIn .answering .read 0x3000 1 with prepared := some { response := .done, performed := true } }

theorem witness_ResponseIssued :
    (State.reset.slot (slotOf 0 0)).state ≠ .answering ∧
    (let s := twoRequests .queued
     (s.slot 6).state = .answering ∧ (s.slot 6).prepared = some { response := .done, performed := true } ∧
      ∃ j : Fin 16, j ≠ 6 ∧ (s.slot j).state ≠ .free ∧ j.val / 4 = (6 : Fin 16).val / 4 ∧ (s.slot j).addr = (s.slot 6).addr ∧
        (s.slot j).order < (s.slot 6).order) ∧
    (let s := twoRequests .free
     (s.slot 6).state = .answering ∧
      ∀ j : Fin 16, j ≠ 6 → (s.slot j).state ≠ .free → j.val / 4 = (6 : Fin 16).val / 4 → (s.slot j).addr = (s.slot 6).addr →
        (s.slot 6).order ≤ (s.slot j).order) ∧
    (let s := { twoRequests .free with link := (busy .softReset).link }
     s.link.pending = some .softReset ∧ (s.slot 6).state = .answering) := by decide +kernel

theorem witness_OneResponse :
    let s := twoRequests .free
    let t := after (.responseIssue 1 2) s
    (∀ j : Fin 16, SlotOk (s.slot j)) ∧ ListsOk s ∧ PortFits s ∧ exec (.responseIssue 1 2) s = .next t ∧
      (s.slot 6).state ≠ .free ∧ (t.slot 6).state = .free := by
  refine ⟨by decide +kernel, by decide +kernel, by decide +kernel, rfl, by decide +kernel, by decide +kernel⟩

/-- A part whose pass queue holds slot 0. -/
def passing : State :=
  { State.reset with upstream := { Upstream.reset with slots := Upstream.reset.slots.set 0 (slotIn .queued .read 5 0), passQueue := [0] } }

/-- A part whose service list holds this request. -/
def serving (r : ServiceRequest) : State := { State.reset with port := { Port.reset with service := [r] } }

theorem witness_ArbiterGrants :
    State.reset.inReset = false ∧ (passAt State.reset .read 5).port.current ≠ none ∧ granted State.reset = none ∧
    (granted draining = some .drain ∧ draining.drainWrite = some (0x4003, 0x44332211, 0xF)) ∧
    (granted passing = some .pass ∧ passing.upstream.passQueue = [0]) ∧
    (granted (serving (.probe 2)) = some .service ∧ (serving (.probe 2)).serviceFront = some (.probe 2)) ∧
    (granted (serving (.peek 5)) = some .service ∧ (serving (.peek 5)).serviceFront = some (.peek 5)) ∧
    (granted (serving (.poke 5 1 0xF)) = some .service ∧ (serving (.poke 5 1 0xF)).serviceFront = some (.poke 5 1 0xF)) := by
  decide +kernel

theorem witness_HeldWordsNotGranted :
    HoldOk draining ∧ draining.port.current = none ∧ draining.drain.current = some (.batch 6 20) := by decide +kernel

/-- A read and a write at the port, and a byte inside and outside the word, at the top of the SRAM. -/
theorem witness_MemoryAnswer :
    (let s := passAt State.reset .read 0x3FFFFF
     MemoryOk s ∧ s.port.current = some { requester := .pass 0, kind := .read, addr := 0x3FFFFF }) ∧
    (let s := passAt State.reset (.write 1 0x1) 0
     MemoryOk s ∧ s.port.current = some { requester := .pass 0, kind := .write 1 0x1, addr := 0 }) ∧
    16777215 / 4 = (0x3FFFFF : WordAddr).toNat ∧ 4 / 4 ≠ (0 : WordAddr).toNat := by decide +kernel

theorem witness_PassAnswered :
    State.reset.port.current = none ∧
    (let s := passAt State.reset (.write 1 0xF) 5
     s.port.current = some { requester := .pass 0, kind := (s.slot 0).kind, addr := (s.slot 0).addr }) := by decide +kernel

theorem witness_PeekPokePerformed :
    (let s := { busy (.peek 5) with port := { Port.reset with current := some { requester := .peek, kind := .read, addr := 5 } } }
     s.link.pending = some (.peek 5) ∧ s.port.current = some { requester := .peek, kind := .read, addr := 5 } ∧ ClearanceOk s) ∧
    (let s := { busy (.poke 5 1 0xF) with
        port := { Port.reset with current := some { requester := .poke, kind := .write 1 0xF, addr := 5 } } }
     s.link.pending = some (.poke 5 1 0xF) ∧ s.port.current = some { requester := .poke, kind := .write 1 0xF, addr := 5 } ∧
      ClearanceOk s ∧ Unwatched s 5) := by decide +kernel

theorem witness_LandedWriteAtWatches :
    let s := passAt (watching (watch2 (.compared .agrees) 0x12340156)) (.write 0x200 0x2) 0x2040
    s.port.current = some { requester := .pass 0, kind := .write 0x200 0x2, addr := 0x2040 } ∧
      (s.watch 2).state = .compared .agrees ∧ (s.watch 2).addr = 0x2040 ∧ Requester.pass 0 ≠ .drain ∧
      (∀ f, (s.watch 3).state ≠ .compared f) := by
  refine ⟨by decide +kernel, by decide +kernel, by decide +kernel, by decide, fun f h => ?_⟩
  revert h; cases f <;> decide +kernel

/-- Section 7.7's watch, for each of the four transitions, in and out of a settle window. -/
theorem witness_MismatchReported :
    let s := fun (x : Watch) (d : Word) => passAt (watching x) (.write d 0x2) 0x2040
    let x := watch2 (.compared .agrees) 0x12340156
    let y := watch2 (.compared .differs) 0x12340256
    ((s x 0x100).slot 0).kind = .write 0x100 0x2 ∧ ((s x 0x100).slot 0).addr = x.addr ∧
      (s x 0x100).port.current = some { requester := .pass 0, kind := ((s x 0x100).slot 0).kind, addr := ((s x 0x100).slot 0).addr } ∧
      (∀ v : Fin 12, v ≠ 2 → ((s x 0x100).watch v).addr = x.addr →
        ((s x 0x100).watch v).state ≠ .compared .agrees ∧ ((s x 0x100).watch v).state ≠ .compared .differs) ∧
      x.compare (mergeLanes 0x2 x.shadow 0x100) = .agrees ∧ x.compare (mergeLanes 0x2 x.shadow 0x200) = .differs ∧
      y.compare (mergeLanes 0x2 y.shadow 0x100) = .agrees ∧ y.compare (mergeLanes 0x2 y.shadow 0x200) = .differs ∧
      x.marks = 0 ∧ ({ x with marks := 15 } : Watch).marks ≠ 0 := by decide +kernel

theorem witness_ProbeAnswered :
    (let s := probing { watch2 (.arming .arm) 0 with probe := .inFlight }
     s.port.current = some { requester := .probe 2, kind := .read, addr := (s.watch 2).addr } ∧ ClearanceOk s ∧
      (s.watch 2).state = .arming .arm ∧ (s.watch 2).probe = .inFlight) ∧
    (let s := probing { watch2 .disarmed 0 with probe := .orphaned, addr := 0x2041 }
     s.port.current = some { requester := .probe 2, kind := .read, addr := 0x2040 } ∧ ClearanceOk s ∧ (s.watch 2).probe ≠ .inFlight ∧
      (s.watch 2).addr ≠ 0x2040) ∧
    (∀ prior : Fin 2, let s := probing { watch2 (.arming (.reArm (if prior = 0 then .agrees else .differs))) 0 with probe := .inFlight }
      (s.watch 2).state = .arming (.reArm (if prior = 0 then .agrees else .differs)) ∧ (s.watch 2).probe = .inFlight ∧
        ClearanceOk s ∧ (s.watch 2).compare (readWord s.mem 0x2040 0x12340100) = .agrees ∧
        (s.watch 2).compare (readWord s.mem 0x2040 0x12340200) = .differs) := by decide +kernel

/-- No window open, two marks to come, a STOPPED base; a mark due at A, at B by its own count, and at B by A's restart. -/
theorem witness_SettleWindowEnds :
    ((watch2 (.compared .agrees) 0).marks ≠ 1 ∧ ({ watch2 (.compared .agrees) 0 with marks := 2 } : Watch).marks ≠ 1) ∧
    ((windowEnding.watch 2).marks = 1 ∧ (windowEnding.watch 2).state = .compared .differs ∧ (windowEnding.watch 2).deferred = true ∧
      MarkDue windowEnding .timeA) ∧
    (let x := { watch2 (.compared .agrees) 0 with marks := 1 }
     x.marks = 1 ∧ (x.state ≠ .compared .differs ∨ x.deferred = false)) ∧
    ¬ MarkDue { windowEnding with baseA := { TimeBase.reset with count := 1023 } } .timeA ∧
    ¬ MarkDue { windowEnding with baseB := { TimeBase.reset with bLock := true, count := 7 } } .timeB ∧
    MarkDue { windowEnding with baseB := { TimeBase.reset with running := true, bLock := true, count := 7 } } .timeB ∧
    MarkDue { State.reset with baseB := { TimeBase.reset with running := true, count := 1023 } } .timeB := by
  unfold MarkDue
  exact ⟨by decide +kernel, by decide +kernel, by decide +kernel, by decide +kernel, by decide +kernel, by decide +kernel,
    by decide +kernel⟩

theorem witness_WatchCommands :
    LinkReady State.reset ∧ (State.reset.watch 11).state = .disarmed ∧
    LinkReady (watching (watch2 (.compared .agrees) 0x100)) ∧ ((watching (watch2 (.compared .agrees) 0x100)).watch 2).state ≠ .disarmed ∧
    (let y : Watch := { watch2 (.compared .agrees) 0x100 with reference := 0x200 }
     y.compare 0x100 = .differs) ∧
    (let y : Watch := { watch2 (.compared .differs) 0x100 with reference := 0x100 }
     y.compare 0x100 = .agrees) := by decide +kernel

/-- Group 6 ACTIVE, its other batch 20 QUEUED with no entries. -/
def emptyQueued : State :=
  { part (group6 .active (some (batch 21 .opened [])) (some (batch 20 .queued []))) with releaseQueue := [.batch 6 20] }

/-- R93, R94: a batch with no entries retires as it is taken. -/
theorem test_emptyBatch :
    let t := after .drainTakeItem emptyQueued
    t.drain.progress = .ending ∧ (t.group 6).other = none ∧ (t.group 6).retirement.lastSeq = some 20 ∧
      t.events.records.map (·.body) = [.batchRetired 6 20 (some .sealWord) 0] := by decide +kernel

theorem witness_ItemTaken :
    (queued.inReset = false ∧ queued.drain.current = none ∧ queued.releaseQueue = [] ++ .batch 6 20 :: [] ∧
      (∀ it ∈ queued.releaseQueue, it.isSafe = false) ∧ queued.drain.clearanceWait[(6 : Fin 8)] = false ∧
      (queued.group 6).other = some (batch 20 .queued [entry3, entry1]) ∧ (batch 20 .queued [entry3, entry1]).entries ≠ []) ∧
    (let s := emptyQueued
     s.inReset = false ∧ s.drain.current = none ∧ s.releaseQueue = [] ++ .batch 6 20 :: [] ∧
      (∀ it ∈ s.releaseQueue, it.isSafe = false) ∧ s.drain.clearanceWait[(6 : Fin 8)] = false ∧
      (s.group 6).other = some (batch 20 .queued []) ∧ (batch 20 .queued []).entries = [] ∧
      (s.group 6).config.drainError = .quiet ∧ (batch 20 .queued []).errorsSeen = 0) ∧
    (let s := { safeJob with drain := Drain.reset, releaseQueue := [.safe 6] }
     s.inReset = false ∧ s.drain.current = none ∧ s.releaseQueue = [] ++ .safe 6 :: [] ∧
      s.drain.clearanceWait[(6 : Fin 8)] = false ∧
      s.safeTable[(4 : Fin 128)].enabled = true ∧ s.safeTable[(4 : Fin 128)].group = 6 ∧
      ∀ j : Fin 128, j < 4 → ¬ (s.safeTable[j].enabled = true ∧ s.safeTable[j].group = 6)) ∧
    (∀ k : Fin 128, ¬ (staging.safeTable[k].enabled = true ∧ staging.safeTable[k].group = 6)) ∧
    draining.drain.current ≠ none ∧ (∀ it ∈ staging.releaseQueue, staging.drain.clearanceWait[it.group] = true) ∧
    (let s := { safeJob with drain := { Drain.reset with clearanceWait := Vector.replicate 8 true },
                             releaseQueue := [.safe 6, .batch 4 11] }
     ∀ it ∈ s.releaseQueue, s.drain.clearanceWait[it.group] = true ∨
        (it.isSafe = false ∧ ∃ j ∈ s.releaseQueue, j.isSafe = true)) := by decide +kernel

theorem witness_EntryWritten :
    (let s := { draining with port := { Port.reset with current := drainAt entry3 } }
     s.drain.current = some (.batch 6 20) ∧ (s.group 6).other = some (batch 20 .draining [entry3, entry1]) ∧
      (batch 20 .draining [entry3, entry1]).entries = entry3 :: entry1 :: [] ∧ s.port.current = drainAt entry3 ∧
      Unwatched s entry3.addr ∧ ClearanceOk s) ∧
    (let s := { safeJob with port := { Port.reset with
        current := some { requester := .drain, kind := .write 0xCAFE0001 0xF, addr := 0x4000 } } }
     s.drain.current = some (.safe 6) ∧ s.drain.safeNext = 4 ∧ Unwatched s 0x4000 ∧ ClearanceOk s ∧
      s.safeTable[(9 : Fin 128)].enabled = true ∧ s.safeTable[(9 : Fin 128)].group = 6 ∧
      (∀ j : Fin 128, 4 < j → j < 9 → ¬ (s.safeTable[j].enabled = true ∧ s.safeTable[j].group = 6)) ∧
      (∀ n : Fin 128, 9 < n → ¬ (s.safeTable[n].enabled = true ∧ s.safeTable[n].group = 6))) := by decide +kernel

/-- The draining part, with the write of its first entry at the port. -/
def drainGranted : State := { draining with port := { Port.reset with current := drainAt entry3 } }

theorem batchesOk_drainGranted : BatchesOk drainGranted :=
  ⟨by decide +kernel, by decide +kernel, by decide +kernel, by decide +kernel, by decide +kernel⟩

/-- The entry list stays over a NOP, and loses its first entry at the performance. -/
theorem witness_DrainingKept :
    BatchesOk drainGranted ∧ exec .nop drainGranted = .next (after .nop drainGranted) ∧
      exec (.transactionPerformed true 0) drainGranted = .next (after (.transactionPerformed true 0) drainGranted) ∧
      (drainGranted.group 6).other = some (batch 20 .draining [entry3, entry1]) :=
  ⟨batchesOk_drainGranted, rfl, rfl, rfl⟩

/-- The last entry at the port: the group ACTIVE, STOPPING, or with its seal pending; and under drain-error policy TRIP. -/
theorem witness_BatchRetires :
    (let s := { drainingOf [entry1] with port := { Port.reset with current := drainAt entry1 } }
     s.drain.current = some (.batch 6 20) ∧ (s.group 6).other = some (batch 20 .draining [entry1]) ∧
      s.port.current = drainAt entry1 ∧ Unwatched s entry1.addr ∧ ClearanceOk s ∧
      (s.group 6).config.drainError = .quiet ∧ (s.group 6).sealPending = false ∧ (s.group 6).state ≠ .stopping) ∧
    (∀ k : Fin 3,
      let s := { part { group6 (if k = 0 then .active else .stopping) (if k = 1 then none else some (batch 21 .opened []))
                          (some (batch 20 .draining [entry1])) with sealPending := k != 1 } with
        drain := { Drain.reset with current := some (.batch 6 20) }, port := { Port.reset with current := drainAt entry1 } }
      s.port.current = drainAt entry1 ∧ ClearanceOk s ∧ (s.group 6).other = some (batch 20 .draining [entry1]) ∧
        (s.group 6).config.drainError = .quiet ∧ (s.group 6).sealPending = (k != 1) ∧
        (s.group 6).state = (if k = 0 then .active else .stopping)) ∧
    (let gr := { group6 .active (some (batch 21 .opened [])) (some (batch 20 .draining [entry1])) with
        config := { config6 with drainError := .trip } }
     let s := { part gr with
       drain := { Drain.reset with current := some (.batch 6 20) }, port := { Port.reset with current := drainAt entry1 } }
     s.link.pending = none ∧ (s.group 6).config.drainError = .trip ∧ (s.group 6).state = .active ∧
      (s.group 6).sealPending = false ∧ Unwatched s entry1.addr) := by decide +kernel

/-- A part at the end of group 6's item, with a held write of the owner in slot 0 and a held read of initiator 1 in slot 5. -/
def endingOf (gr : Group) : State :=
  { part gr with
    drain := { Drain.reset with current := some (.batch 6 20), progress := .ending }
    upstream := { Upstream.reset with
      slots := (Upstream.reset.slots.set 0 (slotIn .held (.write 7 0xF) 0x4000 0)).set 5 (slotIn .held .read 0x4001 1)
      holdList := [0, 5], nextOrder := 2 } }

/-- The same with no batch in the group. -/
def ending (state : GroupState) : State := endingOf (group6 state none none)

/-- The same with an ACTIVE group and its OPEN batch, or a STOPPING one with its last batch QUEUED. -/
def endingActive : State := endingOf (group6 .active (some (batch 21 .opened [])) none)
def endingStopping : State := endingOf (group6 .stopping none (some (batch 21 .queued [entry1])))

/-- R18: into an ACTIVE group the owner's held write is staged and the foreign held read returns to memory; into a STOPPING one the
write is refused with cause STOPPING. -/
theorem test_endReport_held :
    let t := after .endReport endingActive
    let u := after .endReport endingStopping
    ((t.slot 0).prepared.map (·.response) = some .staged ∧ t.freeSlots = 511 ∧ t.upstream.passQueue = [5] ∧
      t.drain.clearanceWait[(6 : Fin 8)] = true) ∧
    (u.slot 0).prepared.map (·.response) = some (.refused .stopping) := by decide +kernel

theorem requestsOk_endingActive : RequestsOk endingActive :=
  ⟨by decide +kernel, by decide +kernel, by decide +kernel, by decide +kernel, by decide +kernel⟩

theorem requestsOk_endingStopping : RequestsOk endingStopping :=
  ⟨by decide +kernel, by decide +kernel, by decide +kernel, by decide +kernel, by decide +kernel⟩

theorem requestsOk_ending (state : GroupState) (h : state = .off ∨ state = .faulted) : RequestsOk (ending state) := by
  rcases h with rfl | rfl <;>
    exact ⟨by decide +kernel, by decide +kernel, by decide +kernel, by decide +kernel, by decide +kernel⟩

theorem witness_EndReported :
    RequestsOk (ending .off) ∧ (ending .off).link.pending ≠ some .softReset ∧ (ending .off).drain.current = some (.batch 6 20) ∧
      (ending .off).drain.progress = .ending ∧ (ending .off).drain.clearanceWait[(6 : Fin 8)] = false ∧
      (ending .off).upstream.holdList ≠ [] ∧ ((ending .off).group 6).state = .off ∧
    (let s := { staging with drain := { Drain.reset with current := some (.batch 6 20), progress := .ending } }
     RequestsOk s ∧ s.upstream.holdList = []) ∧
    (RequestsOk endingActive ∧ endingActive.drain.progress = .ending ∧ (endingActive.group 6).state = .active) ∧
    (RequestsOk endingStopping ∧ endingStopping.drain.progress = .ending ∧ (endingStopping.group 6).state = .stopping) ∧
    draining.drain.progress = .writing ∧
    (let s := ending .faulted
     RequestsOk s ∧ BatchesOk s ∧ (s.group 6).state = .faulted ∧ 0 ∈ s.upstream.holdList ∧ 5 ∈ s.upstream.holdList ∧
      s.windowOf (s.slot 0).addr = some s.windows[(9 : Fin 16)] ∧ (s.slot 0).kind = .write 7 0xF ∧
      s.windows[(9 : Fin 16)].owners.getLsbD ((0 : Fin 16).val / 4) = true ∧
      s.windowOf (s.slot 5).addr = some s.windows[(9 : Fin 16)] ∧ (s.slot 5).kind = .read ∧
      s.windows[(9 : Fin 16)].owners.getLsbD ((5 : Fin 16).val / 4) = false) := by
  refine ⟨requestsOk_ending _ (.inl rfl), by decide +kernel, rfl, rfl, by decide +kernel, by decide +kernel, by decide +kernel,
    ⟨⟨by decide +kernel, by decide +kernel, by decide +kernel, by decide +kernel, by decide +kernel⟩, rfl⟩,
    ⟨requestsOk_endingActive, rfl, rfl⟩, ⟨requestsOk_endingStopping, rfl, rfl⟩, rfl, requestsOk_ending _ (.inr rfl),
    ⟨by decide +kernel, by decide +kernel, by decide +kernel, by decide +kernel, by decide +kernel⟩,
    by decide +kernel, by decide +kernel, by decide +kernel, by decide +kernel, by decide +kernel, by decide +kernel,
    by decide +kernel, by decide +kernel, by decide +kernel⟩

/-- Groups 1 and 6 TIMED on B with phase 5, each with a SEALED batch. -/
def timedTwo : State :=
  let s := timed 5 0 .active
  let gr := { s.group 6 with other := some (batch 20 .closed [entry3]) }
  { s with groups := (s.groups.set 6 gr).set 1 { gr with other := some (batch 7 .closed [entry1]) } }

/-- R75, R83: two groups' phase matches at one tick queue in increasing order of group number. -/
theorem test_tick_two : (after (.tick .timeB) timedTwo).releaseQueue = [.batch 1 7, .batch 6 20] := by decide +kernel

/-- Two groups at one count, and a period mark; a tick of B with no phase match; and one that brings the count from 4 to group 6's phase 5, in each state, with and without skip. -/
theorem witness_TickMade :
    (let s := { timedTwo with baseB := { TimeBase.reset with running := true, period := 16, count := 15 } }
     AtMark (s.base .timeB) ∧ (∀ w : Fin 12, (s.watch w).marks = 0) ∧ ¬ RestartsB State.reset) ∧
    State.reset.baseA.running = false ∧
    ((timed 9 0 .active).baseB.running = true ∧ (timed 9 0 .active).baseB.count + 1 < (timed 9 0 .active).baseB.period ∧
      ∀ g : Fin 8, ((timed 9 0 .active).group g).config.trigger = .timed → ((timed 9 0 .active).group g).config.base = .timeB →
        ((timed 9 0 .active).group g).config.phase ≠ (timed 9 0 .active).baseB.count + 1) ∧
    (∀ state ∈ [GroupState.off, .active, .stopping, .safing, .faulted], ∀ skip ∈ [0, 15],
      let s := timed 5 skip state
      s.baseB.running = true ∧ s.baseB.count + 1 < s.baseB.period ∧ (s.group 6).config.trigger = .timed ∧
        (s.group 6).config.base = .timeB ∧ (s.group 6).config.phase = s.baseB.count + 1 ∧ (s.group 6).state = state ∧
        (s.group 6).skipRemaining = skip ∧
        ∀ h : Fin 8, h ≠ 6 → (s.group h).config.trigger = .timed → (s.group h).config.base = .timeB →
          (s.group h).config.phase ≠ s.baseB.count + 1) := by decide +kernel

/-- B's mark, and A's with B stopped, running free, locked at a count, and locked at 0. -/
theorem witness_PeriodMarkMade :
    ∀ b ∈ [(false, false, 0), (true, false, 3), (true, true, 15), (true, true, 0)],
      let s := { staging with
        baseA := { TimeBase.reset with running := true, period := 16, count := 15 }
        baseB := { TimeBase.reset with running := b.1, bLock := b.2.1, period := 16, count := b.2.2 } }
      (∀ g : Fin 8, (s.group g).config.trigger = .timed → (s.group g).config.phase ≠ 0) ∧ (∀ w : Fin 12, (s.watch w).marks = 0) ∧
        s.baseA.running = true ∧ s.baseA.count + 1 = s.baseA.period ∧ s.baseB.running = b.1 ∧ s.baseB.bLock = b.2.1 ∧
        s.baseB.count = b.2.2 ∧ (b.2.2 = 15 → s.baseB.count + 1 = s.baseB.period) ∧ AtMark (s.base .timeA) ∧
        (RestartsB s ↔ b.2.1 = true ∧ b.2.2 ≠ 0) := by decide +kernel

/-- A's mark, whose settle window ends with a deferred mismatch (R145). -/
theorem test_mark_settle :
    AtMark (windowEnding.base .timeA) ∧ LetsOut windowEnding .timeA 2 ∧
      (after (.periodMark .timeA) windowEnding).events.records.map (·.body) = [.watchMismatch 2 .settleEnd] := by decide +kernel

/-- Release line 2, qualification 4: one cycle short, just long enough, an edge not accepted, one LINE group. -/
theorem witness_ReleaseLineQualified :
    let s := { part { group6 .active none none with config := { config6 with trigger := .line, releaseLine := 2 } } with
      releaseLines := State.reset.releaseLines.set 2 { ReleaseLine.reset with qual := 4, count := 1 } }
    let l : ReleaseLine := { s.releaseLines[(2 : Fin 4)] with pin := true }
    s.inReset = false ∧ (false = l.level) ∧ (true ≠ l.level) ∧ l.count + 2 < l.qual ∧ l.qual ≤ l.count + 3 ∧
      l.edge = (if true then .rising else .falling) ∧ (s.group 6).config.trigger = .line ∧ (s.group 6).config.releaseLine = 2 ∧
      (∀ h : Fin 8, h ≠ 6 → (s.group h).config.trigger = .line → (s.group h).config.releaseLine ≠ 2) ∧
      (∀ g : Fin 8, (State.reset.group g).config.trigger = .line → (State.reset.group g).config.releaseLine ≠ 2) := by
  decide +kernel

/-- Fault line 0, active HIGH: enabled by group 6 alone; and with no group's enable. -/
theorem witness_FaultLineQualified :
    let s := part { group6 .active none none with config := { config6 with faultLine0 := true } }
    let l : FaultLine := { s.faultLines[(0 : Fin 2)] with pin := true }
    s.inReset = false ∧ (true ≠ l.level) ∧ l.qual ≤ l.count + 1 ∧ true = l.activeHigh ∧
      (s.group 6).config.lineEnabled 0 = true ∧
      (∀ h : Fin 8, h ≠ 6 → (s.group h).config.lineEnabled 0 = true → (s.group h).state = .off) ∧
      (∀ g : Fin 8, (State.reset.group g).config.lineEnabled 0 = true → (State.reset.group g).state = .off) ∧
      (let m : FaultLine := { FaultLine.reset with qual := 64, count := 62 }
       m.count + 1 < m.qual) := by decide +kernel

theorem witness_TimebaseControl :
    LinkReady State.reset ∧
    (let s := { State.reset with baseB := { TimeBase.reset with running := true } }
     LinkReady s ∧ (s.base .timeB).running = true) := by decide +kernel

theorem witness_FrameStarts :
    (after .frameStart State.reset).link.frame ≠ none ∧
    (State.reset.link.frame = none ∧ State.reset.inReset = false ∧ State.reset.link.choice = .slot) ∧
    (let s := { State.reset with link := { Link.reset with notice := some { status := .busy, echo := 0x23 }, choice := .notice } }
     s.link.frame = none ∧ s.link.choice = .notice ∧ s.link.notice = some { status := .busy, echo := 0x23 }) ∧
    (after .nop State.reset).link.choice = .link := by decide +kernel

/-- No whole byte, one byte, a short body, a wrong CRC, BUSY, an unknown code, and the two frames written out. -/
theorem witness_FrameEnds :
    ([true].length < 8) ∧ ¬ NotDropped (after .powerOnReset State.reset) ∧ NotDropped State.reset ∧
    Wire.bytesOfBits (Wire.bitsOfBytes [0x22#8]) = [0x22#8] ∧
    Wire.bytesOfBits (Wire.bitsOfBytes [0x22#8, 1#8, 5#8]) = [0x22#8, 1#8, 5#8] ∧
    ([5#8, 0#8][(1#8).toNat]? = some 0#8 ∧ 0#8 ≠ Wire.crc (0x22#8 :: 1#8 :: [5#8, 0#8].take (1#8).toNat)) ∧
    (NotDropped (busy (.peek 5)) ∧ (busy (.peek 5)).link.pending ≠ none) ∧
    ([Wire.crc [0x99#8, 0#8]][(0#8).toNat]? = some (Wire.crc [0x99#8, 0#8])) ∧
    Wire.bytesOfBits (Wire.bitsOfBytes [0x00#8, 0x00#8, 0xD7#8]) = [0x00#8, 0x00#8, 0xD7#8] ∧
    (LinkReady fullQueue ∧ fullQueue.events.records ≠ []) := by decide +kernel

theorem witness_FrameCarriesCommand :
    Wire.encodeCommand (.sealBatch 6) = some (0x22#8, [6#8]) ∧ [true, true, true, true, true, true, true].length < 8 := ⟨rfl, by decide⟩

theorem witness_DecodeEncode :
    (wellFormed (.poke 4194303 1 0xF) = true ∧
      Wire.encodeCommand (.poke 4194303 1 0xF) = some (0x61#8, [0x3F#8, 0xFF#8, 0xFF#8, 0#8, 0#8, 0#8, 1#8, 0x0F#8])) ∧
    (wellFormed (.writeTableGroup 7 goodGroup) = true ∧ (Wire.encodeCommand (.writeTableGroup 7 goodGroup)).isSome = true) := by
  decide +kernel

theorem witness_FieldsRefused :
    LinkReady State.reset ∧ ([] : List Byte).length ≠ 1 ∧ (6#8).toNat ≤ 6 ∧ 6 < (7#8).toNat ∧
    ((0x61#8, 8) ∈ [(0x20#8, 1), (0x61#8, 8)]) ∧ 8 ≤ (8#8).toNat ∧ 12 ≤ (12#8).toNat ∧ 3 ≤ (3#8).toNat ∧ 16 ≤ (16#8).toNat ∧
    128 ≤ (128#8).toNat ∧ 2 ≤ (2#8).toNat ∧ 1 ≤ (1#8).toNat ∧ ((3#8).toNat, true) = (3, decide (12 ≤ (12#8).toNat)) ∧
    1 < (2#8).toNat ∧ 2 < (3#8).toNat ∧ [5#8, 0#8].length < 256 ∧ [true].length < 8 := by decide +kernel

/-- A field too many, an unknown code, and the option 2 of GROUP_STOP for group 7 and for a group 8. -/
theorem witness_FieldsRefused_error :
    Wire.decodeCommand 0x22#8 [5#8, 0#8] = .error .badValue ∧ Wire.decodeCommand 0x99#8 [] = .error .badCommand ∧
      Wire.decodeCommand 0x21#8 [7#8, 2#8] = .error .badValue ∧ Wire.decodeCommand 0x21#8 [8#8, 2#8] = .error .badIndex :=
  ⟨rfl, rfl, rfl, rfl⟩

theorem witness_BusyWhilePending :
    Wire.encodeCommand .popEvent = some (0x70#8, []) ∧ ¬ NotDropped (after .powerOnReset State.reset) ∧
      NotDropped (busy (.peek 5)) ∧ (busy (.peek 5)).link.pending ≠ none ∧ Instr.popEvent ≠ .nop ∧ Instr.popEvent ≠ .readResult := by
  decide +kernel

theorem witness_TableRead : LinkReady staging := by decide +kernel

/-- Every field at the top of its range. -/
theorem witness_RecordRoundTrip :
    ConfigOk { config6 with phase := 65534, skip := 15, quota := 512, missLimit := 15 } ∧
      ({ watch2 .disarmed 0 with settleLength := 15 } : Watch).settleLength ≤ 15 ∧
      BaseOk { TimeBase.reset with divider := 256, period := 65535, count := 65534, interval := 255 } := by decide +kernel

/-- Each outcome of the window's checks. -/
theorem witness_WindowWritten :
    LinkReady staging ∧ 16 ≤ (16 : Byte).toNat ∧ (badWindow.length.toNat ≤ 65536 ∧ badWindow.base.toNat + badWindow.length.toNat - 1 ≤ 4194303) ∧
      (staging.windows[(9 : Fin 16)].enabled ∧ (staging.group staging.windows[(9 : Fin 16)].group).state ≠ .off) ∧
      (draining.windows[(9 : Fin 16)].enabled ∧ draining.itemCurrent draining.windows[(9 : Fin 16)].group) ∧
      (let w := windowRecord badWindow
       w.enabled ∧ staging.windows[(9 : Fin 16)].base.toNat < w.base.toNat + w.length.toNat ∧
        w.base.toNat < staging.windows[(9 : Fin 16)].base.toNat + staging.windows[(9 : Fin 16)].length.toNat) := by decide +kernel

theorem witness_RecordsWritten :
    LinkReady State.reset ∧ (State.reset.group 7).state = .off ∧ (State.reset.watch 11).state = .disarmed ∧
      LinkReady staging ∧ (staging.group 6).state ≠ .off ∧ (safeJob.group safeJob.safeTable[(4 : Fin 128)].group).state = .safing := by
  decide +kernel

/-- A stopped base, a running one, and one whose period a TIMED group's phase blocks; a written period of 0 is taken as 16. -/
theorem witness_TimebaseLinesBurstWritten :
    LinkReady State.reset ∧ State.reset.baseA.running = false ∧
    (let s := timed 20 0 .active
     LinkReady s ∧ s.baseB.running = true ∧ (s.group 6).config.trigger = .timed ∧ (s.group 6).config.base = .timeB ∧
      16 ≤ (s.group 6).config.phase ∧ ¬ 21 ≤ (s.group 6).config.phase) ∧
    Wire.linesInRange goodLines = true ∧ Wire.linesInRange { goodLines with fault0 := ⟨2, 0⟩ } = false ∧
    (State.reset.lineActive 0 = false ∧ State.reset.lineActive 1 = false ∧
      (after (.writeTableLines 0 goodLines) State.reset).lineActive 0 = false ∧
      (after (.writeTableLines 0 goodLines) State.reset).lineActive 1 = true ∧
      (after (.writeTableLines 0 { goodLines with fault0 := ⟨1, 0⟩ }) State.reset).lineActive 0 = true) := by decide +kernel

theorem witness_GroupStarted : LinkReady (plain .off) ∧ ((plain .off).group 6).state = .off ∧ ((plain .off).group 6).config.quota = 4 := by
  decide +kernel

/-- Every state of the group; ACTIVE with no other batch, a SEALED one, a QUEUED one and a DRAINING one. -/
theorem witness_GroupStopped :
    (∀ state ∈ [GroupState.off, .active, .stopping, .safing, .faulted],
      LinkReady (plain state) ∧ ((plain state).group 6).state = state) ∧
    (LinkReady staging ∧ (staging.group 6).state = .active ∧
      (staging.group 6).opened = some (batch 21 .opened [entry3, entry1]) ∧ (staging.group 6).other = none) ∧
    (∀ state ∈ [BatchState.closed, .queued, .draining],
      LinkReady (twoBatches state) ∧ ((twoBatches state).group 6).opened = some (batch 21 .opened []) ∧
        ((twoBatches state).group 6).other.map (·.state) = some state) := by decide +kernel

/-- As for the stop, and STOPPING with seal pending. -/
theorem witness_SealCommand :
    (LinkReady (plain .stopping) ∧ ((plain .stopping).group 6).sealPending = false) ∧
    (let gr := { group6 .stopping (some (batch 21 .opened [])) (some (batch 20 .queued [entry3])) with sealPending := true }
     LinkReady (part gr) ∧ ((part gr).group 6).state = .stopping ∧ ((part gr).group 6).opened = some (batch 21 .opened []) ∧
      ((part gr).group 6).sealPending = true) ∧
    (LinkReady staging ∧ (staging.group 6).state = .active ∧ (staging.group 6).other = none) ∧
    (LinkReady queued ∧ (queued.group 6).state = .active ∧ (queued.group 6).other ≠ none) := by decide +kernel

/-- ACTIVE with no other batch at the miss limit, a SEALED and a QUEUED one; FAULTED, clearing itself or not. -/
theorem witness_ReleaseCommand :
    (∀ state ∈ [GroupState.off, .stopping, .safing], LinkReady (plain state) ∧ ((plain state).group 6).state = state) ∧
    (let s := part { group6 .active (some (batch 21 .opened [])) none with consecutive := 2 }
     LinkReady s ∧ (s.group 6).opened = some (batch 21 .opened []) ∧ (s.group 6).other = none ∧
      min ((s.group 6).consecutive + 1) 15 = (s.group 6).config.missLimit) ∧
    (∀ state ∈ [BatchState.closed, .queued], LinkReady (twoBatches state) ∧
      ((twoBatches state).group 6).other.map (·.state) = some state) ∧
    (let s := part { group6 .faulted none none with config := { config6 with clearMode := .auto } }
     LinkReady s ∧ (s.group 6).config.clearMode = .auto ∧ s.activeSource 6 = false ∧ (s.group 6).safeIncomplete = false) ∧
    (LinkReady (plain .faulted) ∧ ((plain .faulted).group 6).config.clearMode = .latched) := by decide +kernel

theorem witness_StatusRead : LinkReady queued ∧ 8 ≤ (8 : Byte).toNat := by decide +kernel

theorem witness_TripTaken :
    (∀ state ∈ [GroupState.off, .active, .stopping, .safing, .faulted],
      LinkReady (plain state) ∧ QueueOk (plain state) ∧ ((plain state).group 6).state = state) ∧
    (LinkReady queued ∧ QueueOk queued ∧ (queued.group 6).state = .active) ∧ (busy .softReset).link.pending = some .softReset := by
  decide +kernel

/-- The forced, the safe-incomplete and the plain clearing. -/
theorem witness_ClearFault :
    LinkReady (plain .faulted) ∧ 8 ≤ (8 : Byte).toNat ∧ (plain .faulted).activeSource 6 = false ∧ ¬ 1 < (1#8).toNat ∧
      ((part { group6 .faulted none none with safeIncomplete := true }).group 6).safeIncomplete = true := by decide +kernel

/-- The last word of the SRAM, and the first number past it. -/
theorem witness_PeekPokeTaken : LinkReady staging ∧ ¬ 4194303 < (4194303 : Addr24).toNat ∧ 4194303 < (4194304 : Addr24).toNat ∧
  (∃ g ∈ staging.wordGroup 0x4000, (staging.group g).state ≠ .off) := by decide +kernel

theorem witness_PopEvent : LinkReady State.reset ∧ State.reset.events.records = [] ∧ LinkReady fullQueue ∧
  fullQueue.events.records ≠ [] := by decide +kernel

/-- A record its group masks, one it enables, and a full queue. -/
theorem witness_EventSubmitted :
    (EventBody.groupStopped 1 .flush).group? = some 1 ∧
      (State.reset.group 1).config.eventMask.getLsbD ((EventBody.groupStopped 1 .flush).kindCode - 1) = false ∧
      (staging.group 6).config.eventMask.getLsbD ((EventBody.groupStopped 6 .flush).kindCode - 1) = true ∧
      staging.events.records.length < 32 ∧ 32 ≤ fullQueue.events.records.length := by decide +kernel

/-- Window 9 alone is enabled, so no two windows overlap. -/
theorem windowsDisjoint_of_one (s : State) (h : ∀ k : Fin 16, s.windows[k].enabled = true → k = 9) : WindowsDisjoint s := by
  have key : ∀ (k : Fin 16) (a : WordAddr), s.windows[k].covers a = true → k = 9 := fun k a hc => by
    refine h k ?_
    simp only [Window.covers, Bool.and_eq_true] at hc
    exact hc.1.1
  exact fun m n hmn a hc => hmn ((key m a hc.1).trans (key n a hc.2).symm)

/-- The state each invariant's statement is met in: a drain under way, the next command its write's answer. -/
def invState : State := { drainGranted with pending := [.transactionPerformed true 0] }

theorem witness_RangesKept :
    WindowsDisjoint invState ∧ BatchesOk invState ∧ RangesOk invState ∧
      step invState = .next (after (.transactionPerformed true 0) { invState with pending := [] }) :=
  ⟨windowsDisjoint_of_one _ (by decide +kernel),
    ⟨by decide +kernel, by decide +kernel, by decide +kernel, by decide +kernel, by decide +kernel⟩,
    ⟨by decide +kernel, by decide +kernel, by decide +kernel, by decide +kernel, by decide +kernel, by decide +kernel,
      by decide +kernel, by decide +kernel⟩, rfl⟩

theorem witness_BatchesKept :
    BatchesOk invState ∧ step invState = .next (after (.transactionPerformed true 0) { invState with pending := [] }) :=
  ⟨⟨by decide +kernel, by decide +kernel, by decide +kernel, by decide +kernel, by decide +kernel⟩, rfl⟩

theorem witness_RequestsKept :
    let s := { ending .faulted with pending := [.endReport] }
    WindowsDisjoint s ∧ RequestsOk s ∧ step s = .next (after .endReport { s with pending := [] }) :=
  ⟨windowsDisjoint_of_one _ (by decide +kernel),
    ⟨by decide +kernel, by decide +kernel, by decide +kernel, by decide +kernel, by decide +kernel⟩, rfl⟩

/-- A watch in MATCH over a known word, a failed write of it at the port. -/
theorem witness_ShadowsKept :
    let s := { passAt (watching (watch2 (.compared .agrees) 0x12340156)) (.write 0x200 0x2) 0x2040 with
      mem := [(0x8100, 0x56), (0x8101, 0x01), (0x8102, 0x34), (0x8103, 0x12)]
      pending := [.transactionPerformed true 0] }
    ObservationOk s ∧ step s = .next (after (.transactionPerformed true 0) { s with pending := [] }) :=
  ⟨⟨by decide +kernel, by decide +kernel, by decide +kernel, by decide +kernel⟩, rfl⟩

end Sys2Proof.Tests
end

/-! PROOFS. Chapter 03: a snapshot, lane by lane (R62). The snapshot's two parts follow the same order of precedence: an entry's
bytes lie over those below it exactly in the lanes its mask enables, and a lane is covered exactly where an entry enables it. -/

namespace Sys2Proof.Machine

/-! ### The lanes of one entry -/

@[simp] theorem coveredLanes_none : coveredLanes none = 0#4 := rfl

@[simp] theorem coveredLanes_some (e : Entry) : coveredLanes (some e) = e.mask := rfl

/-- A lane is left uncovered just when no entry enables it. -/
theorem coveredLanes_getLsbD_eq_false_iff (oe : Option Entry) (i : Nat) :
    (coveredLanes oe).getLsbD i = false ↔ ∀ e, oe = some e → e.mask.getLsbD i = false := by
  cases oe with
  | none => simp
  | some e => simp

/-- An entry gives the lanes it enables. -/
theorem lane_overlay_of_enabled {e : Entry} {i : Nat} (below : Word) (hi : i < 4) (henabled : e.mask.getLsbD i = true) :
    lane (overlay (some e) below) i = lane e.data i := by
  rw [overlay, lane_mergeLanes _ _ _ i hi, if_pos henabled]

/-- Where no entry enables the lane, the byte below shows through. -/
theorem lane_overlay_of_uncovered {oe : Option Entry} {i : Nat} (below : Word) (hi : i < 4)
    (huncovered : (coveredLanes oe).getLsbD i = false) : lane (overlay oe below) i = lane below i := by
  cases oe with
  | none => rfl
  | some e =>
    rw [coveredLanes_some] at huncovered
    rw [overlay, lane_mergeLanes _ _ _ i hi, huncovered, if_neg Bool.false_ne_true]

/-! ### The two parts of a snapshot -/

/-- The OPEN batch's bytes lie over the other batch's. -/
theorem State.snapshot_value (s : State) (g : Fin 8) (a : WordAddr) :
    (s.snapshot g a).value = overlay (entryOf (s.group g).opened a) (overlay (entryOf (s.group g).other a) 0#32) := rfl

/-- A lane is covered where either batch's entry enables it. -/
theorem State.snapshot_covered_getLsbD (s : State) (g : Fin 8) (a : WordAddr) (i : Nat) :
    (s.snapshot g a).covered.getLsbD i =
      ((coveredLanes (entryOf (s.group g).opened a)).getLsbD i || (coveredLanes (entryOf (s.group g).other a)).getLsbD i) :=
  BitVec.getLsbD_or

/-- Settles O10, one case of R62 after another: the OPEN batch's entry, the other batch's under an OPEN batch that does not enable
the lane, and neither. -/
theorem snapshotLanes : Obligations.SnapshotLanes := by
  unfold Obligations.SnapshotLanes
  intro g a i s
  simp only [← coveredLanes_getLsbD_eq_false_iff, State.snapshot_covered_getLsbD, State.snapshot_value]
  refine ⟨?opened, ?other, ?neither⟩
  case opened =>
    intro e hentry henabled
    rw [hentry, coveredLanes_some, henabled]
    exact ⟨Bool.true_or _, lane_overlay_of_enabled _ i.isLt henabled⟩
  case other =>
    intro hopened e hentry henabled
    rw [lane_overlay_of_uncovered _ i.isLt hopened, hentry, coveredLanes_some, henabled]
    exact ⟨Bool.or_true _, lane_overlay_of_enabled _ i.isLt henabled⟩
  case neither =>
    intro hopened hother
    rw [hopened, hother, Bool.or_false]

end Sys2Proof.Machine

/-! PROOFS. Chapter 09: a submitted record and the attention line (R171 to R173, R177). Whether a record's mask enables it is read off
its group; each of the three outcomes of `submit_cases` is then the only one left under the condition that names it. -/

namespace Sys2Proof.Machine

/-! ### The mask over a record's kind -/

/-- R171: a record of a group kind is governed by its group's mask, at its kind's bit. -/
theorem eventEnabled_of_group {b : EventBody} {g : Fin 8} (s : State) (hgroup : b.group? = some g) :
    s.eventEnabled b = (s.group g).config.eventMask.getLsbD (b.kindCode - 1) := by
  rw [State.eventEnabled, hgroup]

/-- R171: a record passes unless it is of a group kind that its group's mask keeps back; other kinds have no mask. -/
theorem eventEnabled_iff (s : State) (b : EventBody) :
    s.eventEnabled b = true ↔
      ∀ g, b.group? = some g → (s.group g).config.eventMask.getLsbD (b.kindCode - 1) = true := by
  cases hgroup : b.group? with
  | none => simp [State.eventEnabled, hgroup]
  | some g => simp [eventEnabled_of_group s hgroup]

/-! ### The three outcomes, each under its own condition -/

/-- R171: a masked record leaves no trace. -/
theorem submit_of_masked {s : State} {b : EventBody} (hmasked : s.eventEnabled b = false) : s.submit b = s := by
  obtain ⟨-, hsame⟩ | ⟨henabled, -⟩ | ⟨henabled, -⟩ := submit_cases s b
  · exact hsame
  · exact absurd (hmasked.symm.trans henabled) Bool.false_ne_true
  · exact absurd (hmasked.symm.trans henabled) Bool.false_ne_true

/-- R172: an enabled record joins the tail while there is room, and takes the pending lost count with it. -/
theorem submit_of_room {s : State} {b : EventBody} (henabled : s.eventEnabled b = true)
    (hroom : s.events.records.length < 32) :
    s.submit b = s.setEvents { records := s.events.records ++ [s.stamped b], lost := 0 } := by
  obtain ⟨hmasked, -⟩ | ⟨-, -, hstored⟩ | ⟨-, hfull, -⟩ := submit_cases s b
  · exact absurd (hmasked.symm.trans henabled) Bool.false_ne_true
  · exact hstored
  · exact absurd hroom (Nat.not_lt.mpr hfull)

/-- R173: an enabled record that finds the queue full is only counted. -/
theorem submit_of_full {s : State} {b : EventBody} (henabled : s.eventEnabled b = true)
    (hfull : 32 ≤ s.events.records.length) :
    s.submit b = s.setEvents { s.events with lost := min (s.events.lost + 1) 255 } := by
  obtain ⟨hmasked, -⟩ | ⟨-, hroom, -⟩ | ⟨-, -, hlost⟩ := submit_cases s b
  · exact absurd (hmasked.symm.trans henabled) Bool.false_ne_true
  · exact absurd hroom (Nat.not_lt.mpr hfull)
  · exact hlost

/-! ### The attention line -/

/-- R177: the line is asserted exactly while a record is stored. -/
theorem attention_iff (s : State) : s.attention = true ↔ s.events.records ≠ [] := by
  simp [State.attention]

/-- Settles O55, one outcome of R171 to R173 after another, and the attention line of R177. -/
theorem eventSubmitted : Obligations.EventSubmitted := by
  unfold Obligations.EventSubmitted
  intro b s
  refine ⟨?masked, ?enabled, attention_iff s⟩
  case masked =>
    intro g hgroup hmasked
    exact submit_of_masked ((eventEnabled_of_group s hgroup).trans hmasked)
  case enabled =>
    intro hmask
    have henabled : s.eventEnabled b = true := (eventEnabled_iff s b).mpr hmask
    exact ⟨submit_of_room henabled, submit_of_full henabled⟩

end Sys2Proof.Machine

/-! PROOFS. What every step keeps. A property is kept by every step once it is kept by what each command does at its own unit: the
frames, the check for BUSY and the writing of results are dealt with here once for all commands. -/

namespace Sys2Proof.Machine

/-- R153: a command that a frame carries, but for NOP and READ_RESULT, is its frame's end, the check for BUSY, and its body. -/
theorem exec_eq_command {c : Instr} {code : Byte} {fields : List Byte} (s : State)
    (hc : Wire.encodeCommand c = some (code, fields)) (hcode : alwaysAccepted code = false) :
    exec c s = .next (command code (runCommand c) s) := by
  cases c <;> cases hc <;> first | rfl | cases hcode

/-- An immediate command's effect keeps the property; it is taken only while no command is pending (R153). -/
def Takes (P : State → Prop) (f : State → CommandResult) : Prop :=
  ∀ s data t, s.link.pending = none → P s → f s = .ok (data, t) → P t

/-- The property is kept by what each command does at its unit, and does not depend on frames, results and signals. The steps named in
`C` are those of the units that a statement may leave out. -/
structure KeptBy (C : Instr → Prop) (P : State → Prop) : Prop where
  pending : ∀ s q, P s → P { s with pending := q }
  newCycle : ∀ s, P s → P s.newCycle
  setLink : ∀ s l, l.pending = s.link.pending → l.reports = s.link.reports → P s → P (s.setLink l)
  upstreamRequest : ∀ s init tag kind addr, P s → P (s.upstreamRequest init tag kind addr)
  issueResponse : ∀ s init tag, C (.responseIssue init tag) → P s → P (s.issueResponse init tag)
  arbitrate : ∀ s, P s → P s.arbitrate
  performed : ∀ s error rdata, C (.transactionPerformed error rdata) → P s → P (s.performed error rdata)
  decideItem : ∀ s, P s → P s.decideItem
  endItem : ∀ s, C .endReport → P s → P s.endItem
  tickBase : ∀ s b, P s → P (s.tickBase b)
  mark : ∀ s b, P s → P (s.mark b)
  settleMarkAt : ∀ s w, P s → P (s.settleMarkAt w)
  sampleReleaseLine : ∀ s n high cycles, P s → P (s.sampleReleaseLine n high cycles)
  sampleFaultLine : ∀ s n high cycles, P s → P (s.sampleFaultLine n high cycles)
  cycle : ∀ s, P s → P s.cycle
  writeWindow : ∀ n f, Takes P (fun s => s.writeWindow n f)
  writeGroup : ∀ g f, Takes P (fun s => s.writeGroup g f)
  writeSafe : ∀ n f, Takes P (fun s => s.writeSafe n f)
  writeWatch : ∀ w f, Takes P (fun s => s.writeWatch w f)
  writeTimebase : ∀ i b f, (i.toNat = 0 → b = .timeA) → (i.toNat ≠ 0 → b = .timeB) → Takes P (fun s => s.writeTimebase i b f)
  writeLines : ∀ f, Takes P (fun s => s.writeLines f)
  writeMemport : ∀ b, Takes P (fun s => s.writeMemport b)
  startGroup : ∀ g, Takes P (fun s => s.startGroup g)
  groupStopDiscard : ∀ g, Takes P (fun s => s.groupStopDiscard g)
  groupStopFlush : ∀ g, Takes P (fun s => s.groupStopFlush g)
  sealGroup : ∀ g, Takes P (fun s => s.sealGroup g)
  releaseGroup : ∀ g, Takes P (fun s => s.releaseGroup g)
  clearCounters : ∀ s g, P s → P (s.setGroup g (s.group g).clearCounters)
  forceFault : ∀ g, Takes P (fun s => s.forceFault g)
  clearFault : ∀ g force, Takes P (fun s => s.clearFault g force)
  arm : ∀ w, Takes P (fun s => s.arm w)
  disarm : ∀ w, Takes P (fun s => s.disarm w)
  newReference : ∀ r m w, Takes P (fun s => s.newReference r m w)
  startBase : ∀ b, Takes P (fun s => s.controlBases b (·.running) TimeBase.start)
  stopBase : ∀ b, Takes P (fun s => s.controlBases b (fun t => !t.running) TimeBase.stop)
  zeroBase : ∀ b, Takes P (fun s => s.controlBases b (·.running) TimeBase.zeroed)
  pop : Takes P State.pop
  startPeek : ∀ a s t, s.link.pending = none → P s → State.startPeek a s = .ok t → P t
  startPoke : ∀ a d m s t, s.link.pending = none → P s → State.startPoke a d m s = .ok t → P t
  softReset : ∀ s, s.link.pending = none → P s → P (softResetBody s)
  tryComplete : ∀ s, C .softResetComplete → P s → P s.tryComplete
  powerOn : ∀ s, C .powerOnReset → P s → P s.powerOn
  powerOnEnd : ∀ s r f, P s → P (s.powerOnEnd r f)

/-- The property is kept by what every command does at its unit. -/
abbrev Kept (P : State → Prop) : Prop := KeptBy (fun _ => True) P

namespace KeptBy

variable {C : Instr → Prop} {P : State → Prop} (h : KeptBy C P)
include h

/-! ### The management link -/

theorem writeResult (s : State) (status : Status) (code : Byte) (data : List Byte) (hs : P s) : P (s.writeResult status code data) :=
  h.setLink _ _ rfl rfl hs

theorem immediate {f : State → CommandResult} (hf : Takes P f) (code : Byte) (s : State) (hp : s.link.pending = none) (hs : P s) :
    P (immediate code f s) := by
  obtain ⟨status, -, heq⟩ | ⟨data, t, hok, heq⟩ := immediate_cases code f s
  · rw [heq]
    exact h.writeResult _ _ _ _ hs
  · rw [heq]
    exact h.writeResult _ _ _ _ (hf s data t hp hs hok)

omit h in
theorem takes_same (data : State → List Byte) : Takes P (fun s => .ok (data s, s)) := by
  intro s d t _ hs hok
  cases hok
  exact hs

omit h in
theorem takes_withGroup (g : Byte) {f : Fin 8 → State → CommandResult} (hf : ∀ g, Takes P (f g)) :
    Takes P (fun s => withGroup g (fun g => f g s)) := by
  intro s d t hp hs hok
  unfold withGroup at hok
  split at hok
  · exact hf _ s d t hp hs hok
  · cases hok

omit h in
theorem takes_withWatch (w : Byte) {f : Fin 12 → State → CommandResult} (hf : ∀ w, Takes P (f w)) :
    Takes P (fun s => withWatch w (fun w => f w s)) := by
  intro s d t hp hs hok
  unfold withWatch at hok
  split at hok
  · exact hf _ s d t hp hs hok
  · cases hok

omit h in
theorem takes_writeAt (n : Nat) (index : Byte) {f : Fin n → State → CommandResult}
    (hf : ∀ i, Wire.index? n index = some i → Takes P (f i)) : Takes P (fun s => writeAt n index (fun i => f i s)) := by
  intro s d t hp hs hok
  unfold writeAt at hok
  split at hok
  · rename_i i hi
    exact hf i hi s d t hp hs hok
  · cases hok

omit h in
theorem takes_readAt (n : Nat) (index : Byte) (f : State → Fin n → List Byte) : Takes P (fun s => readAt n index s (f s)) := by
  intro s d t _ hs hok
  unfold readAt at hok
  split at hok
  · cases hok
    exact hs
  · cases hok

omit h in
theorem takes_readTable (kind index : Byte) : Takes P (fun s => s.readTable kind index) := by
  intro s d t hp hs hok
  unfold State.readTable at hok
  split at hok
  · exact takes_readAt 16 index (fun s i => s.windows[i].bytes) s d t hp hs hok
  · exact takes_readAt 8 index (fun s g => (s.group g).config.bytes) s d t hp hs hok
  · exact takes_readAt 128 index (fun s i => s.safeTable[i].bytes) s d t hp hs hok
  · exact takes_readAt 12 index (fun s w => (s.watch w).bytes) s d t hp hs hok
  · exact takes_readAt 2 index (fun s i => if i = 0 then s.baseA.bytes else s.baseB.bytes) s d t hp hs hok
  · exact takes_readAt 1 index (fun s _ => s.linesBytes) s d t hp hs hok
  · exact takes_readAt 1 index (fun s _ => [Wire.byteOf s.port.burst]) s d t hp hs hok
  · cases hok

theorem takes_clearCounters (g : Fin 8) :
    Takes P (fun s => .ok ((s.group g).statusBytes, s.setGroup g (s.group g).clearCounters)) := by
  intro s d t _ hs hok
  cases hok
  exact h.clearCounters s g hs

theorem takes_clearFault (g : Fin 8) (force : Byte) :
    Takes P (fun s => if 1 < force.toNat then .error .badValue else s.clearFault g (force == 1#8)) := by
  intro s d t hp hs hok
  dsimp only at hok
  split at hok
  · cases hok
  · exact h.clearFault g _ s d t hp hs hok

theorem takes_writeTimebase (index : Byte) (f : TimebaseFields) (i : Fin 2) (hi : Wire.index? 2 index = some i) :
    Takes P (fun s => s.writeTimebase index (if i = 0 then .timeA else .timeB) f) := by
  have hv : i.val = index.toNat := by
    unfold Wire.index? at hi
    split at hi
    · cases hi; rfl
    · cases hi
  refine h.writeTimebase index _ f (fun h0 => ?_) (fun h0 => ?_)
  · rw [if_pos (Fin.ext (hv.trans h0))]
  · rw [if_neg (fun e => h0 (by rw [← hv, e]; rfl))]

theorem pendingCommand {f : State → Except Status State} (code : Byte) (s : State)
    (hf : ∀ t, f s = .ok t → P t) (hs : P s) : P (pendingCommand code f s) := by
  unfold Machine.pendingCommand
  split
  · exact hf _ ‹_›
  · exact h.writeResult _ _ _ _ hs

/-- Each command's body, from a link that is free. -/
theorem runCommand (c : Instr) (s : State) (hp : s.link.pending = none) (hs : P s) : P (runCommand c s) := by
  have im {f : State → CommandResult} (hf : Takes P f) (code : Byte) : P (Machine.immediate code f s) := h.immediate hf code s hp hs
  cases c with
  | nop => exact h.setLink _ _ rfl rfl hs
  | readResult => exact h.setLink _ _ rfl rfl hs
  | readTable k i => exact im (takes_readTable k i) _
  | writeTableWindow i f => exact im (takes_writeAt 16 i fun n _ => h.writeWindow n f) _
  | writeTableGroup i f => exact im (takes_writeAt 8 i fun g _ => h.writeGroup g f) _
  | writeTableSafe i f => exact im (takes_writeAt 128 i fun n _ => h.writeSafe n f) _
  | writeTableWatch i f => exact im (takes_writeAt 12 i fun w _ => h.writeWatch w f) _
  | writeTableTimebase i f => exact im (takes_writeAt 2 i fun n hn => h.takes_writeTimebase i f n hn) _
  | writeTableLines i f => exact im (takes_writeAt 1 i fun _ _ => h.writeLines f) _
  | writeTableMemport i b => exact im (takes_writeAt 1 i fun _ _ => h.writeMemport b) _
  | groupStart g => exact im (takes_withGroup g h.startGroup) _
  | groupStopDiscard g => exact im (takes_withGroup g h.groupStopDiscard) _
  | groupStopFlush g => exact im (takes_withGroup g h.groupStopFlush) _
  | sealBatch g => exact im (takes_withGroup g h.sealGroup) _
  | release g => exact im (takes_withGroup g h.releaseGroup) _
  | readStatus g => exact im (takes_withGroup g fun g => takes_same fun s => (s.group g).statusBytes) _
  | readStatusClear g => exact im (takes_withGroup g h.takes_clearCounters) _
  | forceFault g => exact im (takes_withGroup g h.forceFault) _
  | clearFault g f => exact im (takes_withGroup g fun g => h.takes_clearFault g f) _
  | armWatch w => exact im (takes_withWatch w h.arm) _
  | disarmWatch w => exact im (takes_withWatch w h.disarm) _
  | setReference w r m => exact im (takes_withWatch w (h.newReference r m)) _
  | timebaseStart b => exact im (h.startBase b) _
  | timebaseStop b => exact im (h.stopBase b) _
  | timebaseZero b => exact im (h.zeroBase b) _
  | popEvent => exact im h.pop _
  | peek a => exact h.pendingCommand _ s (fun t ht => h.startPeek a s t hp hs ht) hs
  | poke a d m => exact h.pendingCommand _ s (fun t ht => h.startPoke a d m s t hp hs ht) hs
  | softReset => exact h.softReset s hp hs
  | _ => exact hs

theorem command (c : Instr) (code : Byte) (s : State) (hs : P s) : P (command code (Machine.runCommand c) s) := by
  have hclosed : P s.newCycle.closeFrame := h.setLink _ _ rfl rfl (h.newCycle s hs)
  obtain ⟨-, heq⟩ | ⟨-, -, heq⟩ | ⟨-, hp, heq⟩ := command_cases code (Machine.runCommand c) s
  · rw [heq]
    exact h.setLink _ _ rfl rfl (h.newCycle s hs)
  · rw [heq]
    exact h.setLink _ _ rfl rfl hclosed
  · rw [heq]
    exact h.runCommand c _ hp hclosed

/-- R153: a frame of at least one whole byte, by its checks in order. -/
theorem frameBody (code : Byte) (rest : List Byte) (s : State) (hs : P s) : P (frameBody code rest s) := by
  have hrej (x : Status) (b : Byte) : P (s.rejectFrame x b) := h.setLink _ _ rfl rfl hs
  unfold Machine.frameBody
  split
  · exact hrej _ _
  · unfold checkFrame
    dsimp only
    split
    · exact hrej _ _
    · split
      · unfold checkBusy takeFrame State.unlessBusy
        split
        · rename_i hacc
          simp only [alwaysAccepted, Bool.or_eq_true, beq_iff_eq] at hacc
          obtain rfl | rfl := hacc <;> exact h.setLink _ _ rfl rfl hs
        · split
          · exact hrej _ _
          · rename_i hp
            have hp : s.link.pending = none := by simpa using hp
            split
            · exact h.runCommand _ _ hp hs
            · exact h.writeResult _ _ _ _ hs
      · exact hrej _ _

theorem finishFrame (s : State) (bytes : List Byte) (hs : P s) : P (s.finishFrame bytes) := by
  have hn := h.newCycle s hs
  unfold State.finishFrame
  split
  · exact h.setLink _ _ rfl rfl hn
  · unfold State.endFrame
    split
    · exact h.setLink _ _ rfl rfl hn
    · exact h.frameBody _ _ _ (h.setLink _ _ rfl rfl hn)

theorem alwaysTaken (s : State) (k : State → State) (hk : ∀ u, P u → P (k u)) (hs : P s) : P (s.endFrame k) := by
  unfold State.endFrame
  split
  · exact h.setLink _ _ rfl rfl (h.newCycle s hs)
  · exact hk _ (h.setLink _ _ rfl rfl (h.newCycle s hs))

theorem startFrame (s : State) (hs : P s) : P s.startFrame := by
  unfold State.startFrame
  split
  · exact hs
  · exact h.setLink _ _ rfl rfl hs

/-! ### Every command -/

/-- Each command keeps the property. -/
theorem exec (c : Instr) (s t : State) (hc : C c) (hs : P s) (he : exec c s = .next t) : P t := by
  have hn := h.newCycle s hs
  cases c
  case upstreamRequest => cases he; exact h.upstreamRequest _ _ _ _ _ hn
  case responseIssue => cases he; exact h.issueResponse _ _ _ hc hn
  case memoryGrant => cases he; exact h.arbitrate _ hn
  case transactionPerformed => cases he; exact h.performed _ _ _ hc hn
  case drainTakeItem => cases he; exact h.decideItem _ hn
  case endReport => cases he; exact h.endItem _ hc hn
  case tick => cases he; split; exacts [h.tickBase _ _ hn, hn]
  case periodMark => cases he; split; exacts [h.mark _ _ hn, hn]
  case settleWindowEnd => cases he; split; exacts [h.settleMarkAt _ _ hn, hn]
  case releaseLineQualifiedEdge => cases he; exact h.sampleReleaseLine _ _ _ _ hn
  case faultLineQualifiedEdge => cases he; exact h.sampleFaultLine _ _ _ _ hn
  case frameStart => cases he; exact h.startFrame _ hn
  case frameEnd => cases he; exact h.finishFrame _ _ hs
  case nop => cases he; exact h.alwaysTaken _ _ (fun u hu => h.setLink _ _ rfl rfl hu) hs
  case readResult => cases he; exact h.alwaysTaken _ _ (fun u hu => h.setLink _ _ rfl rfl hu) hs
  case softResetComplete => cases he; exact h.tryComplete _ hc hn
  case powerOnReset => cases he; exact h.powerOn _ hc hs
  case powerOnResetEnd => cases he; exact h.powerOnEnd _ _ _ hn
  all_goals
    rw [exec_eq_command s rfl rfl] at he
    cases he
    exact h.command _ _ s hs

end KeptBy

/-- Every step keeps the property: the command at the front of the queue does, and so does a cycle on an empty queue. -/
theorem Kept.step {P : State → Prop} (h : Kept P) (s t : State) (hs : P s) (ht : step s = .next t) : P t := by
  unfold Machine.step at ht
  split at ht
  · cases ht
    exact h.cycle s hs
  · exact h.exec _ _ t trivial (h.pending s _ hs) ht

end Sys2Proof.Machine

/-! PROOFS. What the watch unit and the release scheduler keep: a property kept by the changes they are made of is kept by every one of
their operations. -/

namespace Sys2Proof.Machine

/-! ### The watch unit -/

/-- The property is kept by the changes the watch unit's operations are made of: of a watch whose settle fields do not grow, of the service
list, of the event queue, by a trip, and by putting one event's safe jobs in order. -/
structure WatchClosed (P : State → Prop) : Prop where
  setWatch : ∀ s w x, x.settleLength = (s.watch w).settleLength → x.marks ≤ (s.watch w).marks → P s → P (s.setWatch w x)
  setService : ∀ s l, P s → P (s.setPort { s.port with service := l })
  submit : ∀ s b, P s → P (s.submit b)
  tripSource : ∀ s g x, P s → P (s.tripSource g x)
  reorder : ∀ s before, P s → P (s.setReleaseQueue (inGroupOrder before s.releaseQueue))

theorem foldl_keeps {α : Type} {P : State → Prop} {f : State → α → State} (hf : ∀ s a, P s → P (f s a)) (l : List α) (s : State)
    (hs : P s) : P (l.foldl f s) := by
  induction l generalizing s with
  | nil => exact hs
  | cons a l ih => exact ih _ (hf s a hs)

namespace WatchClosed

variable {P : State → Prop} (h : WatchClosed P) {s : State} (w : Fin 12)
include h

theorem eachWatch {f : State → Fin 12 → State} (hf : ∀ s w, P s → P (f s w)) (hs : P s) : P (s.eachWatch f) :=
  h.reorder _ _ (foldl_keeps hf _ _ hs)

theorem reportMismatch (c : MismatchCause) (hs : P s) : P (s.reportMismatch w c) := by
  obtain ⟨-, heq⟩ | ⟨-, heq⟩ := reportMismatch_cases s w c
  · rw [heq]; exact h.submit _ _ hs
  · rw [heq]; exact h.tripSource _ _ _ (h.submit _ _ hs)

theorem toMismatch (hs : P s) : P (s.toMismatch w) := by
  unfold State.toMismatch
  dsimp only
  split
  · exact h.reportMismatch w _ (h.setWatch _ _ _ rfl (Nat.le_refl _) hs)
  · exact h.setWatch _ _ _ rfl (Nat.le_refl _) hs

theorem toMatch (hs : P s) : P (s.toMatch w) := by
  have hw (x : WatchState) : P (s.setWatch w { s.watch w with state := x, deferred := false }) := h.setWatch _ _ _ rfl (Nat.le_refl _) hs
  unfold State.toMatch
  dsimp only
  split
  · exact hw _
  · split
    · exact h.submit _ _ (hw _)
    · exact hw _

theorem settleReport (hs : P s) : P (s.settleReport w) :=
  h.reportMismatch w _ (h.setWatch _ _ _ rfl (Nat.le_refl _) hs)

theorem transition (before after : Found) (hs : P s) : P (s.transition w before after) := by
  cases before <;> cases after
  · exact hs
  · exact h.toMismatch w hs
  · exact h.toMatch w hs
  · exact hs

theorem landedAt (a : WordAddr) (d : Word) (m : Mask) (e : Bool) (hs : P s) : P (State.landedAt a d m e s w) := by
  unfold State.landedAt
  split
  · split
    · split
      · exact h.setService _ _ (h.setWatch _ _ _ rfl (Nat.le_refl _) hs)
      · exact h.transition w _ _ (h.setWatch _ _ _ rfl (Nat.le_refl _) hs)
    · exact hs
  · exact hs
  · exact hs

theorem landedWrite (a : WordAddr) (d : Word) (m : Mask) (e : Bool) (hs : P s) : P (s.landedWrite a d m e) :=
  h.eachWatch (fun _ w => h.landedAt w a d m e) hs

theorem armFailed (r : Bool) (hs : P s) : P (s.armFailed w r) :=
  h.submit _ _ (h.setWatch _ _ _ rfl (Nat.zero_le _) hs)

theorem armed (word : Word) (hs : P s) : P (s.armed w word) :=
  h.submit _ _ (h.setWatch _ _ _ rfl (Nat.le_refl _) hs)

theorem reArmed (word : Word) (prior : Found) (hs : P s) : P (s.reArmed w word prior) := by
  have ha (x : WatchState) (b : EventBody) : P ((s.setWatch w { s.watch w with shadow := word, state := x, probe := .none }).submit b) :=
    h.submit _ _ (h.setWatch _ _ _ rfl (Nat.le_refl _) hs)
  unfold State.reArmed
  dsimp only
  split
  · split
    · exact h.settleReport w (ha _ _)
    · exact ha _ _
  · exact ha _ _
  · exact h.transition w _ _ (ha _ _)
  · exact h.transition w _ _ (ha _ _)

theorem probeResult (error : Bool) (word : Word) (hs : P s) : P (s.probeResult w error word) := by
  have hn : P (s.setWatch w { s.watch w with probe := .none }) := h.setWatch _ _ _ rfl (Nat.le_refl _) hs
  unfold State.probeResult
  dsimp only
  split
  · split
    · exact h.armFailed w _ hs
    · exact h.armed w _ hs
  · split
    · exact h.armFailed w _ hs
    · exact h.reArmed w _ _ hs
  · exact hn
  · exact hn
  · exact hn
  · exact hs
  · exact hs

theorem settleMarkAt (hs : P s) : P (s.settleMarkAt w) := by
  have hm : P (s.setWatch w { s.watch w with marks := (s.watch w).marks - 1 }) := h.setWatch _ _ _ rfl (Nat.sub_le _ _) hs
  unfold State.settleMarkAt State.windowEnd
  dsimp only
  split
  · split
    · exact h.settleReport w hm
    · exact hm
  · exact hm

theorem settleMarks (b : Base) (hs : P s) : P (s.settleMarks b) := by
  refine h.eachWatch (fun s w hs => ?_) hs
  split
  · exact h.settleMarkAt w hs
  · exact hs

theorem armWatch (hs : P s) : P (s.armWatch w) :=
  h.setService _ _ (h.setWatch _ _ _ rfl (Nat.zero_le _) hs)

theorem disarmWatch (hs : P s) : P (s.disarmWatch w) := by
  have hd : P (s.setWatch w { (s.watch w).disarm with probe := (s.watch w).probe.afterDisarm }) := h.setWatch _ _ _ rfl (Nat.zero_le _) hs
  unfold State.disarmWatch
  dsimp only
  split
  · exact h.setService _ _ hd
  · exact hd

theorem setReference (r m : Word) (hs : P s) : P (s.setReference w r m) := by
  have hr : P (s.setWatch w { s.watch w with reference := r, compareMask := m }) := h.setWatch _ _ _ rfl (Nat.le_refl _) hs
  unfold State.setReference
  dsimp only
  split
  · split
    · exact h.reportMismatch w _ (h.setWatch _ _ _ (by simp) (by simp) hr)
    · exact hr
  · split
    · exact h.toMatch w hr
    · exact hr
  · exact hr
  · exact hr

theorem softResetWatch (hs : P s) : P (s.softResetWatch w) :=
  h.setWatch _ _ _ rfl (Nat.le_refl _) (h.disarmWatch w hs)

end WatchClosed

/-! ### The release scheduler -/

/-- The property does not depend on the bases' and the lines' records, and is kept by what their ticks, marks and edges reach. -/
structure SchedulerClosed (P : State → Prop) : Prop where
  setBase : ∀ s b x, P s → P (s.setBase b x)
  setReleaseLine : ∀ s n x, P s → P (s.setReleaseLine n x)
  setFaultLine : ∀ s n x, P s → P (s.setFaultLine n x)
  candidate : ∀ s g, P s → P (s.candidate g)
  tripSource : ∀ s g x, P s → P (s.tripSource g x)
  settleMarks : ∀ s b, P s → P (s.settleMarks b)
  newCycle : ∀ s, P s → P s.newCycle

namespace SchedulerClosed

variable {P : State → Prop} (h : SchedulerClosed P) {s : State}
include h

theorem phaseMatches (b : Base) (hs : P s) : P (s.phaseMatches b) := by
  refine foldl_keeps (fun s g hs => ?_) _ _ hs
  split
  · exact h.candidate _ _ hs
  · exact hs

theorem lineCandidates (n : Fin 4) (hs : P s) : P (s.lineCandidates n) := by
  refine foldl_keeps (fun s g hs => ?_) _ _ hs
  split
  · exact h.candidate _ _ hs
  · exact hs

theorem lineBecomesActive (n : Fin 2) (hs : P s) : P (s.lineBecomesActive n) := by
  refine foldl_keeps (fun s g hs => ?_) _ _ hs
  split
  · exact h.tripSource _ _ _ hs
  · exact hs

theorem ownMark (b : Base) (hs : P s) : P (s.ownMark b) :=
  h.settleMarks _ _ (h.phaseMatches b (h.setBase _ _ _ hs))

theorem mark (b : Base) (hs : P s) : P (s.mark b) := by
  cases b with
  | timeB => exact h.ownMark _ hs
  | timeA =>
    show P (s.ownMark .timeA).restartB
    have ho := h.ownMark .timeA hs
    obtain ⟨-, heq⟩ | ⟨-, -, -, heq⟩ | ⟨-, -, -, heq⟩ := restartB_cases (s.ownMark .timeA)
    · rw [heq]; exact ho
    · rw [heq]; exact h.setBase _ _ _ ho
    · rw [heq]; exact h.ownMark _ ho

theorem tickBase (b : Base) (hs : P s) : P (s.tickBase b) := by
  obtain ⟨-, heq⟩ | ⟨-, heq⟩ := tickBase_cases s b
  · rw [heq]; exact h.phaseMatches b (h.setBase _ _ _ hs)
  · rw [heq]; exact h.mark b hs

theorem changeFaultLine (n : Fin 2) (l : FaultLine) (hs : P s) : P (s.changeFaultLine n l) := by
  unfold State.changeFaultLine
  dsimp only
  split
  · exact h.lineBecomesActive n (h.setFaultLine _ _ _ hs)
  · exact h.setFaultLine _ _ _ hs

theorem sampleReleaseLine (n : Fin 4) (high : Bool) (cycles : Nat) (hs : P s) : P (s.sampleReleaseLine n high cycles) := by
  unfold State.sampleReleaseLine
  dsimp only
  split
  · exact h.setReleaseLine _ _ _ hs
  · split
    · exact h.setReleaseLine _ _ _ hs
    · split
      · exact h.setReleaseLine _ _ _ hs
      · split
        · exact h.lineCandidates n (h.setReleaseLine _ _ _ hs)
        · exact h.setReleaseLine _ _ _ hs

theorem sampleFaultLine (n : Fin 2) (high : Bool) (cycles : Nat) (hs : P s) : P (s.sampleFaultLine n high cycles) := by
  unfold State.sampleFaultLine
  dsimp only
  split
  · exact h.setFaultLine _ _ _ hs
  · split
    · exact h.setFaultLine _ _ _ hs
    · split
      · exact h.setFaultLine _ _ _ hs
      · exact h.changeFaultLine _ _ hs

theorem tickIfDue (b : Base) (hs : P s) : P (s.tickIfDue b) := by
  unfold State.tickIfDue
  split
  · exact h.tickBase b hs
  · exact hs

theorem cycle (hs : P s) : P s.cycle := by
  have hn := h.newCycle s hs
  unfold State.cycle
  dsimp only
  split
  · exact hn
  · refine foldl_keeps (fun s n => h.sampleFaultLine n _ _) _ _ (foldl_keeps (fun s n => h.sampleReleaseLine n _ _) _ _ ?_)
    exact h.tickIfDue _ (h.tickIfDue _ (h.setBase _ _ _ (h.setBase _ _ _ hn)))

theorem writeTimebase (i : Byte) (b : Base) (f : TimebaseFields) : Takes P (fun s => s.writeTimebase i b f) := by
  intro s d t _ hs hok
  dsimp only [State.writeTimebase, written] at hok
  split at hok
  · cases hok
  · split at hok
    · cases hok
    · cases hok
      exact h.setBase _ _ _ hs

theorem writeLines (f : LinesFields) : Takes P (fun s => s.writeLines f) := by
  intro s d t _ hs hok
  dsimp only [State.writeLines, written] at hok
  split at hok
  · cases hok
  · cases hok
    refine h.changeFaultLine _ _ (h.changeFaultLine _ _ ?_)
    exact h.setReleaseLine _ _ _ (h.setReleaseLine _ _ _ (h.setReleaseLine _ _ _ (h.setReleaseLine _ _ _ hs)))

theorem controlBases (b : Byte) (r : TimeBase → Bool) (f : TimeBase → TimeBase) : Takes P (fun s => s.controlBases b r f) := by
  intro s d t _ hs hok
  dsimp only [State.controlBases] at hok
  split at hok
  · cases hok
  · split at hok
    · cases hok
    · cases hok
      exact foldl_keeps (fun s b hs => h.setBase _ _ _ hs) _ _ hs

end SchedulerClosed

end Sys2Proof.Machine

/-! PROOFS. Chapter 04: the order of the release queue (R83, R116). Safe jobs ahead of batch items is a fact about every pair of items, so
it passes to every sublist; one event's safe jobs are put in order by a permutation that moves safe jobs alone. -/

namespace Sys2Proof.Machine

open Sys2Proof.Safety

/-! ### Safe jobs ahead of batch items -/

/-- R83: no batch item stands ahead of a safe job. -/
def SafeFirst (q : List Item) : Prop := q.Pairwise (fun a b => b.isSafe = true → a.isSafe = true)

theorem safeFirst_iff (q : List Item) : SafeFirst q ↔ ∀ it ∈ q.dropWhile (·.isSafe), it.isSafe = false := by
  induction q with
  | nil => simp [SafeFirst]
  | cons a q ih =>
    unfold SafeFirst at ih ⊢
    rw [List.pairwise_cons]
    cases ha : a.isSafe with
    | true => simpa [ha] using ih
    | false =>
      simp only [List.dropWhile_cons, ha, Bool.false_eq_true, imp_false, Bool.not_eq_true, if_false, List.mem_cons, forall_eq_or_imp, true_and]
      refine ⟨fun h => h.1, fun h => ⟨h, ?_⟩⟩
      exact List.pairwise_of_forall_mem_list fun x _ y hy hys => absurd (hys.symm.trans (h y hy)) (by simp)

theorem SafeFirst.sublist {q r : List Item} (h : SafeFirst q) (hr : r.Sublist q) : SafeFirst r := List.Pairwise.sublist hr h

/-- R83: the order of kinds alone decides. -/
theorem SafeFirst.congr {q r : List Item} (h : SafeFirst q) (hr : r.map (·.isSafe) = q.map (·.isSafe)) : SafeFirst r := by
  have key (l : List Item) : SafeFirst l ↔ (l.map (·.isSafe)).Pairwise (fun a b => b = true → a = true) :=
    (List.pairwise_map (f := Item.isSafe) (R := fun a b => b = true → a = true)).symm
  rw [key] at h ⊢
  rwa [hr]

theorem SafeFirst.append_batch {q : List Item} (h : SafeFirst q) (g : Fin 8) (n : Seq) : SafeFirst (q ++ [.batch g n]) := by
  refine List.pairwise_append.2 ⟨h, List.pairwise_singleton _ _, fun a _ b hb hs => ?_⟩
  rw [List.mem_singleton.1 hb] at hs
  cases hs

/-- R116: in an ordered queue a safe job joins between the safe jobs and the batch items. -/
theorem SafeFirst.joinSafe_eq {q : List Item} (h : SafeFirst q) (g : Fin 8) :
    joinSafe q g = q.filter (·.isSafe) ++ .safe g :: q.filter (fun it => !it.isSafe) := by
  have key : q.takeWhile (·.isSafe) = q.filter (·.isSafe) ∧ q.dropWhile (·.isSafe) = q.filter (fun it => !it.isSafe) := by
    induction q with
    | nil => simp
    | cons a q ih =>
      obtain ⟨h1, h2⟩ := List.pairwise_cons.1 h
      cases ha : a.isSafe with
      | true =>
        obtain ⟨e1, e2⟩ := ih h2
        simp [ha, e1, e2]
      | false =>
        have hall : ∀ b ∈ q, b.isSafe = false := fun b hb => by
          have := h1 b hb
          simpa [ha] using this
        have e1 : q.filter (·.isSafe) = [] := List.filter_eq_nil_iff.2 fun b hb => by simp [hall b hb]
        have e2 : q.filter (fun it => !it.isSafe) = q := List.filter_eq_self.2 fun b hb => by simp [hall b hb]
        simp [ha, e1, e2]
  rw [joinSafe, key.1, key.2]

theorem joinSafe_perm (q : List Item) (g : Fin 8) : (joinSafe q g).Perm (.safe g :: q) := by
  have h : q.takeWhile (·.isSafe) ++ q.dropWhile (·.isSafe) = q := List.takeWhile_append_dropWhile
  exact List.perm_middle.trans (by rw [h])

theorem SafeFirst.joinSafe {q : List Item} (h : SafeFirst q) (g : Fin 8) : SafeFirst (joinSafe q g) := by
  rw [h.joinSafe_eq]
  refine List.pairwise_append.2 ⟨h.sublist List.filter_sublist, List.pairwise_cons.2 ⟨fun _ _ _ => rfl, h.sublist List.filter_sublist⟩, ?_⟩
  intro a ha _ _ _
  exact (List.mem_filter.1 ha).2

/-! ### One event's safe jobs in order (R83) -/

/-- R83: the item is a safe job that has joined since `before`. -/
def newSafe (before : List Item) (it : Item) : Bool := it.isSafe && !before.contains it

theorem fillSafe_nil (before q : List Item) : fillSafe before [] q = q := by cases q <;> rfl

theorem fillSafe_cons_new (before : List Item) (g : Fin 8) (gs : List (Fin 8)) (it : Item) (q : List Item)
    (h : newSafe before it = true) : fillSafe before (g :: gs) (it :: q) = .safe g :: fillSafe before gs q := by
  rw [newSafe] at h
  rw [fillSafe, h]
  rfl

/-- The kinds of the items stay in their places. -/
theorem fillSafe_kinds (before : List Item) (gs : List (Fin 8)) (q : List Item) :
    (fillSafe before gs q).map (·.isSafe) = q.map (·.isSafe) := by
  induction q generalizing gs with
  | nil => cases gs <;> rfl
  | cons it q ih =>
    cases hn : newSafe before it with
    | false => rw [fillSafe_cons_of_old _ _ _ _ hn, List.map_cons, List.map_cons, ih]
    | true =>
      cases gs with
      | nil => rw [fillSafe_nil]
      | cons g gs =>
        rw [fillSafe_cons_new _ _ _ _ _ hn, List.map_cons, List.map_cons, ih]
        simp only [newSafe, Bool.and_eq_true] at hn
        rw [hn.1]
        rfl

/-- With a group for each new safe job, the old items stay and the new safe jobs are those of the groups, in their order. -/
theorem fillSafe_filter (before : List Item) (gs : List (Fin 8)) (q : List Item)
    (hlen : gs.length = (q.filter (newSafe before)).length) (hgs : ∀ g ∈ gs, newSafe before (.safe g) = true) :
    (fillSafe before gs q).filter (newSafe before) = gs.map .safe ∧
      (fillSafe before gs q).filter (fun it => !newSafe before it) = q.filter (fun it => !newSafe before it) := by
  induction q generalizing gs with
  | nil =>
    obtain rfl := List.length_eq_zero_iff.1 hlen
    exact ⟨rfl, rfl⟩
  | cons it q ih =>
    cases hn : newSafe before it with
    | false =>
      rw [fillSafe_cons_of_old _ _ _ _ hn]
      rw [List.filter_cons_of_neg (by simp [hn])] at hlen
      obtain ⟨h1, h2⟩ := ih gs hlen hgs
      simp [hn, h1, h2]
    | true =>
      rw [List.filter_cons_of_pos hn] at hlen
      cases gs with
      | nil => cases hlen
      | cons g gs =>
        obtain ⟨h1, h2⟩ := ih gs (by simpa using hlen) (fun x hx => hgs x (List.mem_cons_of_mem _ hx))
        have hg := hgs g List.mem_cons_self
        rw [fillSafe_cons_new _ _ _ _ _ hn]
        simp [hn, hg, h1, h2]

/-- The groups whose safe jobs have joined since `before`, in increasing order of number. -/
def newSafeGroups (before q : List Item) : List (Fin 8) :=
  groupNumbers.filter (fun g => q.contains (.safe g) && !before.contains (.safe g))

theorem groupNumbers_eq : groupNumbers = List.finRange 8 := by decide

theorem mem_groupNumbers (g : Fin 8) : g ∈ groupNumbers := by revert g; decide

theorem groupNumbers_sorted : groupNumbers.Pairwise (· < ·) := by decide

theorem inGroupOrder_eq (before q : List Item) : inGroupOrder before q = fillSafe before (newSafeGroups before q) q := rfl

theorem newSafeGroups_perm (before q : List Item) (hq : q.Nodup) :
    ((newSafeGroups before q).map .safe).Perm (q.filter (newSafe before)) := by
  have hinj : Function.Injective Item.safe := fun a b h => by cases h; rfl
  have hnd : (newSafeGroups before q).Nodup := (groupNumbers_sorted.imp fun h => Fin.ne_of_lt h).filter _
  refine (List.perm_ext_iff_of_nodup (hnd.map hinj) (hq.filter _)).2 fun it => ?_
  simp only [newSafeGroups, List.mem_map, List.mem_filter, mem_groupNumbers, true_and, Bool.and_eq_true, List.contains_iff_mem, newSafe]
  constructor
  · rintro ⟨g, ⟨h1, h2⟩, rfl⟩
    exact ⟨h1, rfl, h2⟩
  · rintro ⟨h1, h2, h3⟩
    cases it with
    | batch g n => cases h2
    | safe g => exact ⟨g, ⟨h1, h3⟩, rfl⟩

theorem newSafeGroups_new (before q : List Item) : ∀ g ∈ newSafeGroups before q, newSafe before (.safe g) = true := by
  intro g hg
  simp only [newSafeGroups, List.mem_filter, Bool.and_eq_true] at hg
  exact Bool.and_eq_true_iff.2 ⟨rfl, hg.2.2⟩

/-- R83: the order of one event's safe jobs, and everything else where it stood. -/
theorem inGroupOrder_filter (before q : List Item) (hq : q.Nodup) :
    (inGroupOrder before q).filter (newSafe before) = (newSafeGroups before q).map .safe ∧
      (inGroupOrder before q).filter (fun it => !newSafe before it) = q.filter (fun it => !newSafe before it) :=
  fillSafe_filter before _ q (List.length_map (as := newSafeGroups before q) Item.safe ▸ (newSafeGroups_perm before q hq).length_eq) (newSafeGroups_new before q)

theorem inGroupOrder_perm (before q : List Item) (hq : q.Nodup) : (inGroupOrder before q).Perm q := by
  obtain ⟨h1, h2⟩ := inGroupOrder_filter before q hq
  have split (l : List Item) : (l.filter (newSafe before) ++ l.filter (fun it => !newSafe before it)).Perm l :=
    List.filter_append_perm _ l
  refine (split _).symm.trans (List.Perm.trans ?_ (split q))
  rw [h1, h2]
  exact (newSafeGroups_perm before q hq).append_right _

theorem SafeFirst.inGroupOrder {q : List Item} (h : SafeFirst q) (before : List Item) : SafeFirst (inGroupOrder before q) :=
  h.congr (fillSafe_kinds before _ q)

end Sys2Proof.Machine

/-! PROOFS. Chapters 03 and 04: batches, pool and release queue, group by group (R40 to R46, R83). What an operation of one group's
controller owes is said here once: the group's own record and items, the pool's sum, and the order of the queue. -/

namespace Sys2Proof.Machine

open Sys2Proof.Safety

/-! ### One group -/

/-- R83: what an item of the group stands for. -/
def Group.fits (gr : Group) : Item → Bool
  | .batch _ q => match gr.other with
    | some b => b.state == .queued && b.seq == q
    | none => false
  | .safe _ => gr.state == .safing

theorem itemFits_eq (s : State) (it : Item) : itemFits s it = (s.group it.group).fits it := by cases it <;> rfl

@[simp] theorem Group.fits_safe (gr : Group) (g : Fin 8) : gr.fits (.safe g) = true ↔ gr.state = .safing := by
  simp [Group.fits]

@[simp] theorem Group.fits_batch (gr : Group) (g : Fin 8) (q : Seq) :
    gr.fits (.batch g q) = true ↔ ∃ b, gr.other = some b ∧ b.state = .queued ∧ b.seq = q := by
  unfold Group.fits
  cases gr.other <;> simp

/-- A group's record, its items in the release queue `q`, and what a soft reset leaves of it, fit together. -/
structure GroupFits (soft : Bool) (q : List Item) (g : Fin 8) (gr : Group) : Prop where
  batches : GroupBatchesOk gr
  queued : ∀ b, gr.other = some b → b.state = .queued → Item.batch g b.seq ∈ q
  items : ∀ it ∈ q, it.group = g → gr.fits it = true
  reset : soft = true → gr.opened = none ∧ (gr.state = .off ∨ gr.state = .safing ∨ gr.state = .stopping)

namespace GroupFits

variable {soft : Bool} {q r : List Item} {g : Fin 8} {gr : Group}

/-- Only the group's own items matter. -/
theorem congr_queue (h : GroupFits soft q g gr) (hq : ∀ it, it.group = g → (it ∈ r ↔ it ∈ q)) : GroupFits soft r g gr :=
  ⟨h.batches, fun b hb hs => (hq _ rfl).2 (h.queued b hb hs), fun it hi hg => h.items it ((hq it hg).1 hi) hg, h.reset⟩

/-- R83: a group that is not SAFING has no safe job in the queue. -/
theorem no_safe (h : GroupFits soft q g gr) (hs : gr.state ≠ .safing) : .safe g ∉ q :=
  fun hi => hs ((Group.fits_safe gr g).1 (h.items _ hi rfl))

/-- R83: a group that is not SAFING and has no QUEUED batch has no item in the queue. -/
theorem no_item (h : GroupFits soft q g gr) (hs : gr.state ≠ .safing) (hb : ∀ b, gr.other = some b → b.state ≠ .queued) :
    ∀ it ∈ q, it.group ≠ g := by
  intro it hi hg
  have hf := h.items it hi hg
  cases it with
  | safe g => exact hs ((Group.fits_safe gr g).1 hf)
  | batch g n =>
    obtain ⟨b, ho, hq, -⟩ := (Group.fits_batch gr g n).1 hf
    exact hb b ho hq

/-- A group without an item and without a QUEUED batch fits by its record alone. -/
theorem of_no_item (hb : GroupBatchesOk gr) (hq : ∀ b, gr.other = some b → b.state ≠ .queued) (hi : ∀ it ∈ q, it.group ≠ g)
    (hr : soft = true → gr.opened = none ∧ (gr.state = .off ∨ gr.state = .safing ∨ gr.state = .stopping)) : GroupFits soft q g gr :=
  ⟨hb, fun b ho hs => absurd hs (hq b ho), fun it h hg => absurd hg (hi it h), hr⟩

/-- A group whose QUEUED batch has just joined the queue. -/
theorem of_queued {b : Batch} (hb : GroupBatchesOk gr) (ho : gr.other = some b) (hs : b.state = .queued) (hi : ∀ it ∈ q, it.group ≠ g)
    (hr : soft = true → gr.opened = none ∧ (gr.state = .off ∨ gr.state = .safing ∨ gr.state = .stopping)) :
    GroupFits soft (q ++ [.batch g b.seq]) g gr := by
  refine ⟨hb, fun c hc _ => ?_, fun it h hg => ?_, hr⟩
  · obtain rfl := Option.some.inj (ho.symm.trans hc)
    simp
  · rcases List.mem_append.1 h with h | h
    · exact absurd hg (hi it h)
    · obtain rfl := List.mem_singleton.1 h
      exact (Group.fits_batch gr g _).2 ⟨b, ho, hs, rfl⟩

end GroupFits

/-- Two records that agree on everything about batches. -/
structure SameBatches (a b : Group) : Prop where
  state : b.state = a.state
  opened : b.opened = a.opened
  other : b.other = a.other
  sealPending : b.sealPending = a.sealPending
  nextSeq : b.nextSeq = a.nextSeq
  held : b.held = a.held
  quota : b.config.quota = a.config.quota

theorem SameBatches.groupBatchesOk {a b : Group} (h : SameBatches a b) (ha : GroupBatchesOk a) : GroupBatchesOk b := by
  obtain ⟨h1, h2, h3, h4, h5, h6, h7⟩ := h
  simpa only [GroupBatchesOk, ShapeOk, holdsOpen, h1, h2, h3, h4, h5, h6, h7] using ha

theorem SameBatches.groupFits {a b : Group} (h : SameBatches a b) {soft : Bool} {q : List Item} {g : Fin 8}
    (ha : GroupFits soft q g a) : GroupFits soft q g b := by
  refine ⟨h.groupBatchesOk ha.batches, fun c hc => ha.queued c (h.other ▸ hc), fun it hi hg => ?_, fun hs => ?_⟩
  · have := ha.items it hi hg
    cases it <;> simpa only [Group.fits, h.other, h.state] using this
  · rw [h.opened, h.state]
    exact ha.reset hs

/-! ### All groups -/

/-- The batches of all groups, the pool and the release queue fit together: `BatchesOk` without the drain engine's part. -/
structure CoreOk (s : State) : Prop where
  groups : ∀ g, GroupFits s.softResetting s.releaseQueue g (s.group g)
  pool : PoolOk s
  once : (s.releaseQueue.map (·.group)).Nodup
  order : SafeFirst s.releaseQueue
  soft : s.softResetting = true → s.releaseQueue = []

theorem batchesOk_iff (s : State) : BatchesOk s ↔ CoreOk s ∧ DrainOk s := by
  constructor
  · rintro ⟨hg, hp, ⟨hn, ho, hq, hi⟩, hd, hs⟩
    refine ⟨⟨fun g => ⟨hg g, fun b hb => hq g b hb, fun it hit hgr => ?_, fun h => (hs h).2 g⟩, hp, hn, (safeFirst_iff _).2 ho, fun h => (hs h).1⟩, hd⟩
    rw [← hgr, ← itemFits_eq]
    exact hi it hit
  · rintro ⟨⟨hg, hp, hn, ho, hs⟩, hd⟩
    refine ⟨fun g => (hg g).batches, hp, ⟨hn, (safeFirst_iff _).1 ho, fun g b hb => (hg g).queued b hb, fun it hit => ?_⟩, hd,
      fun h => ⟨hs h, fun g => (hg g).reset h⟩⟩
    rw [itemFits_eq]
    exact (hg _).items it hit rfl

theorem CoreOk.nodup {s : State} (h : CoreOk s) : s.releaseQueue.Nodup := h.once.of_map

/-- The same but for one group's own part. -/
structure RestOk (g : Fin 8) (s : State) : Prop where
  others : ∀ h, h ≠ g → GroupFits s.softResetting s.releaseQueue h (s.group h)
  pool : PoolOk s
  once : (s.releaseQueue.map (·.group)).Nodup
  order : SafeFirst s.releaseQueue
  soft : s.softResetting = true → s.releaseQueue = []

theorem CoreOk.rest {s : State} (h : CoreOk s) (g : Fin 8) : RestOk g s :=
  ⟨fun k _ => h.groups k, h.pool, h.once, h.order, h.soft⟩

theorem RestOk.core {s : State} {g : Fin 8} (h : RestOk g s) (hg : GroupFits s.softResetting s.releaseQueue g (s.group g)) : CoreOk s :=
  ⟨fun k => if e : k = g then e ▸ hg else h.others k e, h.pool, h.once, h.order, h.soft⟩

/-! ### Operations of one group's controller -/

/-- `t` is `s` but for group `g`, the free list, the group's items in the release queue, and the event queue. -/
structure OnlyGroup (g : Fin 8) (s t : State) : Prop where
  frame : GroupsOnly s t
  others : ∀ h, h ≠ g → t.group h = s.group h
  items : ∀ it : Item, it.group ≠ g → (it ∈ t.releaseQueue ↔ it ∈ s.releaseQueue)

namespace OnlyGroup

variable {g : Fin 8} {s t u : State}

@[refl] theorem refl (g : Fin 8) (s : State) : OnlyGroup g s s := ⟨.refl s, fun _ _ => rfl, fun _ _ => Iff.rfl⟩

theorem trans (h : OnlyGroup g s t) (k : OnlyGroup g t u) : OnlyGroup g s u :=
  ⟨h.frame.trans k.frame, fun x hx => (k.others x hx).trans (h.others x hx), fun it hit => (k.items it hit).trans (h.items it hit)⟩

end OnlyGroup

theorem setGroup_onlyGroup (s : State) (g : Fin 8) (x : Group) : OnlyGroup g s (s.setGroup g x) :=
  ⟨setGroup_groupsOnly s g x, fun h hh => by rw [setGroup_group, if_neg (Ne.symm hh)], fun _ _ => Iff.rfl⟩

theorem submit_onlyGroup (s : State) (g : Fin 8) (b : EventBody) : OnlyGroup g s (s.submit b) :=
  ⟨submit_groupsOnly s b, fun _ _ => submit_group _ _ _, fun _ _ => by rw [submit_releaseQueue]⟩

theorem setFreeSlots_onlyGroup (s : State) (g : Fin 8) (n : Nat) : OnlyGroup g s (s.setFreeSlots n) :=
  ⟨setFreeSlots_groupsOnly s n, fun _ _ => rfl, fun _ _ => Iff.rfl⟩

theorem slotsInUse_eq_sum (s : State) : slotsInUse s = ∑ g : Fin 8, (s.group g).held := by
  rw [Fin.sum_univ_eight]
  rfl

/-- The pool's sum changes by the one group's held count. -/
theorem OnlyGroup.slotsInUse_add {g : Fin 8} {s t : State} (h : OnlyGroup g s t) :
    slotsInUse t + (s.group g).held = slotsInUse s + (t.group g).held := by
  have key (u : State) : (u.group g).held + ∑ k ∈ Finset.univ.erase g, (u.group k).held = slotsInUse u := by
    rw [slotsInUse_eq_sum]
    exact Finset.add_sum_erase Finset.univ (fun k => (u.group k).held) (Finset.mem_univ g)
  have hsum : ∑ k ∈ Finset.univ.erase g, (t.group k).held = ∑ k ∈ Finset.univ.erase g, (s.group k).held :=
    Finset.sum_congr rfl fun k hk => by rw [h.others k (Finset.ne_of_mem_erase hk)]
  have hs := key s
  have ht := key t
  omega

/-- The slot that leaves the pool or returns to it is the group's own. -/
theorem OnlyGroup.poolOk {g : Fin 8} {s t : State} (h : OnlyGroup g s t) (hs : PoolOk s)
    (hheld : (t.group g).held + t.freeSlots = (s.group g).held + s.freeSlots) : PoolOk t := by
  have := h.slotsInUse_add
  unfold PoolOk at hs ⊢
  omega

theorem RestOk.of_onlyGroup {g : Fin 8} {s t : State} (hs : RestOk g s) (h : OnlyGroup g s t)
    (hheld : (t.group g).held + t.freeSlots = (s.group g).held + s.freeSlots) (honce : (t.releaseQueue.map (·.group)).Nodup)
    (horder : SafeFirst t.releaseQueue) (hsoft : s.softResetting = true → t.releaseQueue = []) : RestOk g t := by
  have e := h.frame.softResetting
  refine ⟨fun k hk => ?_, h.poolOk hs.pool hheld, honce, horder, fun ht => hsoft (e ▸ ht)⟩
  rw [e, h.others k hk]
  exact (hs.others k hk).congr_queue fun it hit => h.items it (by rw [hit]; exact hk)

/-- The same where the release queue stays. -/
theorem RestOk.of_sameQueue {g : Fin 8} {s t : State} (hs : RestOk g s) (h : OnlyGroup g s t)
    (hheld : (t.group g).held + t.freeSlots = (s.group g).held + s.freeSlots) (hq : t.releaseQueue = s.releaseQueue) : RestOk g t :=
  hs.of_onlyGroup h hheld (by rw [hq]; exact hs.once) (by rw [hq]; exact hs.order) (fun h => by rw [hq]; exact hs.soft h)

/-- The same where the group's batch item joins at the tail. -/
theorem RestOk.of_append {g : Fin 8} {s t : State} {n : Seq} (hs : RestOk g s) (h : OnlyGroup g s t)
    (hheld : (t.group g).held + t.freeSlots = (s.group g).held + s.freeSlots)
    (hq : t.releaseQueue = s.releaseQueue ++ [.batch g n]) (hnone : ∀ it ∈ s.releaseQueue, it.group ≠ g)
    (hsoft : s.softResetting = false) : RestOk g t := by
  refine hs.of_onlyGroup h hheld ?_ (by rw [hq]; exact hs.order.append_batch g n) (fun hh => by rw [hsoft] at hh; cases hh)
  rw [hq, List.map_append]
  refine List.nodup_append.2 ⟨hs.once, List.nodup_singleton _, fun a ha b hb e => ?_⟩
  obtain ⟨it, hit, rfl⟩ := List.mem_map.1 ha
  rw [List.map_singleton, List.mem_singleton] at hb
  exact hnone it hit (e.trans hb)

/-! ### The drain engine's part -/

/-- R90, R97: the write the engine has raised, while it is writing: of the batch's first entry, or of the safe entry it stands at. -/
theorem drainWrite_eq_some (s : State) (x : WordAddr × Word × Mask) :
    s.drainWrite = some x ↔ s.drain.progress = .writing ∧
      ((∃ g q b e, s.drain.current = some (.batch g q) ∧ (s.group g).other = some b ∧ b.entries.head? = some e ∧
          x = (e.addr, e.data, e.mask)) ∨
        ∃ g, s.drain.current = some (.safe g) ∧
          x = (s.safeTable[s.drain.safeNext].addr, s.safeTable[s.drain.safeNext].data, s.safeTable[s.drain.safeNext].mask)) := by
  unfold State.drainWrite
  cases hp : s.drain.progress with
  | ending => simp
  | writing =>
    cases hc : s.drain.current with
    | none => simp
    | some it =>
      cases it with
      | safe g => simp [eq_comm]
      | batch g q =>
        cases ho : (s.group g).other with
        | none => simp [ho]
        | some b => simp [ho, eq_comm]

/-- What an operation of group `g`'s controller owes the drain engine: a DRAINING batch stays as it is, a SAFING group stays SAFING, and
its safe job joins the queue only once. -/
structure KeepsDrain (g : Fin 8) (s t : State) : Prop where
  draining : ∀ b : Batch, b.state = .draining → ((t.group g).other = some b ↔ (s.group g).other = some b)
  safing : (s.group g).state = .safing → (t.group g).state = .safing
  queue : (s.group g).state = .safing → .safe g ∈ t.releaseQueue → .safe g ∈ s.releaseQueue

/-- `DrainOk` by the engine's record, the port and the safe-image table, which an operation of the group controllers leaves alone. -/
theorem drainOk_of_onlyGroup {g : Fin 8} {s t : State} (hs : DrainOk s) (h : OnlyGroup g s t) (hk : KeepsDrain g s t) : DrainOk t := by
  obtain ⟨hdr, hfit, hport⟩ := hs
  have hother (k : Fin 8) (b : Batch) (hb : b.state = .draining) : (t.group k).other = some b ↔ (s.group k).other = some b := by
    by_cases e : k = g
    · rw [e]; exact hk.draining b hb
    · rw [h.others k e]
  have hwf (it : Item) (hit : writtenFits s it = true) : writtenFits t it = true := by
    cases it with
    | batch k q =>
      unfold writtenFits at hit ⊢
      cases ho : (s.group k).other with
      | none => simp [ho] at hit
      | some b =>
        simp only [ho, Bool.and_eq_true, beq_iff_eq] at hit
        simp [(hother k b hit.1).2 ho, hit]
    | safe k =>
      simp only [writtenFits, Bool.and_eq_true, beq_iff_eq, Bool.not_eq_true', h.frame.safeTable, h.frame.drain] at hit ⊢
      obtain ⟨⟨⟨h1, h2⟩, h3⟩, h4⟩ := hit
      have h2 : .safe k ∉ s.releaseQueue := by simpa using h2
      refine ⟨⟨⟨?_, ?_⟩, h3⟩, h4⟩
      · by_cases e : k = g
        · rw [e] at h1 ⊢; exact hk.safing h1
        · rw [h.others k e]; exact h1
      · suffices .safe k ∉ t.releaseQueue by simpa using this
        intro hin
        by_cases e : k = g
        · subst e; exact h2 (hk.queue h1 hin)
        · exact h2 ((h.items (.safe k) e).1 hin)
  refine ⟨fun k b hb hbs => ?_, fun hp it hit => ?_, fun x hx hxr => ?_⟩
  · rw [h.frame.drain]
    exact hdr k b ((hother k b hbs).1 hb) hbs
  · rw [h.frame.drain] at hp hit
    exact hwf it (hfit hp it hit)
  · rw [h.frame.port] at hx
    obtain ⟨y, hy, hxy⟩ := hport x hx hxr
    refine ⟨y, ?_, hxy⟩
    obtain ⟨hp, hcase⟩ := (drainWrite_eq_some s y).1 hy
    refine (drainWrite_eq_some t y).2 ⟨by rw [h.frame.drain]; exact hp, ?_⟩
    simp only [h.frame.drain, h.frame.safeTable]
    obtain ⟨k, q, b, e, hc, ho, he, hxe⟩ | ⟨k, hc, hxe⟩ := hcase
    · have hw := hfit hp _ hc
      simp only [writtenFits, ho, Bool.and_eq_true, beq_iff_eq] at hw
      exact .inl ⟨k, q, b, e, hc, (hother k b hw.1).2 ho, he, hxe⟩
    · exact .inr ⟨k, hc, hxe⟩

/-- An operation of one group's controller keeps `BatchesOk`. -/
theorem batchesOk_of_onlyGroup {g : Fin 8} {s t : State} (hs : BatchesOk s) (h : OnlyGroup g s t) (hk : KeepsDrain g s t)
    (hr : RestOk g s → RestOk g t) (hg : GroupFits t.softResetting t.releaseQueue g (t.group g)) : BatchesOk t := by
  rw [batchesOk_iff] at hs ⊢
  exact ⟨(hr (hs.1.rest g)).core hg, drainOk_of_onlyGroup hs.2 h hk⟩

/-- A change of the group's record that leaves its batches, state and quota alone. -/
theorem batchesOk_setGroup_same {s : State} {g : Fin 8} {x : Group} (hs : BatchesOk s) (h : SameBatches (s.group g) x) :
    BatchesOk (s.setGroup g x) := by
  have ho := setGroup_onlyGroup s g x
  have e : (s.setGroup g x).group g = x := by simp
  have hc := ((batchesOk_iff s).1 hs).1
  refine batchesOk_of_onlyGroup hs ho ⟨fun b _ => by rw [e, h.other], fun hh => by rw [e, h.state, hh], fun _ hh => hh⟩
    (fun hr => hr.of_sameQueue ho (by rw [e, h.held]; rfl) rfl) ?_
  rw [e]
  exact h.groupFits (hc.groups g)

/-- `BatchesOk` reads the groups, the pool, the queue, the engine's place, the safe-image table, the port's transaction and whether a soft
reset is in progress. -/
theorem batchesOk_congr {s t : State} (hg : t.groups = s.groups) (hf : t.freeSlots = s.freeSlots) (hq : t.releaseQueue = s.releaseQueue)
    (hc : t.drain.current = s.drain.current) (hp : t.drain.progress = s.drain.progress) (hn : t.drain.safeNext = s.drain.safeNext)
    (hst : t.safeTable = s.safeTable) (hport : t.port.current = s.port.current) (hl : t.softResetting = s.softResetting)
    (hs : BatchesOk s) : BatchesOk t := by
  have eg (g : Fin 8) : t.group g = s.group g := by simp only [State.group, hg]
  have ei (it : Item) : itemFits t it = itemFits s it := by rw [itemFits_eq, itemFits_eq, eg]
  have ew (it : Item) : writtenFits t it = writtenFits s it := by cases it <;> simp only [writtenFits, eg, hq, hst, hn]
  have ed : t.drainWrite = s.drainWrite := by simp only [State.drainWrite, hc, hp, eg, hst, hn]
  simpa only [BatchesOk, PoolOk, slotsInUse, QueueOk, DrainOk, SoftResetOk, eg, ei, ew, ed, hf, hq, hc, hp, hport, hl] using hs

theorem batchesOk_submit {s : State} (b : EventBody) (hs : BatchesOk s) : BatchesOk (s.submit b) :=
  batchesOk_congr (by simp) (by simp) (by simp) (by simp) (by simp) (by simp) (by simp) (by simp)
    (submit_groupsOnly s b).softResetting hs

end Sys2Proof.Machine

/-! PROOFS. Chapters 03, 04 and 06: the operations of one group's controller keep batches, pool and release queue fitting together:
trips and discards (R60, R114 to R116), seals (R53, R54), staging (R47 to R50), release points (R77 to R80) and clearings (R125). -/

namespace Sys2Proof.Machine

open Sys2Proof.Safety

/-! ### Records of a group, by the batches it holds (R32, R44) -/

/-- A group without batches. -/
theorem groupBatchesOk_empty {gr : Group} (ho : gr.opened = none) (hot : gr.other = none) (hh : gr.held = 0)
    (hp : gr.sealPending = false) (hs : gr.state = .off ∨ gr.state = .safing ∨ gr.state = .faulted) : GroupBatchesOk gr := by
  refine ⟨⟨?_, ?_, ?_, ?_, ?_, ?_⟩, ?_, ?_, ?_, ?_, ?_⟩ <;> simp [ho, hot, hh, hp, holdsOpen, entryCount]
  all_goals obtain hs | hs | hs := hs <;> simp [hs]

/-- A group that holds one other batch: a DRAINING one while SAFING, or a QUEUED or DRAINING one while STOPPING. -/
theorem groupBatchesOk_other {gr : Group} {b : Batch} (ho : gr.opened = none) (hot : gr.other = some b) (hh : gr.held = b.entries.length)
    (hq : gr.held ≤ gr.config.quota) (hp : gr.sealPending = false) (hb : OtherOk b ∧ EntriesOk b) (hc : b.state ≠ .closed)
    (hs : gr.state = .safing ∧ b.state = .draining ∨ gr.state = .stopping) : GroupBatchesOk gr := by
  have hother : ∀ c ∈ gr.other, OtherOk c ∧ EntriesOk c := fun c hcc => Option.some.inj (hot.symm.trans hcc) ▸ hb
  refine ⟨⟨?_, ?_, ?_, ?_, ?_, ?_⟩, ?_, hq, ?_, hother, ?_⟩ <;> simp only [ho, hot, hh, hp, holdsOpen, entryCount]
  all_goals obtain ⟨hs, hd⟩ | hs := hs
  all_goals simp_all

/-- A group that holds an OPEN batch. -/
theorem groupBatchesOk_open {gr : Group} {o : Batch} (ho : gr.opened = some o) (hh : gr.held = o.entries.length + entryCount gr.other)
    (hq : gr.held ≤ gr.config.quota) (hoo : OpenOk o ∧ EntriesOk o ∧ gr.nextSeq = o.seq + 1)
    (hb : ∀ b, gr.other = some b → OtherOk b ∧ EntriesOk b ∧ o.seq = b.seq + 1)
    (hs : gr.state = .active ∧ (gr.sealPending = true → gr.other ≠ none) ∨
      gr.state = .stopping ∧ gr.sealPending = true ∧ ∃ b, gr.other = some b ∧ b.state ≠ .closed) : GroupBatchesOk gr := by
  have hsome : ∀ b ∈ gr.other, OtherOk b ∧ EntriesOk b := fun b h => ⟨(hb b h).1, (hb b h).2.1⟩
  refine ⟨⟨?_, ?_, ?_, ?_, ?_, ?_⟩, ?_, hq, ?_, hsome, ?_⟩
  case refine_7 => rw [hh, ho]; rfl
  case refine_8 => intro b h; obtain rfl := Option.some.inj (ho.symm.trans h); exact hoo
  case refine_9 =>
    intro b h d hd
    obtain rfl := Option.some.inj (ho.symm.trans h)
    exact (hb d hd).2.2
  all_goals obtain ⟨hs, hp⟩ | ⟨hs, hp, b, hob, hbs⟩ := hs
  all_goals simp_all [holdsOpen, Option.isSome_iff_ne_none]

/-! ### Discards and trips -/

theorem Group.draining_iff (gr : Group) : gr.draining = true ↔ ∃ b, gr.other = some b ∧ b.state = .draining := by
  unfold Group.draining
  cases gr.other <;> simp

/-- R60: what a discard leaves is a group with at most its DRAINING batch. -/
theorem groupBatchesOk_discard {gr x : Group} (h : GroupBatchesOk gr) (ho : x.opened = none)
    (hot : x.other = if gr.draining then gr.other else none) (hheld : x.held = gr.held - gr.discardable) (hp : x.sealPending = false)
    (hq : x.config.quota = gr.config.quota)
    (hst : x.state = .safing ∨ gr.draining = true ∧ x.state = .stopping ∨ gr.draining = false ∧ x.state = .off) : GroupBatchesOk x := by
  obtain ⟨-, hsum, hquota, -, hother, -⟩ := h
  cases hd : gr.draining with
  | false =>
    refine groupBatchesOk_empty ho (by rw [hot, hd]; rfl) ?_ hp (by simp only [hd, Bool.false_eq_true, false_and, false_or, true_and] at hst; tauto)
    simp only [hheld, Group.discardable, hd, Bool.false_eq_true, if_false]
    omega
  | true =>
    obtain ⟨b, hb, hbs⟩ := (Group.draining_iff gr).1 hd
    have hsum : gr.held = gr.discardable + b.entries.length := by
      rw [hsum, hb, Group.discardable, hd]
      rfl
    exact groupBatchesOk_other ho (by rw [hot, hd]; exact hb) (by omega) (by rw [hheld, hq]; omega) hp (hother b hb) (by simp [hbs])
      (by simpa [hd, hbs] using hst)

/-- R60: the slots of the discarded entries were among the group's. -/
theorem discardable_le {gr : Group} (h : GroupBatchesOk gr) : gr.discardable ≤ gr.held := by
  rw [h.2.1, Group.discardable]
  split <;> omega

theorem isBatchOf_iff (g : Fin 8) (it : Item) : it.isBatchOf g = true ↔ it.group = g ∧ it.isSafe = false := by
  cases it <;> simp [Item.isBatchOf, Item.group, Item.isSafe]

/-- R60: the queue without the group's batch item. -/
theorem mem_filter_isBatchOf (q : List Item) (g : Fin 8) (it : Item) :
    it ∈ q.filter (fun it => !it.isBatchOf g) ↔ it ∈ q ∧ (it.group = g → it.isSafe = true) := by
  rw [List.mem_filter, Bool.not_eq_true', Bool.eq_false_iff, Ne, isBatchOf_iff]
  simp

/-- R60: discarding a group's batches touches that group alone. -/
theorem discardBatches_onlyGroup (s : State) (g : Fin 8) : OnlyGroup g s (s.discardBatches g) := by
  refine ⟨discardBatches_groupsOnly s g, fun h hh => (setGroup_onlyGroup s g _).others h hh, fun it hit => ?_⟩
  exact (mem_filter_isBatchOf _ g it).trans ⟨fun h => h.1, fun h => ⟨h, fun e => absurd e hit⟩⟩

@[simp] theorem discardBatches_group (s : State) (g h : Fin 8) :
    (s.discardBatches g).group h = if g = h then (s.group g).discard else s.group h :=
  setGroup_group s g h _

/-- R60: the pool, the queue and the other groups after a discard, whatever state the group then takes. -/
theorem RestOk.discardBatches {s : State} {g : Fin 8} (hs : CoreOk s) : RestOk g (s.discardBatches g) := by
  have hsub : (s.discardBatches g).releaseQueue.Sublist s.releaseQueue := List.filter_sublist
  refine (hs.rest g).of_onlyGroup (discardBatches_onlyGroup s g) ?_ (hs.once.sublist (hsub.map _)) (hs.order.sublist hsub) (fun h => ?_)
  · have hle := discardable_le (hs.groups g).batches
    rw [discardBatches_group, if_pos rfl]
    show (s.group g).held - (s.group g).discardable + (s.freeSlots + (s.group g).discardable) = _
    omega
  · have := hs.soft h
    exact List.eq_nil_of_subset_nil (this ▸ hsub.subset)

/-- R60, R114: discarding keeps a DRAINING batch, and nothing else of the group's batches. -/
theorem discard_other_draining (gr : Group) (b : Batch) (hb : b.state = .draining) :
    (if gr.draining then gr.other else none) = some b ↔ gr.other = some b := by
  split
  · exact Iff.rfl
  · rename_i h
    exact ⟨fun hn => absurd hn (by simp), fun ho => absurd ((Group.draining_iff gr).2 ⟨b, ho, hb⟩) h⟩

theorem firstTrip_eq (s : State) (g : Fin 8) (x : TripSource) :
    s.firstTrip g x = (((s.discardBatches g).setGroup g ((s.group g).firstTrip x)).setReleaseQueue
      (joinSafe (s.discardBatches g).releaseQueue g)).submit (.faultTripped g x.cause x.detail) := rfl

theorem firstTrip_onlyGroup (s : State) (g : Fin 8) (x : TripSource) : OnlyGroup g s (s.firstTrip g x) := by
  rw [firstTrip_eq]
  refine ((discardBatches_onlyGroup s g).trans ((setGroup_onlyGroup _ g ((s.group g).firstTrip x)).trans ?_)).trans (submit_onlyGroup _ g _)
  refine ⟨setReleaseQueue_groupsOnly _ _, fun _ _ => rfl, fun it hit => (joinSafe_perm _ g).mem_iff.trans ?_⟩
  rw [List.mem_cons]
  exact or_iff_right (fun h => hit (by rw [h]; rfl))

@[simp] theorem firstTrip_group (s : State) (g h : Fin 8) (x : TripSource) :
    (s.firstTrip g x).group h = if g = h then (s.group g).firstTrip x else s.group h := by
  rw [firstTrip_eq]
  simp only [submit_group, setReleaseQueue_group, setGroup_group, discardBatches_group]
  split <;> rfl

@[simp] theorem firstTrip_freeSlots (s : State) (g : Fin 8) (x : TripSource) :
    (s.firstTrip g x).freeSlots = s.freeSlots + (s.group g).discardable := by
  rw [firstTrip_eq, submit_freeSlots]
  rfl

@[simp] theorem firstTrip_releaseQueue (s : State) (g : Fin 8) (x : TripSource) :
    (s.firstTrip g x).releaseQueue = joinSafe (s.releaseQueue.filter (fun it => !it.isBatchOf g)) g := by
  rw [firstTrip_eq, submit_releaseQueue]
  rfl

/-- R114 to R116: the first trip of an ACTIVE or STOPPING group. -/
theorem batchesOk_firstTrip {s : State} {g : Fin 8} (x : TripSource) (hs : BatchesOk s) (hsoft : s.softResetting = false)
    (hst : (s.group g).state = .active ∨ (s.group g).state = .stopping) : BatchesOk (s.firstTrip g x) := by
  have hc := ((batchesOk_iff s).1 hs).1
  have hg := hc.groups g
  have hrest : RestOk g (s.discardBatches g) := RestOk.discardBatches hc
  have hnsaf : (s.group g).state ≠ .safing := by rintro e; rw [e] at hst; simp at hst
  have hnone : ∀ it ∈ s.releaseQueue.filter (fun it => !it.isBatchOf g), it.group ≠ g := by
    intro it hit hgr
    obtain ⟨hin, hsafe⟩ := (mem_filter_isBatchOf _ g it).1 hit
    cases it with
    | batch k n => exact absurd (hsafe hgr) (by simp [Item.isSafe])
    | safe k => exact hg.no_safe hnsaf (by cases hgr; exact hin)
  have hmem (it : Item) : it ∈ (s.firstTrip g x).releaseQueue ↔ it = .safe g ∨ it ∈ s.releaseQueue.filter (fun it => !it.isBatchOf g) := by
    rw [firstTrip_releaseQueue, (joinSafe_perm _ g).mem_iff, List.mem_cons]
  have honly : OnlyGroup g (s.discardBatches g) (s.firstTrip g x) := by
    refine ⟨?_, fun h hh => ?_, fun it hit => ?_⟩
    · rw [firstTrip_eq]
      exact ((setGroup_groupsOnly _ _ _).trans (setReleaseQueue_groupsOnly _ _)).trans (submit_groupsOnly _ _)
    · rw [firstTrip_group, discardBatches_group, if_neg (Ne.symm hh), if_neg (Ne.symm hh)]
    · rw [hmem]
      exact or_iff_right (fun h => hit (by rw [h]; rfl))
  refine batchesOk_of_onlyGroup hs (firstTrip_onlyGroup s g x) ⟨fun b hb => ?_, fun h => absurd h hnsaf, fun h => absurd h hnsaf⟩ (fun _ => ?_) ?_
  · rw [firstTrip_group, if_pos rfl]
    exact discard_other_draining _ b hb
  · refine hrest.of_onlyGroup honly ?_ ?_ ?_ (fun h => ?_)
    · rw [firstTrip_group, discardBatches_group, if_pos rfl, if_pos rfl, firstTrip_freeSlots]
      rfl
    · rw [firstTrip_releaseQueue, ((joinSafe_perm _ g).map _).nodup_iff, List.map_cons, List.nodup_cons]
      exact ⟨fun hin => by obtain ⟨it, hit, e⟩ := List.mem_map.1 hin; exact hnone it hit e, hrest.once⟩
    · rw [firstTrip_releaseQueue]
      exact hrest.order.joinSafe g
    · exact absurd (hsoft.symm.trans h) Bool.false_ne_true
  · rw [(firstTrip_onlyGroup s g x).frame.softResetting, hsoft, firstTrip_group, if_pos rfl]
    have hq (b : Batch) (hb : ((s.group g).firstTrip x).other = some b) : b.state ≠ .queued := by
      have hb : (if (s.group g).draining then (s.group g).other else none) = some b := hb
      intro hbq
      split at hb
      · rename_i hd
        obtain ⟨c, hcc, hcs⟩ := (Group.draining_iff _).1 hd
        obtain rfl := Option.some.inj (hb.symm.trans hcc)
        exact absurd (hbq.symm.trans hcs) (by simp)
      · cases hb
    refine ⟨groupBatchesOk_discard hg.batches rfl rfl rfl rfl rfl (.inl rfl), fun b hb hbq => absurd hbq (hq b hb), fun it hit hgr => ?_, fun h => by cases h⟩
    rcases (hmem it).1 hit with rfl | hit
    · exact (Group.fits_safe _ g).2 rfl
    · exact absurd hgr (hnone it hit)

theorem secondFault_same (s : State) (g : Fin 8) (x : TripSource) :
    SameBatches (s.group g) { s.group g with causes := (s.group g).causes ||| x.cause.bit, trips := bump (s.group g).trips } :=
  ⟨rfl, rfl, rfl, rfl, rfl, rfl, rfl⟩

/-- R112: every trip source. -/
theorem batchesOk_tripSource {s : State} (g : Fin 8) (x : TripSource) (hs : BatchesOk s) : BatchesOk (s.tripSource g x) := by
  obtain ⟨-, heq⟩ | ⟨hsoft, hst, heq⟩ | ⟨-, -, heq⟩ := tripSource_cases s g x
  · rw [heq]; exact hs
  · rw [heq]; exact batchesOk_firstTrip x hs hsoft hst
  · rw [heq]; exact batchesOk_setGroup_same hs (secondFault_same s g x)

/-! ### Seals -/

theorem queueOther_onlyGroup (s : State) (g : Fin 8) : OnlyGroup g s (s.queueOther g) := by
  refine ⟨queueOther_groupsOnly s g, fun h hh => ?_, fun it hit => ?_⟩ <;> unfold State.queueOther
  · split
    · rw [setReleaseQueue_group, setGroup_group, if_neg (Ne.symm hh)]
    · rfl
  · split
    · rw [setReleaseQueue_releaseQueue, List.mem_append, List.mem_singleton]
      exact or_iff_left (fun e => hit (by rw [e]; rfl))
    · rfl

/-- R54: the seal of an ACTIVE group's OPEN batch. -/
theorem sealOpen_of_active {s : State} {g : Fin 8} {b : Batch} (c : SealCause) (hst : (s.group g).state = .active)
    (ho : (s.group g).opened = some b) :
    s.sealOpen g c = (s.setGroup g (groupSealed (s.group g) b c)).setReleaseQueue (queueSealed s g (s.group g) b) := by
  rw [sealOpen_active s g c b hst ho]
  dsimp only
  split
  · rename_i ht
    rw [queueOther_of_some _ g (b.close c) (by simp [Group.openBatch])]
    simp [Group.openBatch, groupSealed, sealedBatch, Batch.close, queueSealed, ht]
  · rename_i ht
    simp [Group.openBatch, groupSealed, sealedBatch, Batch.close, queueSealed, ht]
    rfl

theorem sealOpen_of_stopping {s : State} {g : Fin 8} {b : Batch} (c : SealCause) (hst : (s.group g).state = .stopping)
    (ho : (s.group g).opened = some b) :
    s.sealOpen g c = (s.setGroup g { s.group g with opened := none, other := some (sealedBatch b c true) }).setReleaseQueue
      (s.releaseQueue ++ [.batch g b.seq]) :=
  sealOpen_stopping s g c b (by simp [hst]) ho

/-- The group's OPEN batch is its only one, so that it may be sealed. -/
structure Sealable (gr : Group) (b : Batch) : Prop where
  opened : gr.opened = some b
  fits : OpenOk b ∧ EntriesOk b ∧ gr.nextSeq = b.seq + 1
  held : gr.held = b.entries.length
  quota : gr.held ≤ gr.config.quota
  pending : gr.sealPending = false

theorem Sealable.of_batchesOk {gr : Group} {b : Batch} (h : GroupBatchesOk gr) (ho : gr.opened = some b) (hn : gr.other = none) :
    Sealable gr b := by
  obtain ⟨⟨-, hp, -⟩, hsum, hq, hop, -⟩ := h
  refine ⟨ho, hop b ho, by rw [hsum, ho, hn]; rfl, hq, ?_⟩
  cases e : gr.sealPending with
  | false => rfl
  | true => exact absurd (hp e).2 (by simp [hn])

/-- R54: an OPEN batch of consecutive positions is, once sealed, a batch of rising positions. -/
theorem otherOk_sealedBatch {b : Batch} (c : SealCause) (q : Bool) (h : OpenOk b) : OtherOk (sealedBatch b c q) := by
  obtain ⟨-, -, hpos⟩ := h
  refine ⟨by cases q <;> simp [sealedBatch], rfl, ?_⟩
  show (b.entries.map (·.position)).Pairwise (· < ·)
  rw [hpos]
  exact List.pairwise_lt_range

theorem openOk_fresh (n : Seq) : OpenOk { seq := n, state := .opened, entries := [], sealCause := none, errorsSeen := 0 } :=
  ⟨rfl, rfl, rfl⟩

theorem entriesOk_fresh (n : Seq) : EntriesOk { seq := n, state := .opened, entries := [], sealCause := none, errorsSeen := 0 } :=
  ⟨List.nodup_nil, fun _ h => by cases h⟩

theorem Sealable.groupBatchesOk_active {gr : Group} {b : Batch} (h : Sealable gr b) (c : SealCause) (hst : gr.state = .active) :
    GroupBatchesOk (groupSealed gr b c) := by
  refine groupBatchesOk_open rfl ?_ h.quota ⟨openOk_fresh _, entriesOk_fresh _, rfl⟩ (fun d hd => ?_) (.inl ⟨hst, fun _ => by simp [groupSealed]⟩)
  · exact h.held.trans (by simp [groupSealed, entryCount, sealedBatch])
  · obtain rfl := Option.some.inj hd
    exact ⟨otherOk_sealedBatch c _ h.fits.1, h.fits.2.1, h.fits.2.2⟩

theorem Sealable.groupBatchesOk_stopping {gr : Group} {b : Batch} (h : Sealable gr b) (c : SealCause) (hst : gr.state = .stopping) :
    GroupBatchesOk { gr with opened := none, other := some (sealedBatch b c true) } :=
  groupBatchesOk_other rfl rfl h.held h.quota h.pending ⟨otherOk_sealedBatch c _ h.fits.1, h.fits.2.1⟩ (by simp [sealedBatch]) (.inr hst)

theorem sealOpen_onlyGroup (s : State) (g : Fin 8) (c : SealCause) : OnlyGroup g s (s.sealOpen g c) := by
  unfold State.sealOpen
  dsimp only
  split
  · exact .refl g s
  · split
    · split
      · exact (setGroup_onlyGroup s g _).trans (queueOther_onlyGroup _ g)
      · exact setGroup_onlyGroup s g _
    · exact (setGroup_onlyGroup s g _).trans (queueOther_onlyGroup _ g)

/-- R54: the seal of the one batch of a group that has no item in the queue. -/
theorem RestOk.sealOpen {s : State} {g : Fin 8} {b : Batch} (c : SealCause) (hr : RestOk g s)
    (hnone : ∀ it ∈ s.releaseQueue, it.group ≠ g) (hsoft : s.softResetting = false) (hb : Sealable (s.group g) b)
    (hst : (s.group g).state = .active ∨ (s.group g).state = .stopping) : CoreOk (s.sealOpen g c) := by
  have hone := sealOpen_onlyGroup s g c
  have hsoft' : (s.sealOpen g c).softResetting = false := hone.frame.softResetting.trans hsoft
  have noreset {P : Prop} : false = true → P := fun h => by cases h
  rcases hst with hst | hst
  · have heq := sealOpen_of_active c hst hb.opened
    have hgr : (s.sealOpen g c).group g = groupSealed (s.group g) b c := by rw [heq]; simp
    have hq : (s.sealOpen g c).releaseQueue = queueSealed s g (s.group g) b := by rw [heq]; rfl
    have hheld : ((s.sealOpen g c).group g).held + (s.sealOpen g c).freeSlots = (s.group g).held + s.freeSlots := by rw [heq]; simp [groupSealed]
    have hbok := hb.groupBatchesOk_active c hst
    by_cases hi : (s.group g).config.trigger = .immediate
    · rw [queueSealed, if_pos hi] at hq
      refine (hr.of_append hone hheld hq hnone hsoft).core ?_
      rw [hgr, hq, hsoft']
      refine GroupFits.of_queued (b := sealedBatch b c true) hbok ?_ rfl hnone noreset
      simp [groupSealed, hi]
    · rw [queueSealed, if_neg hi] at hq
      refine (hr.of_sameQueue hone hheld hq).core ?_
      rw [hgr, hq, hsoft']
      refine GroupFits.of_no_item hbok (fun d hd => ?_) hnone noreset
      obtain rfl := Option.some.inj hd
      simp [sealedBatch, hi]
  · have heq := sealOpen_of_stopping c hst hb.opened
    have hq : (s.sealOpen g c).releaseQueue = s.releaseQueue ++ [.batch g b.seq] := by rw [heq]; rfl
    refine (hr.of_append hone (by rw [heq]; simp) hq hnone hsoft).core ?_
    rw [hq, hsoft', heq, setReleaseQueue_group, setGroup_group, if_pos rfl]
    exact GroupFits.of_queued (b := sealedBatch b c true) (hb.groupBatchesOk_stopping c hst) rfl rfl hnone noreset

/-- An ACTIVE group is none of a soft reset's (R38). -/
theorem CoreOk.softResetting_eq_false {s : State} {g : Fin 8} (hc : CoreOk s)
    (hst : (s.group g).state = .active ∨ (s.group g).state = .faulted ∨ (s.group g).opened ≠ none) : s.softResetting = false := by
  cases e : s.softResetting with
  | false => rfl
  | true =>
    obtain ⟨h1, h2⟩ := (hc.groups g).reset e
    rcases hst with h | h | h
    · rw [h] at h2; simp at h2
    · rw [h] at h2; simp at h2
    · exact absurd h1 h

/-- R54: the seal of the one batch of an ACTIVE group. -/
theorem batchesOk_sealOpen {s : State} {g : Fin 8} {b : Batch} (c : SealCause) (hs : BatchesOk s)
    (hst : (s.group g).state = .active) (ho : (s.group g).opened = some b) (hn : (s.group g).other = none) :
    BatchesOk (s.sealOpen g c) := by
  obtain ⟨hc, hd⟩ := (batchesOk_iff s).1 hs
  have hb := Sealable.of_batchesOk (hc.groups g).batches ho hn
  have hnsaf : (s.group g).state ≠ .safing := by simp [hst]
  have hnone := (hc.groups g).no_item hnsaf (by simp [hn])
  have hcore := (hc.rest g).sealOpen c hnone (hc.softResetting_eq_false (.inl hst)) hb (.inl hst)
  refine (batchesOk_iff _).2 ⟨hcore, drainOk_of_onlyGroup hd (sealOpen_onlyGroup s g c) ⟨fun d hds => ?_, fun h => absurd h hnsaf, fun h => absurd h hnsaf⟩⟩
  rw [hn, sealOpen_of_active c hst ho, setReleaseQueue_group, setGroup_group, if_pos rfl]
  refine ⟨fun h => ?_, fun h => by cases h⟩
  obtain rfl := Option.some.inj h
  simp only [sealedBatch] at hds
  split at hds <;> cases hds

/-- A group's own record changes in what does not touch its items: state and other batch stay. -/
theorem batchesOk_setGroup {s : State} {g : Fin 8} {x : Group} (hs : BatchesOk s) (hx : GroupBatchesOk x)
    (hother : x.other = (s.group g).other) (hheld : x.held = (s.group g).held)
    (hstate : x.state = (s.group g).state) (hsoft : s.softResetting = false) : BatchesOk (s.setGroup g x) := by
  have ho := setGroup_onlyGroup s g x
  have e : (s.setGroup g x).group g = x := by simp
  have hf := ((batchesOk_iff s).1 hs).1.groups g
  refine batchesOk_of_onlyGroup hs ho ⟨fun b _ => by rw [e, hother], fun hh => by rw [e, hstate, hh], fun _ hh => hh⟩
    (fun hr => hr.of_sameQueue ho (by rw [e, hheld]; rfl) rfl) ?_
  rw [e, ho.frame.softResetting, hsoft]
  refine ⟨hx, fun b hb => hf.queued b (hother ▸ hb), fun it hi hg => ?_, fun h => by cases h⟩
  have := hf.items it hi hg
  cases it <;> simpa only [Group.fits, hother, hstate] using this

theorem batchesOk_sealRequest {s : State} (g : Fin 8) (c : SealCause) (hs : BatchesOk s) : BatchesOk (s.sealRequest g c).1 := by
  obtain ⟨b, hst, ho, hn, heq⟩ | ⟨b, hst, ho, hn, hp, heq⟩ | ⟨b, -, -, -, heq⟩ | ⟨heq, -⟩ := sealRequest_cases s g c
  · rw [heq]
    exact batchesOk_sealOpen c hs hst ho hn
  · have hc := ((batchesOk_iff s).1 hs).1
    obtain ⟨-, hsum, hq, hop, hot, hseq⟩ := (hc.groups g).batches
    rw [heq]
    refine batchesOk_setGroup hs ?_ rfl rfl rfl (hc.softResetting_eq_false (.inl hst))
    exact groupBatchesOk_open ho (by rw [ho] at hsum; exact hsum) hq (hop b ho)
      (fun d hd => ⟨(hot d hd).1, (hot d hd).2, hseq b ho d hd⟩) (.inl ⟨hst, fun _ => hn⟩)
  · rw [heq]; exact hs
  · rw [heq]; exact hs

/-! ### Staging -/

theorem entryFor_eq_none {b : Batch} {a : WordAddr} : b.entryFor a = none ↔ ∀ e ∈ b.entries, e.addr ≠ a := by
  simp [Batch.entryFor]

theorem map_coalesce_addr (b : Batch) (a : WordAddr) (d : Word) (m : Mask) :
    (b.coalesce a d m).entries.map (·.addr) = b.entries.map (·.addr) := by
  simp only [Batch.coalesce, List.map_map]
  refine List.map_congr_left fun e _ => ?_
  simp only [Function.comp]
  split <;> rfl

theorem map_coalesce_position (b : Batch) (a : WordAddr) (d : Word) (m : Mask) :
    (b.coalesce a d m).entries.map (·.position) = b.entries.map (·.position) := by
  simp only [Batch.coalesce, List.map_map]
  refine List.map_congr_left fun e _ => ?_
  simp only [Function.comp]
  split <;> rfl

@[simp] theorem length_coalesce (b : Batch) (a : WordAddr) (d : Word) (m : Mask) :
    (b.coalesce a d m).entries.length = b.entries.length := by simp [Batch.coalesce]

/-- R49: coalescing keeps the batch's words and positions, and every entry enables a lane still. -/
theorem coalesce_fits {b : Batch} (a : WordAddr) (d : Word) (m : Mask) (h : OpenOk b ∧ EntriesOk b) :
    OpenOk (b.coalesce a d m) ∧ EntriesOk (b.coalesce a d m) := by
  obtain ⟨⟨h1, h2, h3⟩, h4, h5⟩ := h
  refine ⟨⟨h1, h2, by rw [map_coalesce_position, length_coalesce, h3]⟩, by rw [map_coalesce_addr]; exact h4, fun e he => ?_⟩
  obtain ⟨f, hf, rfl⟩ := List.mem_map.1 he
  split
  · exact fun hz => h5 f hf (BitVec.or_eq_zero_iff.1 hz).1
  · exact h5 f hf

/-- R48: a new entry has a new word, the next position, and a lane. -/
theorem append_fits {b : Batch} {a : WordAddr} (d : Word) {m : Mask} (h : OpenOk b ∧ EntriesOk b) (ha : b.entryFor a = none)
    (hm : m ≠ 0#4) : OpenOk (b.append a d m) ∧ EntriesOk (b.append a d m) := by
  obtain ⟨⟨h1, h2, h3⟩, h4, h5⟩ := h
  have hlen : (b.append a d m).entries.length = b.entries.length + 1 := by simp [Batch.append]
  refine ⟨⟨h1, h2, ?_⟩, ?_, fun e he => ?_⟩
  · rw [hlen, List.range_succ, ← h3]
    simp [Batch.append]
  · simp only [Batch.append, List.map_append, List.map_cons, List.map_nil]
    refine List.nodup_append.2 ⟨h4, List.nodup_singleton _, fun x hx y hy e => ?_⟩
    obtain ⟨f, hf, rfl⟩ := List.mem_map.1 hx
    exact entryFor_eq_none.1 ha f hf (e.trans (List.mem_singleton.1 hy))
  · rcases List.mem_append.1 he with he | he
    · exact h5 e he
    · rw [List.mem_singleton.1 he]
      exact hm

/-- An accepted write replaces the OPEN batch by one with the same sequence. -/
theorem batchesOk_stageInto {s : State} {g : Fin 8} {b c : Batch} {held free : Nat} (hs : BatchesOk s) (ho : (s.group g).opened = some b)
    (hseq : c.seq = b.seq) (hfit : OpenOk c ∧ EntriesOk c) (hheld : held + b.entries.length = (s.group g).held + c.entries.length)
    (hfree : held + free = (s.group g).held + s.freeSlots) (hq : held ≤ (s.group g).config.quota) :
    BatchesOk ((s.setGroup g { s.group g with opened := some c, held := held }).setFreeSlots free) := by
  have hc := ((batchesOk_iff s).1 hs).1
  have hf := hc.groups g
  obtain ⟨⟨hshape, hp, h3, h4, h5, h6⟩, hsum, -, hop, hot, hsq⟩ := hf.batches
  have hone := (setGroup_onlyGroup s g { s.group g with opened := some c, held := held }).trans (setFreeSlots_onlyGroup _ g free)
  have hsoft := hc.softResetting_eq_false (g := g) (.inr (.inr (by simp [ho])))
  have hnew : ((s.setGroup g { s.group g with opened := some c, held := held }).setFreeSlots free).group g =
      { s.group g with opened := some c, held := held } := by simp
  refine batchesOk_of_onlyGroup hs hone ⟨fun d _ => by rw [hnew], fun h => by rw [hnew]; exact h, fun _ h => h⟩
    (fun hr => hr.of_sameQueue hone (by rw [hnew]; exact hfree) rfl) ?_
  rw [hnew, hone.frame.softResetting, hsoft]
  refine ⟨⟨⟨?_, ?_, h3, h4, h5, h6⟩, ?_, hq, fun d hd => ?_, hot, fun d hd x hx => ?_⟩, hf.queued, hf.items, fun h => by cases h⟩
  · rw [ho] at hshape
    exact hshape
  · rw [ho] at hp
    exact hp
  · rw [ho] at hsum
    simp only [entryCount] at hsum ⊢
    omega
  · obtain rfl := Option.some.inj hd
    exact ⟨hfit.1, hfit.2, by rw [hseq]; exact (hop b ho).2.2⟩
  · obtain rfl := Option.some.inj hd
    rw [hseq]
    exact hsq b ho x hx

theorem batchesOk_stageEntry {s : State} {g : Fin 8} {b : Batch} (a : WordAddr) (d : Word) (m : Mask) (hs : BatchesOk s)
    (ho : (s.group g).opened = some b) : BatchesOk (s.stageEntry g b a d m).1 := by
  obtain ⟨-, -, hq, hop, -⟩ := (((batchesOk_iff s).1 hs).1.groups g).batches
  have hfit : OpenOk b ∧ EntriesOk b := ⟨(hop b ho).1, (hop b ho).2.1⟩
  obtain ⟨-, heq⟩ | ⟨hm, -, heq⟩ | ⟨-, -, -, heq⟩ | ⟨-, -, -, -, heq⟩ | ⟨hm, hn, hlt, hfree, heq⟩ := stageEntry_cases s g b a d m
  · rw [heq]; exact hs
  · rw [heq]
    exact batchesOk_stageInto (c := b.coalesce a d m) hs ho rfl (coalesce_fits a d m hfit) (by simp) rfl hq
  · rw [heq]; exact hs
  · rw [heq]; exact hs
  · rw [heq]
    exact batchesOk_stageInto (c := b.append a d m) hs ho rfl (append_fits d hfit hn hm) (by simp [Batch.append]; omega) (by omega) hlt

theorem batchesOk_stage {s : State} (g : Fin 8) (a : WordAddr) (d : Word) (m : Mask) (w : Bool) (hs : BatchesOk s) :
    BatchesOk (s.stage g a d m w).1 := by
  unfold State.stage
  split
  · exact hs
  · rename_i b ho
    have h := batchesOk_stageEntry a d m hs ho
    split
    · rename_i e; rw [e] at h; exact h
    · rename_i e
      rw [e] at h
      split
      · exact batchesOk_sealRequest g _ h
      · exact h

/-! ### Release points -/

theorem batchesOk_miss {s : State} (g : Fin 8) (hs : BatchesOk s) : BatchesOk (s.miss g).1 := by
  have h : ∀ n k b, BatchesOk ((s.setGroup g { s.group g with misses := n, consecutive := k }).submit b) := fun n k b =>
    batchesOk_submit _ (batchesOk_setGroup_same hs ⟨rfl, rfl, rfl, rfl, rfl, rfl, rfl⟩)
  unfold State.miss
  dsimp only
  split
  · exact batchesOk_tripSource _ _ (h _ _ _)
  · exact h _ _ _

theorem batchesOk_overrun {s : State} (g : Fin 8) (b : Batch) (hs : BatchesOk s) : BatchesOk (s.overrun g b).1 :=
  batchesOk_submit _ (batchesOk_setGroup_same hs ⟨rfl, rfl, rfl, rfl, rfl, rfl, rfl⟩)

/-- R78: the SEALED batch of an ACTIVE or STOPPING group joins the queue. -/
theorem batchesOk_queueOther {s : State} {g : Fin 8} {b : Batch} (hs : BatchesOk s) (ho : (s.group g).other = some b)
    (hb : b.state = .closed) : BatchesOk (s.queueOther g) := by
  have hc := ((batchesOk_iff s).1 hs).1
  have hf := hc.groups g
  obtain ⟨⟨hshape, hp, h3, h4, h5, h6⟩, hsum, hq, hop, hot, hsq⟩ := hf.batches
  have hst : (s.group g).state = .active := h5 b ho hb
  have hsoft := hc.softResetting_eq_false (.inl hst)
  have hnsaf : (s.group g).state ≠ .safing := by simp [hst]
  have hnone := hf.no_item hnsaf (fun d hd => by obtain rfl := Option.some.inj (ho.symm.trans hd); simp [hb])
  have hone := queueOther_onlyGroup s g
  have heq := queueOther_of_some s g b ho
  have hgr : (s.queueOther g).group g = { s.group g with other := some { b with state := .queued } } := by rw [heq]; simp
  have hqq : (s.queueOther g).releaseQueue = s.releaseQueue ++ [.batch g b.seq] := by rw [heq]; rfl
  refine batchesOk_of_onlyGroup hs hone ⟨fun d hd => ?_, fun h => absurd h hnsaf, fun h => absurd h hnsaf⟩
    (fun hr => hr.of_append hone (by rw [heq]; simp) hqq hnone hsoft) ?_
  · rw [hgr, ho]
    constructor
    · intro h; obtain rfl := Option.some.inj h; cases hd
    · intro h; obtain rfl := Option.some.inj h; rw [hb] at hd; cases hd
  · rw [hone.frame.softResetting, hsoft, hgr, hqq]
    refine GroupFits.of_queued (b := { b with state := .queued }) ⟨⟨hshape, ?_, ?_, ?_, ?_, ?_⟩, ?_, hq, hop, ?_, ?_⟩ rfl rfl hnone (fun h => by cases h)
    · exact fun h => ⟨(hp h).1, rfl⟩
    · exact fun h => by rw [hst] at h; simp at h
    · exact fun _ => rfl
    · intro d hd hds
      obtain rfl := Option.some.inj hd
      cases hds
    · exact fun _ _ _ => .inl hst
    · rw [hsum, ho]; rfl
    · intro d hd
      obtain rfl := Option.some.inj hd
      obtain ⟨⟨-, h2, h3⟩, h4⟩ := hot b ho
      exact ⟨⟨by simp, h2, h3⟩, h4⟩
    · intro d hd x hx
      obtain rfl := Option.some.inj hx
      exact hsq d hd b ho

theorem batchesOk_queueSealed {s : State} {g : Fin 8} {b : Batch} (hs : BatchesOk s) (ho : (s.group g).other = some b)
    (hb : b.state = .closed) : BatchesOk (s.queueSealed g b).1 :=
  batchesOk_queueOther (b := b) (batchesOk_setGroup_same hs (x := { s.group g with consecutive := 0 }) ⟨rfl, rfl, rfl, rfl, rfl, rfl, rfl⟩)
    (by simpa using ho) hb

/-- R34: a group without batches, whose items are none, enters ACTIVE with an empty OPEN batch. -/
theorem batchesOk_enterActive {s : State} {g : Fin 8} {x : Group} (hs : BatchesOk s)
    (hst : (s.group g).state = .off ∨ (s.group g).state = .faulted) (hsoft : s.softResetting = false) (hx : SameBatches (s.group g) x) :
    BatchesOk (s.setGroup g (Group.enterActive { x with state := (s.group g).state })) := by
  have hc := ((batchesOk_iff s).1 hs).1
  have hf := hc.groups g
  obtain ⟨⟨hshape, hp, h3, -, -, -⟩, hsum, -, -, -, -⟩ := hf.batches
  have hn : (s.group g).other = none := h3 hst
  have hopen : (s.group g).opened = none := by
    have : ¬ holdsOpen (s.group g) := by rcases hst with e | e <;> simp [holdsOpen, e]
    simpa using mt hshape.1 this
  have hnp : (s.group g).sealPending = false := by
    cases e : (s.group g).sealPending with
    | false => rfl
    | true => exact absurd (hp e).2 (by simp [hn])
  have hh : (s.group g).held = 0 := by rw [hsum, hopen, hn]; rfl
  have hnsaf : (s.group g).state ≠ .safing := by rcases hst with e | e <;> simp [e]
  have hnone := hf.no_item hnsaf (by simp [hn])
  have ho := setGroup_onlyGroup s g (Group.enterActive { x with state := (s.group g).state })
  have e : (s.setGroup g (Group.enterActive { x with state := (s.group g).state })).group g = Group.enterActive { x with state := (s.group g).state } := by
    simp
  have hxo : (Group.enterActive { x with state := (s.group g).state }).other = none := hx.other.trans hn
  refine batchesOk_of_onlyGroup hs ho ⟨fun b _ => by rw [e, hxo, hn], fun h => absurd h hnsaf, fun _ hh => hh⟩
    (fun hr => hr.of_sameQueue ho (by rw [e]; exact congrArg (· + s.freeSlots) hx.held) rfl) ?_
  rw [e, ho.frame.softResetting, hsoft]
  refine GroupFits.of_no_item ?_ (by simp [hxo]) hnone (fun h => by cases h)
  have hx0 : x.held = 0 := hx.held.trans hh
  refine groupBatchesOk_open (gr := Group.enterActive { x with state := (s.group g).state }) rfl ?_ ?_
    ⟨openOk_fresh _, entriesOk_fresh _, rfl⟩ (by simp [hxo]) (.inl ⟨rfl, fun h => ?_⟩)
  · rw [hxo]
    exact hx0
  · show x.held ≤ _
    rw [hx0]
    exact Nat.zero_le _
  · exact absurd ((hx.sealPending.trans hnp).symm.trans h) Bool.false_ne_true

/-- R125: a clearing of a FAULTED group. -/
theorem batchesOk_clearGroup {s : State} {g : Fin 8} (c : ClearCause) (f : Bool) (hs : BatchesOk s) (hst : (s.group g).state = .faulted) :
    BatchesOk (s.clearGroup g c f) :=
  batchesOk_submit _ (batchesOk_enterActive hs (.inr hst) (((batchesOk_iff s).1 hs).1.softResetting_eq_false (.inr (.inl hst)))
    (x := { s.group g with causes := 0, first := none, safeIncomplete := false }) ⟨rfl, rfl, rfl, rfl, rfl, rfl, rfl⟩)

theorem batchesOk_releasePoint {s : State} (g : Fin 8) (hs : BatchesOk s) : BatchesOk (s.releasePoint g).1 := by
  obtain ⟨heq, -⟩ | ⟨-, ⟨-, -, heq⟩ | ⟨b, -, ho, hb, heq⟩ | ⟨b, -, -, -, heq⟩ | ⟨hst, -, heq⟩⟩ := releasePoint_cases s g
  · rw [heq]; exact hs
  · rw [heq]; exact batchesOk_miss g hs
  · rw [heq]; exact batchesOk_queueSealed hs ho hb
  · rw [heq]; exact batchesOk_overrun g b hs
  · rw [heq]; exact batchesOk_clearGroup _ _ hs hst

theorem batchesOk_candidate {s : State} (g : Fin 8) (hs : BatchesOk s) : BatchesOk (s.candidate g) := by
  obtain ⟨-, heq⟩ | ⟨-, ⟨-, heq⟩ | ⟨-, heq⟩⟩ := candidate_cases s g
  · rw [heq]; exact hs
  · rw [heq]; exact batchesOk_setGroup_same hs ⟨rfl, rfl, rfl, rfl, rfl, rfl, rfl⟩
  · rw [heq]; exact batchesOk_releasePoint g (batchesOk_setGroup_same hs ⟨rfl, rfl, rfl, rfl, rfl, rfl, rfl⟩)

end Sys2Proof.Machine

/-! PROOFS. Chapters 02, 05 and 08: the group commands, the drain engine and the soft reset keep batches, pool, release queue and drain
engine fitting together (R33 to R36, R86 to R98, R165); so does every step. -/

namespace Sys2Proof.Machine

open Sys2Proof.Safety

/-! ### The watch unit and the scheduler -/

theorem batchesOk_reorder {s : State} (before : List Item) (hs : BatchesOk s) :
    BatchesOk (s.setReleaseQueue (inGroupOrder before s.releaseQueue)) := by
  obtain ⟨hc, hd⟩ := (batchesOk_iff s).1 hs
  have hp := inGroupOrder_perm before s.releaseQueue hc.nodup
  have hmem (it : Item) : it ∈ inGroupOrder before s.releaseQueue ↔ it ∈ s.releaseQueue := hp.mem_iff
  refine (batchesOk_iff _).2 ⟨⟨fun g => (hc.groups g).congr_queue fun it _ => hmem it, hc.pool, ?_, hc.order.inGroupOrder before, fun h => ?_⟩, ?_⟩
  · exact ((hp.map _).nodup_iff).2 hc.once
  · exact List.eq_nil_iff_forall_not_mem.2 fun it hit => by
      have := (hmem it).1 hit
      rw [hc.soft h] at this
      cases this
  · exact drainOk_of_onlyGroup (g := 0) hd ⟨setReleaseQueue_groupsOnly _ _, fun _ _ => rfl, fun it _ => hmem it⟩
      ⟨fun _ _ => Iff.rfl, fun h => h, fun _ h => (hmem _).1 h⟩

theorem batchesOk_watchClosed : WatchClosed BatchesOk where
  setWatch _ _ _ _ _ hs := batchesOk_congr rfl rfl rfl rfl rfl rfl rfl rfl rfl hs
  setService _ _ hs := batchesOk_congr rfl rfl rfl rfl rfl rfl rfl rfl rfl hs
  submit _ b hs := batchesOk_submit b hs
  tripSource _ g x hs := batchesOk_tripSource g x hs
  reorder _ before hs := batchesOk_reorder before hs

theorem batchesOk_schedulerClosed : SchedulerClosed BatchesOk where
  setBase _ b _ hs := by cases b <;> exact batchesOk_congr rfl rfl rfl rfl rfl rfl rfl rfl rfl hs
  setReleaseLine _ _ _ hs := batchesOk_congr rfl rfl rfl rfl rfl rfl rfl rfl rfl hs
  setFaultLine _ _ _ hs := batchesOk_congr rfl rfl rfl rfl rfl rfl rfl rfl rfl hs
  candidate _ g hs := batchesOk_candidate g hs
  tripSource _ g x hs := batchesOk_tripSource g x hs
  settleMarks _ b hs := batchesOk_watchClosed.settleMarks b hs
  newCycle _ hs := batchesOk_congr rfl rfl rfl rfl rfl rfl rfl rfl rfl hs

/-! ### Requests -/

theorem batchesOk_setUpstream {s : State} (u : Upstream) (hs : BatchesOk s) : BatchesOk { s with upstream := u } :=
  batchesOk_congr rfl rfl rfl rfl rfl rfl rfl rfl rfl hs

theorem batchesOk_refuse {s : State} (i : Fin 16) (g : Fin 8) (c : RefusalCause) (hs : BatchesOk s) : BatchesOk (s.refuse i g c) := by
  have hr (u : State) (hu : BatchesOk u) : BatchesOk (u.reportRefusal g c (slotInit i)) := by
    have hb (b : EventBody) : BatchesOk ((u.setGroup g { u.group g with refused := bump (u.group g).refused, refusalReported := true })) :=
      batchesOk_setGroup_same hu ⟨rfl, rfl, rfl, rfl, rfl, rfl, rfl⟩
    unfold State.reportRefusal
    dsimp only
    split
    · exact hb (.writeRefused g c (slotInit i))
    · exact batchesOk_submit _ (hb (.writeRefused g c (slotInit i)))
  exact hr _ (batchesOk_setUpstream _ hs)

theorem batchesOk_stageSlot {s : State} (i : Fin 16) (w : Window) (d : Word) (m : Mask) (hs : BatchesOk s) :
    BatchesOk (s.stageSlot i w d m) := by
  have h := batchesOk_stage w.group (s.slot i).addr d m (w.isSealWord (s.slot i).addr) hs
  unfold State.stageSlot
  split
  · rename_i e
    rw [e] at h
    exact batchesOk_setUpstream _ h
  · rename_i c e
    rw [e] at h
    dsimp only
    split
    · exact batchesOk_tripSource _ _ (batchesOk_refuse i _ c h)
    · exact batchesOk_refuse i _ c h

/-- R4 to R9: whatever route a request takes. -/
theorem batchesOk_follow {s : State} (i : Fin 16) (r : Route) (hs : BatchesOk s) : BatchesOk (s.follow i r) := by
  unfold State.follow
  dsimp only
  split
  · exact batchesOk_setUpstream _ hs
  · exact batchesOk_setUpstream _ hs
  · exact batchesOk_setUpstream _ hs
  · split
    · exact batchesOk_stageSlot i _ _ _ hs
    · exact hs
  · exact batchesOk_refuse i _ _ hs

theorem batchesOk_upstreamRequest {s : State} (init tag : BitVec 2) (kind : ReqKind) (a : WordAddr) (hs : BatchesOk s) :
    BatchesOk (s.upstreamRequest init tag kind a) := by
  unfold State.upstreamRequest
  split
  · exact batchesOk_setUpstream _ hs
  · split
    · exact batchesOk_setUpstream _ hs
    · unfold State.takeRequest State.decodeTaken
      have ht := batchesOk_setUpstream (s := s)
        (((s.setIndication .taken).setSlot (slotOf init tag) (Slot.taken kind a s.upstream.nextOrder)).setNextOrder
          (s.upstream.nextOrder + 1)).upstream hs
      split
      · exact batchesOk_setUpstream _ ht
      · dsimp only
        split
        · exact batchesOk_setUpstream _ (batchesOk_follow _ _ ht)
        · exact batchesOk_follow _ _ ht

theorem batchesOk_reportBlocks {s : State} (hs : BatchesOk s) : BatchesOk s.reportBlocks := by
  obtain ⟨r, turn, run, heq⟩ := reportBlocks_spec s
  rw [heq]
  exact batchesOk_congr rfl rfl rfl rfl rfl rfl rfl rfl rfl hs

theorem batchesOk_reportClearance {s : State} (hs : BatchesOk s) : BatchesOk s.reportClearance := by
  obtain ⟨v, heq, -⟩ := reportClearance_spec s
  rw [heq]
  exact batchesOk_congr rfl rfl rfl rfl rfl rfl rfl rfl rfl hs

theorem batchesOk_issueResponse {s : State} (init tag : BitVec 2) (hs : BatchesOk s) : BatchesOk (s.issueResponse init tag) := by
  unfold State.issueResponse
  dsimp only
  split
  · split
    · exact hs
    · exact batchesOk_reportBlocks (batchesOk_setUpstream _ hs)
  · exact hs

/-! ### The group commands -/

/-- R33: a start. -/
theorem batchesOk_startGroup (g : Fin 8) : Takes BatchesOk (fun s => s.startGroup g) := by
  intro s d t hp hs hok
  have hsoft : s.softResetting = false := by simp [State.softResetting, hp]
  dsimp only [State.startGroup] at hok
  split at hok
  · cases hok
  · rename_i hst
    have hst : (s.group g).state = .off := by simpa using hst
    repeat' split at hok
    all_goals cases hok
    exact batchesOk_enterActive hs (.inl hst) hsoft
      (x := { s.group g with causes := 0, first := none, safeIncomplete := false, skipRemaining := 0 }) ⟨rfl, rfl, rfl, rfl, rfl, rfl, rfl⟩

/-- R35: a group without batches goes to OFF. -/
theorem batchesOk_setOff {s : State} {g : Fin 8} (o : StopOption) (hs : BatchesOk s) (hst : (s.group g).state = .faulted) :
    BatchesOk (s.stopNow g o) := by
  have hc := ((batchesOk_iff s).1 hs).1
  have hf := hc.groups g
  obtain ⟨⟨hshape, hp, h3, -, -, -⟩, hsum, hq, -, -, -⟩ := hf.batches
  have hn : (s.group g).other = none := h3 (.inr hst)
  have hopen : (s.group g).opened = none := by simpa [holdsOpen, hst] using hshape
  have hnp : (s.group g).sealPending = false := by
    cases e : (s.group g).sealPending with
    | false => rfl
    | true => exact absurd (hp e).2 (by simp [hn])
  have hnsaf : (s.group g).state ≠ .safing := by simp [hst]
  refine batchesOk_submit _ ?_
  have ho := setGroup_onlyGroup s g { s.group g with state := .off, stopOption := o }
  refine batchesOk_of_onlyGroup hs ho ⟨fun b _ => by simp, fun h => absurd h hnsaf, fun h => absurd h hnsaf⟩
    (fun hr => hr.of_sameQueue ho (by simp) rfl) ?_
  rw [setGroup_group, if_pos rfl, ho.frame.softResetting]
  exact GroupFits.of_no_item (groupBatchesOk_empty hopen hn (by rw [hsum, hopen, hn]; rfl) hnp (.inl rfl)) (by simp [hn])
    (hf.no_item hnsaf (by simp [hn])) (fun _ => ⟨hopen, .inl rfl⟩)

/-- R35: DISCARD of an ACTIVE or STOPPING group: its batches go, and it is STOPPING while it drains, else OFF. -/
theorem batchesOk_discardTo {s : State} {g : Fin 8} {x : Group} (hs : BatchesOk s)
    (hst : (s.group g).state = .active ∨ (s.group g).state = .stopping)
    (hx : SameBatches { (s.group g).discard with state := if (s.group g).draining then .stopping else .off } x) :
    BatchesOk ((s.discardBatches g).setGroup g x) := by
  obtain ⟨hc, hd⟩ := (batchesOk_iff s).1 hs
  have hf := hc.groups g
  have hnsaf : (s.group g).state ≠ .safing := by rcases hst with e | e <;> simp [e]
  have hrest : RestOk g (s.discardBatches g) := RestOk.discardBatches hc
  have ho := setGroup_onlyGroup (s.discardBatches g) g x
  have hone := (discardBatches_onlyGroup s g).trans ho
  have hgr : ((s.discardBatches g).setGroup g x).group g = x := by simp
  have hxo : x.other = if (s.group g).draining then (s.group g).other else none := hx.other
  have hnone : ∀ it ∈ (s.discardBatches g).releaseQueue, it.group ≠ g := by
    intro it hit hgr
    obtain ⟨hin, hsafe⟩ := (mem_filter_isBatchOf _ g it).1 hit
    cases it with
    | batch k n => exact absurd (hsafe hgr) (by simp [Item.isSafe])
    | safe k => exact hf.no_safe hnsaf (by cases hgr; exact hin)
  have hxs : x.state = if (s.group g).draining then .stopping else .off := hx.state
  refine batchesOk_of_onlyGroup hs hone ⟨fun b hb => ?_, fun h => absurd h hnsaf, fun h => absurd h hnsaf⟩
    (fun _ => hrest.of_sameQueue ho ?_ rfl) ?_
  · rw [hgr, hxo]
    exact discard_other_draining _ b hb
  · rw [hgr, discardBatches_group, if_pos rfl, hx.held]
    rfl
  · rw [hgr, hone.frame.softResetting]
    refine GroupFits.of_no_item (groupBatchesOk_discard hf.batches hx.opened hxo hx.held hx.sealPending hx.quota ?_) (fun b hb hbq => ?_)
      hnone (fun _ => ⟨hx.opened, ?_⟩)
    · rw [hxs]
      cases (s.group g).draining <;> simp
    · rw [hxo] at hb
      split at hb
      · rename_i hdr
        obtain ⟨c, hcc, hcs⟩ := (Group.draining_iff _).1 hdr
        obtain rfl := Option.some.inj (hb.symm.trans hcc)
        exact absurd (hbq.symm.trans hcs) (by simp)
      · cases hb
    · rw [hxs]
      cases (s.group g).draining <;> simp

/-- R60: the group drains after a discard just when it drained before. -/
theorem discard_draining (gr : Group) : gr.discard.draining = gr.draining := by
  cases h : gr.draining with
  | true =>
    obtain ⟨b, hb, hbs⟩ := (Group.draining_iff gr).1 h
    exact (Group.draining_iff _).2 ⟨b, by simp [Group.discard, h, hb], hbs⟩
  | false =>
    have hn : gr.discard.other = none := by simp [Group.discard, h]
    exact Bool.eq_false_iff.2 fun hd => by
      obtain ⟨b, hb, -⟩ := (Group.draining_iff _).1 hd
      rw [hn] at hb
      cases hb

theorem batchesOk_stopDiscard {s : State} {g : Fin 8} (hs : BatchesOk s)
    (hst : (s.group g).state = .active ∨ (s.group g).state = .stopping) : BatchesOk (s.stopDiscard g) := by
  have hgr : (s.discardBatches g).group g = (s.group g).discard := by simp
  unfold State.stopDiscard
  dsimp only
  rw [hgr, discard_draining]
  split
  · rename_i hd
    exact batchesOk_discardTo hs hst ⟨by simp [hd], rfl, rfl, rfl, rfl, rfl, rfl⟩
  · rename_i hd
    unfold State.stopNow
    rw [hgr]
    exact batchesOk_submit _ (batchesOk_discardTo hs hst ⟨by simp [hd], rfl, rfl, rfl, rfl, rfl, rfl⟩)

theorem batchesOk_groupStopDiscard (g : Fin 8) : Takes BatchesOk (fun s => s.groupStopDiscard g) := by
  intro s d t _ hs hok
  dsimp only [State.groupStopDiscard] at hok
  split at hok
  · cases hok
  · rename_i hst
    cases hok
    exact batchesOk_stopDiscard hs (.inl hst)
  · rename_i hst
    cases hok
    exact batchesOk_stopDiscard hs (.inr hst)
  · cases hok
  · rename_i hst
    cases hok
    exact batchesOk_setOff _ hs hst

/-- R36: the OPEN batch is sealed, or the seal is pending and a SEALED batch is QUEUED, or the seal is pending alone. -/
theorem stopFlush_cases (s : State) (g : Fin 8) :
    ((s.group g).other = none ∧
      s.stopFlush g = (s.setGroup g { s.group g with state := .stopping, stopOption := .flush }).sealOpen g .flush) ∨
    (∃ b, (s.group g).other = some b ∧ b.state = .closed ∧ s.stopFlush g =
      (s.setGroup g { s.group g with state := .stopping, stopOption := .flush, sealPending := true }).queueOther g) ∨
    (∃ b, (s.group g).other = some b ∧ b.state ≠ .closed ∧ s.stopFlush g =
      s.setGroup g { s.group g with state := .stopping, stopOption := .flush, sealPending := true }) := by
  unfold State.stopFlush
  dsimp only
  simp only [setGroup_group, if_true, setGroup_setGroup]
  split
  · rename_i h
    exact .inl ⟨h, rfl⟩
  · rename_i b h
    split
    · rename_i hb
      exact .inr (.inl ⟨b, h, hb, rfl⟩)
    · rename_i hb
      exact .inr (.inr ⟨b, h, hb, rfl⟩)

/-- R36: FLUSH of an ACTIVE group. -/
theorem batchesOk_stopFlush {s : State} {g : Fin 8} (hs : BatchesOk s) (hst : (s.group g).state = .active) : BatchesOk (s.stopFlush g) := by
  obtain ⟨hc, hd⟩ := (batchesOk_iff s).1 hs
  have hf := hc.groups g
  obtain ⟨⟨hshape, hp, h3, h4, h5, h6⟩, hsum, hq, hop, hot, hsq⟩ := hf.batches
  have hsoft := hc.softResetting_eq_false (.inl hst)
  have hnsaf : (s.group g).state ≠ .safing := by simp [hst]
  obtain ⟨o, ho⟩ := Option.isSome_iff_exists.1 (hshape.2 (.inl hst))
  have hone1 := setGroup_onlyGroup s g { s.group g with state := .stopping, stopOption := .flush }
  have hone := setGroup_onlyGroup s g { s.group g with state := .stopping, stopOption := .flush, sealPending := true }
  -- with the SEALED batch QUEUED, or the other batch as it is, the group is STOPPING with a pending seal
  have hbok (b : Batch) (hot' : (s.group g).other = some b) (c : Batch) (hc : c.state ≠ .closed ∧ c.state ≠ .opened)
      (h : c.seq = b.seq ∧ c.entries = b.entries ∧ c.sealCause = b.sealCause) :
      GroupBatchesOk { s.group g with state := .stopping, stopOption := .flush, sealPending := true, other := some c } := by
    obtain ⟨⟨-, k2, k3⟩, k4, k5⟩ := hot b hot'
    refine groupBatchesOk_open (o := o) ho ?_ hq (hop o ho) (fun d hd => ?_) (.inr ⟨rfl, rfl, c, rfl, hc.1⟩)
    · show (s.group g).held = _
      rw [hsum, ho, hot']
      simp [entryCount, h.2.1]
    · obtain rfl := Option.some.inj hd
      exact ⟨⟨hc.2, by rw [h.2.2]; exact k2, by rw [h.2.1]; exact k3⟩, ⟨by rw [h.2.1]; exact k4, by rw [h.2.1]; exact k5⟩,
        by rw [h.1]; exact hsq o ho b hot'⟩
  rcases stopFlush_cases s g with ⟨hot', heq⟩ | ⟨b, hot', hbc, heq⟩ | ⟨b, hot', hbc, heq⟩ <;> rw [heq]
  · have hsl := Sealable.of_batchesOk hf.batches ho hot'
    have hnone := hf.no_item hnsaf (by simp [hot'])
    have hsl1 : Sealable ((s.setGroup g { s.group g with state := .stopping, stopOption := .flush }).group g) o := by
      rw [setGroup_group, if_pos rfl]
      exact ⟨hsl.opened, hsl.fits, hsl.held, hsl.quota, hsl.pending⟩
    have hst1 : ((s.setGroup g { s.group g with state := .stopping, stopOption := .flush }).group g).state = .stopping := by simp
    have hr := ((hc.rest g).of_sameQueue hone1 (by simp) rfl).sealOpen .flush hnone
      (hone1.frame.softResetting.trans hsoft) hsl1 (.inr hst1)
    refine (batchesOk_iff _).2 ⟨hr, drainOk_of_onlyGroup hd (hone1.trans (sealOpen_onlyGroup _ g _)) ⟨fun b hb => ?_, fun h => absurd h hnsaf, fun h => absurd h hnsaf⟩⟩
    rw [hot', sealOpen_of_stopping .flush hst1 hsl1.opened, setReleaseQueue_group, setGroup_group, if_pos rfl]
    refine ⟨fun h => ?_, fun h => by cases h⟩
    obtain rfl := Option.some.inj h
    cases hb
  · have hgo : ((s.setGroup g { s.group g with state := .stopping, stopOption := .flush, sealPending := true }).group g).other = some b := by
      simpa using hot'
    have hnone := hf.no_item hnsaf (fun d hd => by obtain rfl := Option.some.inj (hot'.symm.trans hd); simp [hbc])
    have heq := queueOther_of_some _ g b hgo
    have hall := hone.trans (queueOther_onlyGroup _ g)
    have hgr := congrArg (fun u : State => u.group g) heq
    simp only [setReleaseQueue_group, setGroup_group, if_true] at hgr
    have hqq := congrArg (fun u : State => u.releaseQueue) heq
    simp only [setReleaseQueue_releaseQueue, setGroup_releaseQueue] at hqq
    refine batchesOk_of_onlyGroup hs hall ⟨fun d hd => ?_, fun h => absurd h hnsaf, fun h => absurd h hnsaf⟩
      (fun hr => hr.of_append hall (by rw [heq]; simp) hqq hnone hsoft) ?_
    · rw [hgr, hot']
      constructor
      · intro h; obtain rfl := Option.some.inj h; cases hd
      · intro h; obtain rfl := Option.some.inj h; rw [hbc] at hd; cases hd
    · rw [hall.frame.softResetting, hsoft, hgr, hqq]
      exact GroupFits.of_queued (b := { b with state := .queued }) (hbok b hot' _ ⟨by simp, by simp⟩ ⟨rfl, rfl, rfl⟩) rfl rfl hnone (fun h => by cases h)
  · have hx := hbok b hot' b ⟨hbc, (hot b hot').1.1⟩ ⟨rfl, rfl, rfl⟩
    rw [← hot'] at hx
    refine batchesOk_of_onlyGroup hs hone ⟨fun d _ => by simp, fun h => absurd h hnsaf, fun h => absurd h hnsaf⟩
      (fun hr => hr.of_sameQueue hone (by simp) rfl) ?_
    rw [setGroup_group, if_pos rfl, hone.frame.softResetting, hsoft]
    refine ⟨hx, hf.queued, fun it hi hg => ?_, fun h => by cases h⟩
    have := hf.items it hi hg
    cases it with
    | batch k n => exact this
    | safe k => exact absurd ((Group.fits_safe _ k).1 this) hnsaf

theorem batchesOk_groupStopFlush (g : Fin 8) : Takes BatchesOk (fun s => s.groupStopFlush g) := by
  intro s d t _ hs hok
  dsimp only [State.groupStopFlush] at hok
  split at hok
  · cases hok
  · rename_i hst
    cases hok
    exact batchesOk_stopFlush hs hst
  · cases hok
    exact hs
  · cases hok
  · rename_i hst
    cases hok
    exact batchesOk_setOff _ hs hst

theorem batchesOk_clearFault (g : Fin 8) (force : Bool) : Takes BatchesOk (fun s => s.clearFault g force) := by
  intro s d t _ hs hok
  dsimp only [State.clearFault, State.clearFaulted] at hok
  split at hok
  · cases hok
  · cases hok
  · cases hok
  · cases hok
  · rename_i hst
    split at hok
    · cases hok
    · split at hok
      · cases hok
      · cases hok
        exact batchesOk_clearGroup _ _ hs hst

theorem batchesOk_forceFault (g : Fin 8) : Takes BatchesOk (fun s => s.forceFault g) := by
  intro s d t _ hs hok
  dsimp only [State.forceFault] at hok
  split at hok <;> cases hok <;> exact batchesOk_tripSource _ _ hs

theorem batchesOk_sealGroup (g : Fin 8) : Takes BatchesOk (fun s => s.sealGroup g) := by
  intro s d t _ hs hok
  dsimp only [State.sealGroup] at hok
  split at hok
  · cases hok
    exact batchesOk_sealRequest g _ hs
  · cases hok

theorem batchesOk_releaseGroup (g : Fin 8) : Takes BatchesOk (fun s => s.releaseGroup g) := by
  intro s d t _ hs hok
  dsimp only [State.releaseGroup] at hok
  split at hok
  · cases hok
    exact batchesOk_releasePoint g hs
  · cases hok

/-! ### The tables -/

/-- R28: an OFF group's configuration, whose quota its held count of 0 meets. -/
theorem batchesOk_writeGroup (g : Fin 8) (f : GroupFields) : Takes BatchesOk (fun s => s.writeGroup g f) := by
  intro s d t hp hs hok
  have hsoft : s.softResetting = false := by simp [State.softResetting, hp]
  dsimp only [State.writeGroup, written] at hok
  split at hok
  · cases hok
  · split at hok
    · cases hok
    · rename_i hst
      have hst : (s.group g).state = .off := by simpa using hst
      cases hok
      obtain ⟨⟨hshape, hsp, h3, -, -, -⟩, hsum, -, -, -, -⟩ := (((batchesOk_iff s).1 hs).1.groups g).batches
      have hn : (s.group g).other = none := h3 (.inl hst)
      have hopen : (s.group g).opened = none := by simpa [holdsOpen, hst] using hshape
      have hnp : (s.group g).sealPending = false := by
        cases e : (s.group g).sealPending with
        | false => rfl
        | true => exact absurd (hsp e).2 (by simp [hn])
      exact batchesOk_setGroup hs (groupBatchesOk_empty hopen hn (by rw [hsum, hopen, hn]; rfl) hnp (.inl hst)) rfl rfl rfl hsoft

/-- R121: no safe-image entry of a SAFING group is written, so the one the engine stands at is not. -/
theorem batchesOk_writeSafe (n : Fin 128) (f : SafeFields) : Takes BatchesOk (fun s => s.writeSafe n f) := by
  intro s d t _ hs hok
  dsimp only [State.writeSafe, written] at hok
  split at hok
  · cases hok
  · split at hok
    · cases hok
    · rename_i hbusy
      cases hok
      obtain ⟨hc, hdr, hfit, hport⟩ := (batchesOk_iff s).1 hs
      -- a safe job being written stands at an entry of its SAFING group, which is not entry `n`
      have hstay (g : Fin 8) (hcur : s.drain.current = some (.safe g)) (hp : s.drain.progress = .writing) :
          (s.safeTable.set n (safeRecord f))[s.drain.safeNext] = s.safeTable[s.drain.safeNext] := by
        have hw := hfit hp _ hcur
        simp only [writtenFits, Bool.and_eq_true, beq_iff_eq] at hw
        have hne : ¬ (n.val = s.drain.safeNext.val) := by
          intro e
          obtain rfl : n = s.drain.safeNext := Fin.ext e
          exact hbusy (.inl (by rw [hw.2]; exact hw.1.1.1))
        simp only [Fin.getElem_fin, Vector.getElem_set, hne, if_false]
      refine (batchesOk_iff _).2 ⟨⟨hc.groups, hc.pool, hc.once, hc.order, hc.soft⟩, hdr, fun hp it hit => ?_, fun x hx hxr => ?_⟩
      · have hw := hfit hp it hit
        cases it with
        | batch g q => exact hw
        | safe g =>
          simp only [writtenFits, hstay g hit hp]
          exact hw
      · obtain ⟨y, hy, hxy⟩ := hport x hx hxr
        refine ⟨y, ?_, hxy⟩
        obtain ⟨hp, hcase⟩ := (drainWrite_eq_some s y).1 hy
        refine (drainWrite_eq_some _ y).2 ⟨hp, hcase.imp id ?_⟩
        rintro ⟨g, hcur, hye⟩
        refine ⟨g, hcur, ?_⟩
        simp only [hstay g hcur hp]
        exact hye

end Sys2Proof.Machine

/-! PROOFS. Chapter 05: the drain engine keeps batches, pool, release queue and engine fitting together: an item's taking (R87, R88), the
writes of a batch and their end (R90 to R95), a safe job (R97, R98) and the end report (R96). -/

namespace Sys2Proof.Machine

open Sys2Proof.Safety

/-! ### Retirement -/

/-- A run of watch updates over watches that differ touches the watches alone, each listed one once. -/
theorem foldl_setWatch (f : Watch → Watch) (l : List (Fin 12)) (hl : l.Nodup) (s : State) :
    ∃ v, l.foldl (fun s w => s.setWatch w (f (s.watch w))) s = { s with watches := v } ∧
      ∀ w : Fin 12, v[w] = if w ∈ l then f (s.watch w) else s.watch w := by
  induction l generalizing s with
  | nil => exact ⟨s.watches, rfl, fun w => by simp [State.watch]⟩
  | cons a l ih =>
    obtain ⟨ha, hl⟩ := List.nodup_cons.1 hl
    obtain ⟨v, hv, hw⟩ := ih hl (s.setWatch a (f (s.watch a)))
    refine ⟨v, by rw [List.foldl_cons, hv]; rfl, fun w => ?_⟩
    rw [hw w, setWatch_watch]
    by_cases h : a = w
    · subst h; simp [ha]
    · simp [h, Ne.symm h]

theorem watchNumbers_eq : watchNumbers = List.finRange 12 := by decide

theorem mem_watchNumbers (w : Fin 12) : w ∈ watchNumbers := watchNumbers_eq ▸ List.mem_finRange w

theorem watchNumbers_nodup : watchNumbers.Nodup := watchNumbers_eq ▸ List.nodup_finRange 12

/-- R144: a retirement opens the windows of the watches, and changes nothing else. -/
theorem openWindows_spec (s : State) (g : Fin 8) :
    ∃ v, s.openWindows g = { s with watches := v } ∧ ∀ w : Fin 12, v[w] = (s.watch w).openWindow g := by
  obtain ⟨v, hv, hw⟩ := foldl_setWatch (fun x => x.openWindow g) watchNumbers watchNumbers_nodup s
  exact ⟨v, hv, fun w => by rw [hw w, if_pos (mem_watchNumbers w)]⟩

/-- No batch is DRAINING but perhaps group `g`'s, and no DRAIN write is at the port. -/
structure OthersRest (g : Fin 8) (s : State) : Prop where
  draining : ∀ h, h ≠ g → ∀ b, (s.group h).other = some b → b.state ≠ .draining
  port : ∀ t ∈ s.port.current, t.requester ≠ .drain

theorem OthersRest.of_onlyGroup {g : Fin 8} {s t : State} (hs : OthersRest g s) (h : OnlyGroup g s t) : OthersRest g t :=
  ⟨fun k hk => by rw [h.others k hk]; exact hs.draining k hk, by rw [h.frame.port]; exact hs.port⟩

/-- Once the engine's progress is ENDING, it writes nothing, so no batch is DRAINING. -/
theorem OthersRest.drainOk {g : Fin 8} {s : State} (hs : OthersRest g s)
    (hg : ∀ b, (s.group g).other = some b → b.state ≠ .draining) (hp : s.drain.progress = .ending) : DrainOk s := by
  refine ⟨fun h b hb hd => ?_, fun h _ _ => absurd (hp.symm.trans h) (by simp), fun t ht hr => absurd hr (hs.port t ht)⟩
  by_cases e : h = g
  · exact absurd hd (hg b (e ▸ hb))
  · exact absurd hd (hs.draining h e b hb)

/-- R93: a group whose retired batch has just been taken away. -/
structure Retired (x : Group) : Prop where
  other : x.other = none
  held : x.held = entryCount x.opened
  quota : x.held ≤ x.config.quota
  opened : ∀ o, x.opened = some o → OpenOk o ∧ EntriesOk o ∧ x.nextSeq = o.seq + 1
  shape : x.opened.isSome = true ↔ holdsOpen x
  pending : x.sealPending = true → x.opened.isSome = true

/-- R93: the batch that retires has no entry left, so it held no slot. -/
theorem Retired.of_batchesOk {gr x : Group} {b : Batch} (h : GroupBatchesOk gr) (hb : gr.other = some b) (he : b.entries = [])
    (hx : SameBatches { gr with other := none } x) : Retired x := by
  obtain ⟨⟨hshape, hp, -⟩, hsum, hq, hop, -⟩ := h
  refine ⟨hx.other, ?_, by rw [hx.held, hx.quota]; exact hq, fun o ho => ?_, ?_, fun hs => ?_⟩
  · rw [hx.held, hx.opened]
    show gr.held = _
    rw [hsum, hb]
    simp [entryCount, he]
  · rw [hx.opened] at ho
    rw [hx.nextSeq]
    exact hop o ho
  · rw [holdsOpen, hx.opened, hx.state, hx.sealPending]
    exact hshape
  · rw [hx.sealPending] at hs
    rw [hx.opened]
    exact (hp hs).1

theorem Retired.groupBatchesOk {x : Group} (h : Retired x) (hp : x.sealPending = false) (hs : x.state ≠ .stopping) : GroupBatchesOk x := by
  refine ⟨⟨h.shape, fun e => ?_, fun _ => h.other, fun e => absurd e hs, ?_, ?_⟩, ?_, h.quota, fun o ho => h.opened o ho, ?_, ?_⟩
  · rw [hp] at e; cases e
  all_goals simp [h.other, h.held, entryCount]

theorem Retired.sealable {x y : Group} {o : Batch} (h : Retired x) (ho : x.opened = some o)
    (hy : SameBatches { x with sealPending := false } y) : Sealable y o :=
  ⟨hy.opened.trans ho, by rw [hy.nextSeq]; exact h.opened o ho, by rw [hy.held]; exact h.held.trans (by rw [ho]; rfl),
    by rw [hy.held, hy.quota]; exact h.quota, hy.sealPending⟩

theorem followUp_onlyGroup (s : State) (g : Fin 8) : OnlyGroup g s (s.followUp g) := by
  rcases followUp_cases s g with ⟨-, e⟩ | ⟨-, -, e⟩ | ⟨-, -, -, e⟩ | ⟨-, -, -, e⟩ <;> rw [e]
  · exact setGroup_onlyGroup s g _
  · exact (setGroup_onlyGroup s g _).trans (sealOpen_onlyGroup _ g _)
  · exact (setGroup_onlyGroup s g _).trans (submit_onlyGroup _ g _)

/-- R56, R37, R38: the group controller's part of a retirement. -/
theorem Retired.followUp {u : State} {g : Fin 8} (h : Retired (u.group g)) (hr : RestOk g u)
    (hitems : ∀ it ∈ u.releaseQueue, it.group = g → it.isSafe = true ∧ (u.group g).state = .safing)
    (hsoft : u.softResetting = true → (u.group g).opened = none) :
    CoreOk (u.followUp g) ∧ ∀ b, ((u.followUp g).group g).other = some b → b.state ≠ .draining := by
  have hone := followUp_onlyGroup u g
  have hnone (hst : (u.group g).state ≠ .safing) : ∀ it ∈ u.releaseQueue, it.group ≠ g := fun it hit e => hst (hitems it hit e).2
  have core_of {x : Group} {t : State} (ht : OnlyGroup g u t) (hq : t.releaseQueue = u.releaseQueue) (hx : t.group g = x)
      (hheld : x.held = (u.group g).held) (hf : t.freeSlots = u.freeSlots) (hb : GroupBatchesOk x) (hn : x.other = none)
      (hi : ∀ it ∈ u.releaseQueue, it.group = g → x.fits it = true)
      (hres : u.softResetting = true → x.opened = none ∧ x.state = .off) :
      CoreOk t ∧ ∀ b, (t.group g).other = some b → b.state ≠ .draining := by
    refine ⟨(hr.of_sameQueue ht (by rw [hx, hheld, hf]) hq).core ?_, by simp [hx, hn]⟩
    rw [hx, hq, ht.frame.softResetting]
    exact ⟨hb, by simp [hn], hi, fun e => ⟨(hres e).1, .inl (hres e).2⟩⟩
  -- without an OPEN batch nothing is held, and no seal is pending
  have hempty (hopen : (u.group g).opened = none) : GroupBatchesOk { u.group g with state := .off } := by
    refine groupBatchesOk_empty hopen h.other (h.held.trans (by rw [hopen]; rfl)) ?_ (.inl rfl)
    cases e : (u.group g).sealPending with
    | false => rfl
    | true => exact absurd (h.pending e) (by simp [hopen])
  rcases followUp_cases u g with ⟨hs, e⟩ | ⟨hs, hp, e⟩ | ⟨hs, hp, hst, e⟩ | ⟨hs, hp, hst, e⟩ <;> rw [e] at hone ⊢
  · exact core_of (x := { u.group g with state := .off }) hone rfl (by simp) rfl rfl (hempty (hsoft hs)) h.other
      (fun it hit => by rw [hr.soft hs] at hit; cases hit) fun _ => ⟨hsoft hs, rfl⟩
  · obtain ⟨o, ho⟩ := Option.isSome_iff_exists.1 (h.pending hp)
    have h1 := setGroup_onlyGroup u g { u.group g with sealPending := false }
    have hgr : (u.setGroup g { u.group g with sealPending := false }).group g = { u.group g with sealPending := false } := by simp
    have hsl : Sealable ((u.setGroup g { u.group g with sealPending := false }).group g) o := by
      rw [hgr]
      exact h.sealable ho ⟨rfl, rfl, rfl, rfl, rfl, rfl, rfl⟩
    have hst : (u.group g).state = .active ∨ (u.group g).state = .stopping :=
      (h.shape.1 (h.pending hp)).imp id And.left
    refine ⟨(hr.of_sameQueue h1 (by rw [hgr]; rfl) rfl).sealOpen .pendingSeal (hnone (by rcases hst with e | e <;> simp [e])) (h1.frame.softResetting.trans hs) hsl (by rw [hgr]; exact hst),
      fun b hb => ?_⟩
    rcases hst with hst | hst
    · rw [sealOpen_of_active .pendingSeal (by rw [hgr]; exact hst) hsl.opened, setReleaseQueue_group, setGroup_group, if_pos rfl] at hb
      obtain rfl := Option.some.inj hb
      simp only [sealedBatch]
      split <;> simp
    · rw [sealOpen_of_stopping .pendingSeal (by rw [hgr]; exact hst) hsl.opened, setReleaseQueue_group, setGroup_group, if_pos rfl] at hb
      obtain rfl := Option.some.inj hb
      simp [sealedBatch]
  · have hopen : (u.group g).opened = none := by
      have := h.shape
      rw [holdsOpen, hst, hp] at this
      simpa using this
    exact core_of (x := { u.group g with state := .off }) hone (by simp) (by simp) rfl (by simp) (hempty hopen) h.other
      (fun it hit e => absurd e (hnone (by simp [hst]) it hit)) fun e => by rw [hs] at e; cases e
  · refine core_of hone rfl rfl rfl rfl (h.groupBatchesOk hp hst) h.other (fun it hit hg => ?_) fun e => by rw [hs] at e; cases e
    obtain ⟨h1, h2⟩ := hitems it hit hg
    cases it with
    | batch k n => cases h1
    | safe k => exact (Group.fits_safe _ k).2 h2

/-- R93 to R95: a batch with no entry left retires. -/
theorem batchesOk_retire {u : State} {g : Fin 8} {b : Batch} (hr : RestOk g u) (hrest : OthersRest g u) (hgb : GroupBatchesOk (u.group g))
    (hb : (u.group g).other = some b) (he : b.entries = [])
    (hitems : ∀ it ∈ u.releaseQueue, it.group = g → it.isSafe = true ∧ (u.group g).state = .safing)
    (hsoft : u.softResetting = true → (u.group g).opened = none) : BatchesOk (u.retire g b) := by
  unfold State.retire
  dsimp only
  -- the state in which the group controller follows up
  generalize hv : ((u.setGroup g { u.group g with retirement := u.retirementRecord g b }).submit
    (.batchRetired g b.seq b.sealCause b.errorsSeen)) = v
  have hv1 : OnlyGroup g u v := hv ▸ (setGroup_onlyGroup u g _).trans (submit_onlyGroup _ g _)
  have hvg : v.group g = { u.group g with retirement := u.retirementRecord g b } := by subst hv; simp
  have hvq : v.releaseQueue = u.releaseQueue := by subst hv; simp
  have hvf : v.freeSlots = u.freeSlots := by subst hv; simp
  have hone := hv1.trans (setGroup_onlyGroup v g { v.group g with other := none })
  have hgr : (v.setGroup g { v.group g with other := none }).group g = { u.group g with retirement := u.retirementRecord g b, other := none } := by
    simp [hvg]
  have hret : Retired ((v.setGroup g { v.group g with other := none }).group g) := by
    rw [hgr]
    exact .of_batchesOk hgb hb he ⟨rfl, rfl, rfl, rfl, rfl, rfl, rfl⟩
  obtain ⟨hcore, hnd⟩ := hret.followUp (hr.of_sameQueue hone (by rw [hgr]; simp [hvf]) hvq) (by rw [hgr]; simpa [hvq] using hitems)
    (fun h => by rw [hgr]; exact hsoft (hone.frame.softResetting.symm.trans h))
  have hall := hone.trans (followUp_onlyGroup _ g)
  generalize hw : (v.setGroup g { v.group g with other := none }).followUp g = w at hcore hnd hall
  have hwb : BatchesOk (w.setDrain { w.drain with progress := .ending }) := by
    refine (batchesOk_iff _).2 ⟨⟨hcore.groups, hcore.pool, hcore.once, hcore.order, hcore.soft⟩, ?_⟩
    have := hrest.of_onlyGroup hall
    exact OthersRest.drainOk (g := g) ⟨this.draining, this.port⟩ hnd rfl
  have hfin : BatchesOk ((w.openWindows g).setDrain { (w.openWindows g).drain with progress := .ending }) := by
    obtain ⟨ws, hws, -⟩ := openWindows_spec w g
    rw [hws]
    exact batchesOk_congr rfl rfl rfl rfl rfl rfl rfl rfl rfl hwb
  split
  · exact batchesOk_tripSource _ _ hfin
  · exact hfin

/-! ### Taking an item -/

/-- R83, R84: the item taken leaves the queue, and its group has no other one. -/
theorem CoreOk.erase {s : State} (hc : CoreOk s) {it : Item} (hit : it ∈ s.releaseQueue) :
    RestOk it.group (s.setReleaseQueue (s.releaseQueue.erase it)) ∧ ∀ j ∈ s.releaseQueue.erase it, j.group ≠ it.group := by
  have hmem (j : Item) : j ∈ s.releaseQueue.erase it ↔ j ≠ it ∧ j ∈ s.releaseQueue := hc.nodup.mem_erase_iff
  have hsub := List.erase_sublist (a := it) (l := s.releaseQueue)
  refine ⟨⟨fun h hh => (hc.groups h).congr_queue fun j hj => ?_, hc.pool, hc.once.sublist (hsub.map _), hc.order.sublist hsub, fun e => ?_⟩,
    fun j hj hg => ?_⟩
  · rw [setReleaseQueue_releaseQueue, hmem, and_iff_right]
    rintro rfl
    exact hh hj.symm
  · have := hc.soft e
    rw [this] at hit
    cases hit
  · obtain ⟨hne, hin⟩ := (hmem j).1 hj
    exact hne (List.inj_on_of_nodup_map hc.once hin hit hg)

/-- An IDLE engine drains no batch and has no write at the port. -/
theorem drainOk_idle {s : State} (hd : DrainOk s) (hcur : s.drain.current = none) :
    (∀ g b, (s.group g).other = some b → b.state ≠ .draining) ∧ ∀ t ∈ s.port.current, t.requester ≠ .drain := by
  obtain ⟨h1, -, h3⟩ := hd
  refine ⟨fun g b hb e => ?_, fun t ht hr => ?_⟩
  · have := (h1 g b hb e).1
    rw [hcur] at this
    cases this
  · obtain ⟨x, hx, -⟩ := h3 t ht hr
    obtain ⟨-, ⟨g, q, b, e, hc, -⟩ | ⟨g, hc, -⟩⟩ := (drainWrite_eq_some s x).1 hx <;> rw [hcur] at hc <;> cases hc

/-- R32: the other batch of a SAFING group is DRAINING. -/
theorem draining_of_safing {gr : Group} (h : GroupBatchesOk gr) (hs : gr.state = .safing) :
    gr.opened = none ∧ gr.sealPending = false ∧ ∀ b, gr.other = some b → b.state = .draining := by
  obtain ⟨⟨hshape, hp, -, -, h5, h6⟩, -, -, -, hot, -⟩ := h
  have hopen : gr.opened = none := by simpa [holdsOpen, hs] using hshape
  refine ⟨hopen, ?_, fun b hb => ?_⟩
  · cases e : gr.sealPending with
    | false => rfl
    | true => exact absurd (hp e).1 (by simp [hopen])
  · have h5 := h5 b hb
    have h6 := h6 b hb
    have h7 := (hot b hb).1.1
    rw [hs] at h5 h6
    cases e : b.state <;> simp_all

/-- R97, R98: the engine at a safe job goes to the next safe entry, or the job completes. -/
theorem batchesOk_advanceSafe {u : State} {g : Fin 8} (n : Nat) (hr : RestOk g u) (hrest : OthersRest g u) (hgb : GroupBatchesOk (u.group g))
    (hst : (u.group g).state = .safing) (hn : (u.group g).other = none) (hnone : ∀ it ∈ u.releaseQueue, it.group ≠ g)
    (hcur : u.drain.current = some (.safe g)) : BatchesOk (u.advanceSafe g n) := by
  obtain ⟨hopen, hnp, -⟩ := draining_of_safing hgb hst
  have hnd (h : Fin 8) (b : Batch) (hb : (u.group h).other = some b) : b.state ≠ .draining := by
    by_cases e : h = g
    · subst e
      rw [hn] at hb
      cases hb
    · exact hrest.draining h e b hb
  rcases advanceSafe_cases u g n with ⟨k, hk, e⟩ | ⟨-, e⟩ <;> rw [e]
  · obtain ⟨-, hen, hkg⟩ := nextSafe_eq_some u g n k hk
    have hc : CoreOk u := hr.core (.of_no_item hgb (by simp [hn]) hnone fun _ => ⟨hopen, .inr (.inl hst)⟩)
    refine (batchesOk_iff _).2 ⟨⟨hc.groups, hc.pool, hc.once, hc.order, hc.soft⟩, fun h b hb hd => absurd hd (hnd h b hb), fun _ it hit => ?_,
      fun t ht hdr => absurd hdr (hrest.port t ht)⟩
    obtain rfl := Option.some.inj (hcur.symm.trans hit)
    have : Item.safe g ∉ u.releaseQueue := fun hin => hnone _ hin rfl
    simp only [writtenFits, setDrain_group, hst, beq_self_eq_true, setDrain_releaseQueue, setDrain_safeTable, setDrain_drain, hen, hkg]
    simpa using this
  · unfold State.completeSafe
    dsimp only
    generalize hx : ({ u.group g with
      state := if u.softResetting then .off else .faulted
      safeIncomplete := (u.group g).safeIncomplete || decide (u.drain.errors ≠ 0) } : Group) = x
    generalize hev : EventBody.safeApplied g _ _ = ev
    have hone := (setGroup_onlyGroup u g x).trans (submit_onlyGroup _ g ev)
    have hgr : ((u.setGroup g x).submit ev).group g = x := by simp
    have hq : ((u.setGroup g x).submit ev).releaseQueue = u.releaseQueue := by simp
    have hxb : GroupBatchesOk x := by
      subst hx
      refine groupBatchesOk_empty hopen hn ?_ hnp ?_
      · obtain ⟨-, hsum, -⟩ := hgb
        exact hsum.trans (by rw [hopen, hn]; rfl)
      · cases u.softResetting <;> simp
    have hxn : x.other = none := by subst hx; exact hn
    have hc : CoreOk ((u.setGroup g x).submit ev) := by
      refine (hr.of_sameQueue hone (by rw [hgr]; subst hx; simp) hq).core ?_
      rw [hgr, hq, hone.frame.softResetting]
      refine .of_no_item hxb (by simp [hxn]) hnone fun hs => ?_
      subst hx
      exact ⟨hopen, .inl (by simp [hs])⟩
    have ho := hrest.of_onlyGroup hone
    exact (batchesOk_iff _).2 ⟨⟨hc.groups, hc.pool, hc.once, hc.order, hc.soft⟩,
      OthersRest.drainOk (g := g) ⟨ho.draining, ho.port⟩ (by simp [hxn]) rfl⟩

/-- R87, R88, R90: a batch that has just left the queue starts draining, or retires at once. -/
theorem batchesOk_startBatch {u : State} {g : Fin 8} {b : Batch} (hr : RestOk g u) (hrest : OthersRest g u) (hgb : GroupBatchesOk (u.group g))
    (hb : (u.group g).other = some b) (hq : b.state = .queued) (hnone : ∀ it ∈ u.releaseQueue, it.group ≠ g)
    (hcur : u.drain.current = some (.batch g b.seq)) (hp : u.drain.progress = .writing) (hsoft : u.softResetting = false) :
    BatchesOk (u.startBatch g) := by
  unfold State.startBatch
  simp only [hb]
  generalize hx : ({ u.group g with other := some { b with state := .draining } } : Group) = x
  have hone := setGroup_onlyGroup u g x
  have hgr : (u.setGroup g x).group g = x := by simp
  have hxo : x.other = some { b with state := .draining } := by subst hx; rfl
  have hxb : GroupBatchesOk x := by
    subst hx
    obtain ⟨⟨hshape, hsp, h3, h4, h5, h6⟩, hsum, hqu, hop, hot, hsq⟩ := hgb
    obtain ⟨⟨k1, k2, k3⟩, k4⟩ := hot b hb
    have hst := h6 b hb hq
    refine ⟨⟨hshape, fun e => ⟨(hsp e).1, rfl⟩, fun e => ?_, fun _ => rfl, ?_, ?_⟩, ?_, hqu, hop, ?_, ?_⟩
    · rcases hst with h | h <;> rw [h] at e <;> simp at e
    · intro c hc h; obtain rfl := Option.some.inj hc; cases h
    · intro c hc h; obtain rfl := Option.some.inj hc; cases h
    · exact hsum.trans (by rw [hb]; rfl)
    · intro c hc; obtain rfl := Option.some.inj hc; exact ⟨⟨by simp, k2, k3⟩, k4⟩
    · intro o ho c hc; obtain rfl := Option.some.inj hc; exact hsq o ho b hb
  have hr1 : RestOk g (u.setGroup g x) := hr.of_sameQueue hone (by rw [hgr]; subst hx; rfl) rfl
  have hsoft1 : (u.setGroup g x).softResetting = false := hone.frame.softResetting.trans hsoft
  have ho := hrest.of_onlyGroup hone
  split
  · rename_i he
    refine batchesOk_retire (b := { b with state := .draining }) ⟨hr1.others, hr1.pool, hr1.once, hr1.order, hr1.soft⟩ ⟨ho.draining, ho.port⟩ ?_ ?_ ?_
      (fun it hit e => absurd e (hnone it hit)) (fun e => ?_)
    · rw [setDrain_group, hgr]; exact hxb
    · rw [setDrain_group, hgr]; exact hxo
    · simpa using he
    · exact absurd (hsoft1.symm.trans e) (by simp)
  · rename_i he
    have hc : CoreOk (u.setGroup g x) := hr1.core (by
      rw [hgr, hsoft1]
      exact .of_no_item hxb (by simp [hxo]) hnone fun e => by cases e)
    refine (batchesOk_iff _).2 ⟨⟨hc.groups, hc.pool, hc.once, hc.order, hc.soft⟩, fun h c hc hd => ?_, fun _ it hit => ?_,
      fun t ht hdr => absurd hdr (ho.port t ht)⟩
    · by_cases e : h = g
      · subst e
        rw [setDrain_group, hgr, hxo] at hc
        obtain rfl := Option.some.inj hc
        exact ⟨hcur, hp, by simpa using he⟩
      · exact absurd hd (ho.draining h e c hc)
    · obtain rfl := Option.some.inj (hcur.symm.trans hit)
      simp only [writtenFits, setDrain_group, hgr, hxo]
      simp

/-- R15: an item's start touches the upstream port alone. -/
theorem holdAtStart_eq (s : State) (g : Fin 8) : ∃ u, s.holdAtStart g = { s with upstream := u } := by
  have hfold (l : List (Fin 16)) (v : State) :
      ∃ u, l.foldl (fun s i => s.setSlot i { s.slot i with state := .held }) v = { v with upstream := u } := by
    induction l generalizing v with
    | nil => exact ⟨v.upstream, rfl⟩
    | cons i l ih =>
      obtain ⟨u, hu⟩ := ih (v.setSlot i { v.slot i with state := .held })
      exact ⟨u, hu⟩
  obtain ⟨u, hu⟩ := hfold (s.upstream.passQueue.filter (s.slotIn g))
    ((s.setPassQueue (s.upstream.passQueue.filter (fun i => !s.slotIn g i))).setHoldList
      (s.upstream.holdList ++ s.upstream.passQueue.filter (s.slotIn g)))
  exact ⟨u, hu⟩

/-- R87: the IDLE engine takes an item. -/
theorem batchesOk_takeItem {s : State} {it : Item} (hs : BatchesOk s) (hit : it ∈ s.releaseQueue) (hidle : s.drain.current = none) :
    BatchesOk (s.takeItem it) := by
  obtain ⟨hc, hd⟩ := (batchesOk_iff s).1 hs
  obtain ⟨hr, hnone⟩ := hc.erase hit
  obtain ⟨hnd, hport⟩ := drainOk_idle hd hidle
  have hsoft : s.softResetting = false := by
    cases e : s.softResetting with
    | false => rfl
    | true => rw [hc.soft e] at hit; cases hit
  have hf := hc.groups it.group
  have hfit := hf.items it hit rfl
  unfold State.takeItem
  dsimp only
  obtain ⟨u, hu⟩ := holdAtStart_eq (s.makeCurrent it) it.group
  rw [hu]
  cases it with
  | batch g q =>
    obtain ⟨b, hb, hbq, rfl⟩ := (Group.fits_batch _ g q).1 hfit
    exact batchesOk_startBatch (b := b) ⟨hr.others, hr.pool, hr.once, hr.order, hr.soft⟩ ⟨fun h _ b hb => hnd h b hb, hport⟩ hf.batches hb hbq
      hnone rfl rfl hsoft
  | safe g =>
    have hst := (Group.fits_safe _ g).1 hfit
    refine batchesOk_advanceSafe 0 ⟨hr.others, hr.pool, hr.once, hr.order, hr.soft⟩ ⟨fun h _ b hb => hnd h b hb, hport⟩ hf.batches hst ?_
      hnone rfl
    exact Option.eq_none_iff_forall_ne_some.2 fun b hb => hnd g b hb ((draining_of_safing hf.batches hst).2.2 b hb)

theorem batchesOk_decideItem {s : State} (hs : BatchesOk s) : BatchesOk s.decideItem := by
  unfold State.decideItem
  split
  · exact hs
  · rename_i h
    have hidle : s.drain.current = none := by
      cases e : s.drain.current with
      | none => rfl
      | some _ => exact absurd (by simp [e]) h
    split
    · rename_i it hp
      exact batchesOk_takeItem hs (pickItem_eq_some s it hp).1 hidle
    · exact hs

/-! ### The engine's writes -/

/-- R90, R91, R93: the write of a DRAINING batch's first entry. -/
theorem batchesOk_entryWritten {s : State} {g : Fin 8} {q : Seq} (error : Bool) (hs : BatchesOk s) (hcur : s.drain.current = some (.batch g q))
    (hp : s.drain.progress = .writing) (hport : s.port.current = none) : BatchesOk (s.entryWritten g error) := by
  obtain ⟨hc, hd, hw, -⟩ := (batchesOk_iff s).1 hs
  have hf := hc.groups g
  have hfit := hw hp _ hcur
  obtain ⟨b, hb, hbd, rfl⟩ : ∃ b, (s.group g).other = some b ∧ b.state = .draining ∧ b.seq = q := by
    cases ho : (s.group g).other with
    | none => simp [writtenFits, ho] at hfit
    | some b =>
      simp only [writtenFits, ho, Bool.and_eq_true, beq_iff_eq] at hfit
      exact ⟨b, rfl, hfit⟩
  obtain ⟨e, rest, he⟩ := List.exists_cons_of_ne_nil (hd g b hb hbd).2.2
  rw [entryWritten_of_entry s g error b e rest hb he]
  dsimp only
  generalize hb' : ({ b with entries := rest, errorsSeen := if error then b.errorsSeen + 1 else b.errorsSeen } : Batch) = b'
  generalize hx : ({ s.group g with
    other := some b', held := (s.group g).held - 1
    drainErrors := if error then bump (s.group g).drainErrors else (s.group g).drainErrors } : Group) = x
  have hone := (setGroup_onlyGroup s g x).trans (setFreeSlots_onlyGroup _ g (s.freeSlots + 1))
  have hgr : ((s.setGroup g x).setFreeSlots (s.freeSlots + 1)).group g = x := by simp
  have hxo : x.other = some b' := by subst hx; rfl
  have hxh : x.held + 1 = (s.group g).held := by
    obtain ⟨-, hsum, -⟩ := hf.batches
    rw [hb] at hsum
    subst hx
    simp only [entryCount, he, List.length_cons] at hsum ⊢
    omega
  have hxb : GroupBatchesOk x := by
    obtain ⟨⟨hshape, hsp, h3, h4, h5, h6⟩, hsum, hqu, hop, hot, hsq⟩ := hf.batches
    obtain ⟨⟨k1, k2, k3⟩, k4, k5⟩ := hot b hb
    rw [he] at k3 k4 k5
    have hb2 : b'.state = .draining := by subst hb'; exact hbd
    refine ⟨⟨?_, fun e => ?_, fun e => ?_, fun _ => by rw [hxo]; rfl, ?_, ?_⟩, ?_, ?_, ?_, ?_, ?_⟩
    · subst hx; exact hshape
    · subst hx; exact ⟨(hsp e).1, rfl⟩
    · have := h3 (by subst hx; exact e)
      rw [hb] at this
      cases this
    · intro c hc h
      obtain rfl := Option.some.inj (hxo.symm.trans hc)
      rw [hb2] at h
      cases h
    · intro c hc h
      obtain rfl := Option.some.inj (hxo.symm.trans hc)
      rw [hb2] at h
      cases h
    · have hxop : x.opened = (s.group g).opened := by subst hx; rfl
      have hlen : entryCount x.other = rest.length := by rw [hxo]; subst hb'; rfl
      rw [hb] at hsum
      simp only [entryCount, he, List.length_cons] at hsum
      rw [hxop, hlen]
      simp only [entryCount]
      omega
    · have : x.config.quota = (s.group g).config.quota := by subst hx; rfl
      omega
    · subst hx; exact hop
    · intro c hc
      obtain rfl := Option.some.inj (hxo.symm.trans hc)
      subst hb'
      simp only [List.map_cons, List.pairwise_cons, List.nodup_cons] at k3 k4
      exact ⟨⟨k1, k2, k3.2⟩, k4.2, fun e he => k5 e (List.mem_cons_of_mem _ he)⟩
    · intro o ho c hc
      obtain rfl := Option.some.inj (hxo.symm.trans hc)
      subst hb'
      subst hx
      exact hsq o ho b hb
  have hr : RestOk g ((s.setGroup g x).setFreeSlots (s.freeSlots + 1)) :=
    (hc.rest g).of_sameQueue hone (by rw [hgr]; simp; omega) rfl
  -- only a safe job of a SAFING group stands in the queue
  have hitems : ∀ it ∈ s.releaseQueue, it.group = g → it.isSafe = true ∧ x.state = .safing := by
    intro it hit hg
    have := hf.items it hit hg
    cases it with
    | safe k => exact ⟨rfl, by subst hx; exact (Group.fits_safe _ k).1 this⟩
    | batch k n =>
      obtain ⟨c, hcc, hcq, -⟩ := (Group.fits_batch _ k n).1 this
      obtain rfl := Option.some.inj (hb.symm.trans hcc)
      rw [hbd] at hcq
      cases hcq
  have hnd (h : Fin 8) (hh : h ≠ g) (c : Batch) (hc : (s.group h).other = some c) : c.state ≠ .draining := by
    intro e
    have := (hd h c hc e).1
    rw [hcur] at this
    exact hh (by injection (Option.some.inj this).symm)
  have hsoft : s.softResetting = true → x.opened = none ∧ (x.state = .off ∨ x.state = .safing ∨ x.state = .stopping) := by
    subst hx
    exact hf.reset
  split
  · rename_i hnil
    refine batchesOk_retire hr (OthersRest.of_onlyGroup ⟨hnd, by simp [hport]⟩ hone) (by rw [hgr]; exact hxb) (by rw [hgr]; exact hxo)
      (by subst hb'; exact hnil) (by rw [hgr]; exact hitems) fun e => ?_
    rw [hgr]
    exact (hsoft (hone.frame.softResetting.symm.trans e)).1
  · rename_i hnil
    refine (batchesOk_iff _).2 ⟨hr.core ?_, fun h c hc' hcd => ?_, fun _ it hit => ?_, fun t ht => ?_⟩
    · rw [hgr, hone.frame.softResetting]
      refine ⟨hxb, fun c hc' hcq => ?_, fun it hit hg => ?_, hsoft⟩
      · obtain rfl := Option.some.inj (hxo.symm.trans hc')
        subst hb'
        exact absurd (hbd.symm.trans hcq) (by simp)
      · obtain ⟨h1, h2⟩ := hitems it hit hg
        cases it with
        | batch k n => cases h1
        | safe k => exact (Group.fits_safe _ k).2 h2
    · by_cases e : h = g
      · subst e
        rw [hgr, hxo] at hc'
        obtain rfl := Option.some.inj hc'
        subst hb'
        exact ⟨hcur, hp, hnil⟩
      · rw [hone.others h e] at hc'
        exact absurd hcd (hnd h e c hc')
    · obtain rfl := Option.some.inj (hcur.symm.trans hit)
      simp only [writtenFits, hgr, hxo]
      subst hb'
      simp [hbd]
    · rw [hone.frame.port, hport] at ht
      cases ht

/-- R97: the write of a safe job's entry. -/
theorem batchesOk_safeEntryWritten {s : State} {g : Fin 8} (error : Bool) (hs : BatchesOk s) (hcur : s.drain.current = some (.safe g))
    (hp : s.drain.progress = .writing) (hport : s.port.current = none) : BatchesOk (s.safeEntryWritten g error) := by
  obtain ⟨hc, hd, hw, -⟩ := (batchesOk_iff s).1 hs
  have hf := hc.groups g
  have hfit := hw hp _ hcur
  simp only [writtenFits, Bool.and_eq_true, beq_iff_eq, Bool.not_eq_true'] at hfit
  obtain ⟨⟨⟨hst, hnot⟩, -⟩, -⟩ := hfit
  have hnot : .safe g ∉ s.releaseQueue := by simpa using hnot
  have hnd (h : Fin 8) (b : Batch) (hb : (s.group h).other = some b) : b.state ≠ .draining := by
    intro e
    have := (hd h b hb e).1
    rw [hcur] at this
    cases this
  have hn : (s.group g).other = none :=
    Option.eq_none_iff_forall_ne_some.2 fun b hb => hnd g b hb ((draining_of_safing hf.batches hst).2.2 b hb)
  have hr := hc.rest g
  refine batchesOk_advanceSafe _ ⟨hr.others, hr.pool, hr.once, hr.order, hr.soft⟩ ⟨fun h _ b hb => hnd h b hb, by simp [hport]⟩ hf.batches hst hn
    (fun it hit e => ?_) hcur
  have := hf.items it hit e
  cases it with
  | safe k => exact hnot (by cases e; exact hit)
  | batch k q =>
    obtain ⟨b, hb, -⟩ := (Group.fits_batch _ k q).1 this
    rw [hn] at hb
    cases hb

/-- R101: a performed DRAIN write, the port being IDLE again. -/
theorem batchesOk_drainPerformed {s : State} (error : Bool) (hs : BatchesOk s) (hp : s.drain.progress = .writing)
    (hport : s.port.current = none) : BatchesOk (s.drainPerformed error) := by
  unfold State.drainPerformed
  split
  · rename_i hcur
    exact batchesOk_entryWritten error hs hcur hp hport
  · rename_i hcur
    exact batchesOk_safeEntryWritten error hs hcur hp hport
  · exact hs

/-! ### The port -/

/-- R100: the port made IDLE, the memory's contents apart. -/
theorem batchesOk_idlePort {s : State} (m : List Host.Cell) (hs : BatchesOk s) :
    BatchesOk ((s.setPort { s.port with current := none }).setMem m) := by
  obtain ⟨hc, hd1, hd2, -⟩ := (batchesOk_iff s).1 hs
  exact (batchesOk_iff _).2 ⟨⟨hc.groups, hc.pool, hc.once, hc.order, hc.soft⟩, hd1, hd2, fun t ht => by cases ht⟩

theorem batchesOk_passPerformed {s : State} (i : Fin 16) (e : Bool) (w : Word) (hs : BatchesOk s) : BatchesOk (s.passPerformed i e w) := by
  unfold State.passPerformed
  dsimp only
  split
  · exact batchesOk_setUpstream _ hs
  · split <;> exact batchesOk_setUpstream _ hs

/-- R157: a PEEK or POKE that is performed is no soft reset, and none is pending then. -/
theorem batchesOk_completeCommand {s : State} (status : Status) (code : Byte) (data : List Byte) (hs : BatchesOk s) :
    BatchesOk (s.completeCommand status code data) := by
  obtain ⟨hg, hp, hq, hd, -⟩ := hs
  exact ⟨hg, hp, hq, hd, fun h => by cases h⟩

theorem batchesOk_reportLanded {s : State} (t : Transaction) (e : Bool) (hs : BatchesOk s) : BatchesOk (s.reportLanded t e) := by
  unfold State.reportLanded
  split
  · exact batchesOk_watchClosed.landedWrite _ _ _ _ hs
  · exact hs

theorem reportLanded_watchesOnly (s : State) (t : Transaction) (e : Bool) : WatchesOnly s (s.reportLanded t e) := by
  unfold State.reportLanded
  split
  · exact landedWrite_watchesOnly _ _ _ _ _
  · exact .refl s

theorem batchesOk_perform {s : State} {t : Transaction} (e : Bool) (rd : Word) (hs : BatchesOk s) (ht : s.port.current = some t) :
    BatchesOk (s.perform t e rd) := by
  unfold State.perform
  dsimp only
  refine batchesOk_reportBlocks (batchesOk_reportClearance ?_)
  have h0 := batchesOk_idlePort (memoryAfter s.mem t e rd) hs
  have h1 := batchesOk_reportLanded t e h0
  have hw := reportLanded_watchesOnly ((s.setPort { s.port with current := none }).setMem (memoryAfter s.mem t e rd)) t e
  unfold State.toRequester
  split
  · exact batchesOk_passPerformed _ _ _ h1
  · rename_i hr
    obtain ⟨x, hx, -⟩ := hs.2.2.2.1.2.2 t ht hr
    have hp := ((drainWrite_eq_some s x).1 hx).1
    exact batchesOk_drainPerformed e h1 (by rw [hw.drain]; exact hp) (by rw [hw.port]; rfl)
  · exact batchesOk_watchClosed.probeResult _ _ _ h1
  · unfold State.peekPerformed
    split <;> exact batchesOk_completeCommand _ _ _ h1
  · unfold State.pokePerformed
    split <;> exact batchesOk_completeCommand _ _ _ h1

theorem batchesOk_performed {s : State} (e : Bool) (rd : Word) (hs : BatchesOk s) : BatchesOk (s.performed e rd) := by
  unfold State.performed
  split
  · exact hs
  · exact batchesOk_perform e rd hs ‹_›

/-- R102: a grant puts at the port the engine's own write, or a transaction that is not DRAIN's. -/
theorem batchesOk_grant {s : State} (x : Turn) (t : Transaction) (hs : BatchesOk s)
    (ht : t.requester = .drain → ∃ y ∈ s.drainWrite, t.addr = y.1 ∧ t.kind = .write y.2.1 y.2.2) : BatchesOk (s.grant x t) := by
  obtain ⟨hc, hd1, hd2, -⟩ := (batchesOk_iff s).1 hs
  refine (batchesOk_iff _).2 ⟨⟨hc.groups, hc.pool, hc.once, hc.order, hc.soft⟩, hd1, hd2, fun u hu hr => ?_⟩
  obtain rfl := Option.some.inj hu
  exact ht hr

theorem batchesOk_arbitrate {s : State} (hs : BatchesOk s) : BatchesOk s.arbitrate := by
  unfold State.arbitrate
  split
  · exact hs
  · split
    · exact hs
    · unfold State.grantDrain
      split
      · exact hs
      · rename_i a d m hw
        exact batchesOk_grant _ _ hs fun _ => ⟨_, hw, rfl, rfl⟩
    · unfold State.grantPass
      split
      · exact hs
      · exact batchesOk_setUpstream _ (batchesOk_grant (s := s) .pass _ hs fun h => by cases h)
    · unfold State.grantService
      split
      · exact hs
      · rename_i r _
        have h := batchesOk_grant (s := s) .service (s.serviceTransaction r) hs fun h => by cases r <;> cases h
        dsimp only
        cases r <;> exact batchesOk_congr rfl rfl rfl rfl rfl rfl rfl rfl rfl h

/-! ### The end of an item -/

theorem batchesOk_reDecode (l : List (Fin 16)) (acc : State × List (Fin 16)) (hs : BatchesOk acc.1) :
    BatchesOk (l.foldl reDecode acc).1 := by
  induction l generalizing acc with
  | nil => exact hs
  | cons i l ih => exact ih _ (batchesOk_follow i _ hs)

/-- `t` is `s` but for the upstream port, the groups, the free list, the release queue and the event queue. -/
def RequestsOnly (s t : State) : Prop := ∃ u, GroupsOnly { s with upstream := u } t

namespace RequestsOnly

variable {s t u : State}

theorem of_groupsOnly (h : GroupsOnly s t) : RequestsOnly s t := ⟨s.upstream, h⟩

@[refl] theorem refl (s : State) : RequestsOnly s s := .of_groupsOnly (.refl s)

theorem trans (h : RequestsOnly s t) (k : RequestsOnly t u) : RequestsOnly s u := by
  obtain ⟨a, gs, n, q, e, rfl⟩ := h
  obtain ⟨b, gs', n', q', e', rfl⟩ := k
  exact ⟨b, gs', n', q', e', rfl⟩

theorem setUpstream (s : State) (u : Upstream) : RequestsOnly s { s with upstream := u } := ⟨u, .refl _⟩

theorem drain (h : RequestsOnly s t) : t.drain = s.drain := by
  obtain ⟨_, h⟩ := h
  exact h.drain

theorem port (h : RequestsOnly s t) : t.port = s.port := by
  obtain ⟨_, h⟩ := h
  exact h.port

theorem windows (h : RequestsOnly s t) : t.windows = s.windows := by
  obtain ⟨_, h⟩ := h
  exact h.windows

theorem link (h : RequestsOnly s t) : t.link = s.link := by
  obtain ⟨_, h⟩ := h
  exact h.link

theorem watches (h : RequestsOnly s t) : t.watches = s.watches := by
  obtain ⟨_, h⟩ := h
  exact h.watches

theorem mem (h : RequestsOnly s t) : t.mem = s.mem := by
  obtain ⟨_, h⟩ := h
  exact h.mem

theorem foldl {α : Type} (f : State → α → State) (hf : ∀ s a, RequestsOnly s (f s a)) (l : List α) (s : State) :
    RequestsOnly s (l.foldl f s) := by
  induction l generalizing s with
  | nil => exact refl s
  | cons a l ih => exact (hf s a).trans (ih (f s a))

end RequestsOnly

theorem setSlot_requestsOnly (s : State) (i : Fin 16) (x : Slot) : RequestsOnly s (s.setSlot i x) := .setUpstream s _

theorem answer_requestsOnly (s : State) (i : Fin 16) (r : Response) (p : Bool) : RequestsOnly s (s.answer i r p) := .setUpstream s _

theorem refuse_requestsOnly (s : State) (i : Fin 16) (g : Fin 8) (c : RefusalCause) : RequestsOnly s (s.refuse i g c) :=
  (answer_requestsOnly s i _ _).trans (.of_groupsOnly (reportRefusal_groupsOnly _ g c _))

theorem stageSlot_requestsOnly (s : State) (i : Fin 16) (w : Window) (d : Word) (m : Mask) : RequestsOnly s (s.stageSlot i w d m) := by
  have h := RequestsOnly.of_groupsOnly (stage_groupsOnly s w.group (s.slot i).addr d m (w.isSealWord (s.slot i).addr))
  unfold State.stageSlot
  split
  · rename_i e
    rw [e] at h
    exact h.trans (answer_requestsOnly _ _ _ _)
  · rename_i c e
    rw [e] at h
    have hr := h.trans (refuse_requestsOnly _ i w.group c)
    dsimp only
    split
    · exact hr.trans (.of_groupsOnly (tripSource_groupsOnly _ _ _))
    · exact hr

theorem follow_requestsOnly (s : State) (i : Fin 16) (r : Route) : RequestsOnly s (s.follow i r) := by
  unfold State.follow
  dsimp only
  split
  · exact setSlot_requestsOnly s i _
  · exact setSlot_requestsOnly s i _
  · exact (setSlot_requestsOnly s i _).trans (answer_requestsOnly _ i _ _)
  · split
    · exact stageSlot_requestsOnly s i _ _ _
    · exact .refl s
  · exact refuse_requestsOnly s i _ _

theorem reDecode_requestsOnly (l : List (Fin 16)) (acc : State × List (Fin 16)) : RequestsOnly acc.1 (l.foldl reDecode acc).1 := by
  induction l generalizing acc with
  | nil => exact .refl _
  | cons i l ih => exact (follow_requestsOnly acc.1 i _).trans (ih _)

theorem returnHeld_requestsOnly (s : State) (g : Fin 8) : RequestsOnly s (s.returnHeld g) := by
  unfold State.returnHeld
  dsimp only
  exact (RequestsOnly.setUpstream s _).trans ((reDecode_requestsOnly _ (_, _)).trans ((RequestsOnly.setUpstream _ _).trans
    (.foldl _ (fun s i => setSlot_requestsOnly s i _) _ _)))

/-- R18, R19: the held requests' return. -/
theorem batchesOk_returnHeld {s : State} (g : Fin 8) (hs : BatchesOk s) : BatchesOk (s.returnHeld g) := by
  have hfold (l : List (Fin 16)) (v : State) (hv : BatchesOk v) :
      BatchesOk (l.foldl (fun s i => s.setSlot i { s.slot i with returnMark := some g }) v) := by
    induction l generalizing v with
    | nil => exact hv
    | cons i l ih => exact ih _ (batchesOk_setUpstream _ hv)
  unfold State.returnHeld
  exact hfold _ _ (batchesOk_setUpstream _ (batchesOk_reDecode _ (_, _) (batchesOk_setUpstream _ hs)))

/-- R96: the end report of an item that is no longer written. -/
theorem batchesOk_endItem {s : State} (hs : BatchesOk s) : BatchesOk s.endItem := by
  unfold State.endItem
  split
  · exact hs
  · rename_i it hcur
    split
    · rename_i hp
      unfold State.reportEnd
      dsimp only
      refine batchesOk_reportBlocks (batchesOk_reportClearance ?_)
      have hp' : (s.returnHeld it.group).drain.progress = .ending := by rw [(returnHeld_requestsOnly s it.group).drain]; exact hp
      obtain ⟨hc, hd1, hd2, hd3⟩ := (batchesOk_iff _).1 (batchesOk_returnHeld it.group hs)
      refine (batchesOk_iff _).2 ⟨⟨hc.groups, hc.pool, hc.once, hc.order, hc.soft⟩, fun g b hb hd => ?_, fun _ _ h => (by cases h), fun t ht hr => ?_⟩
      · have := (hd1 g b hb hd).2.1
        rw [hp'] at this
        cases this
      · obtain ⟨x, hx, -⟩ := hd3 t ht hr
        have := ((drainWrite_eq_some _ x).1 hx).1
        rw [hp'] at this
        cases this
    · exact hs

end Sys2Proof.Machine

/-! PROOFS. Chapters 02, 05 and 08: the soft reset and the power-on reset (R38, R39, R65, R165, R166), and with them every step, keep
batches, pool, release queue and drain engine fitting together. -/

namespace Sys2Proof.Machine

open Sys2Proof.Safety

/-! ### The groups at the taking of a soft reset -/

/-- R38, R65, R76: a group at the taking. -/
def State.groupAtReset (s : State) (g : Fin 8) : Group :=
  { (s.group g).discard with state := s.softResetState g, skipRemaining := 0 }

theorem softResetGroup_eq (s : State) (g : Fin 8) : s.softResetGroup g = (s.discardBatches g).setGroup g (s.groupAtReset g) := by
  unfold State.softResetGroup State.groupAtReset
  dsimp only
  rw [discardBatches_group, if_pos rfl]

@[simp] theorem softResetGroup_group (s : State) (g h : Fin 8) :
    (s.softResetGroup g).group h = if g = h then s.groupAtReset g else s.group h := by
  rw [softResetGroup_eq, setGroup_group, discardBatches_group]
  split <;> rfl

/-- R38: what a group becomes depends on its own record and on the engine. -/
theorem groupAtReset_congr {s t : State} {g : Fin 8} (hg : t.group g = s.group g) (hd : t.drain = s.drain) :
    t.groupAtReset g = s.groupAtReset g := by
  have hst : t.softResetState g = s.softResetState g := by
    unfold State.softResetState State.safeWriting
    rw [hg, hd]
  unfold State.groupAtReset
  rw [hg, hst]

/-- R38, R65, R165: the taking at each of several groups. -/
theorem foldl_softResetGroup (l : List (Fin 8)) (hl : l.Nodup) (s : State) :
    ∃ gs n q, l.foldl State.softResetGroup s = { s with groups := gs, freeSlots := n, releaseQueue := q } ∧
      (∀ g : Fin 8, gs[g] = if g ∈ l then s.groupAtReset g else s.group g) ∧ n = s.freeSlots + (l.map fun g => (s.group g).discardable).sum := by
  induction l generalizing s with
  | nil => exact ⟨s.groups, s.freeSlots, s.releaseQueue, rfl, fun g => by simp [State.group], rfl⟩
  | cons a l ih =>
    obtain ⟨ha, hl⟩ := List.nodup_cons.1 hl
    obtain ⟨gs, n, q, he, hg, hn⟩ := ih hl (s.softResetGroup a)
    have hf : (s.softResetGroup a).freeSlots = s.freeSlots + (s.group a).discardable := by rw [softResetGroup_eq]; rfl
    have hgr (g : Fin 8) (h : g ≠ a) : (s.softResetGroup a).group g = s.group g := by rw [softResetGroup_group, if_neg (Ne.symm h)]
    refine ⟨gs, n, q, by rw [List.foldl_cons, he]; rfl, fun g => ?_, ?_⟩
    · rw [hg g]
      by_cases h : g = a
      · subst h; simp [ha]
      · rw [groupAtReset_congr (hgr g h) rfl, hgr g h]
        simp [h]
    · rw [hn, hf, List.map_cons, List.sum_cons, Nat.add_assoc]
      congr 2
      exact congrArg List.sum (List.map_congr_left fun g hgl => by rw [hgr g (fun e => ha (e ▸ hgl))])

theorem groupNumbers_nodup : groupNumbers.Nodup := groupNumbers_eq ▸ List.nodup_finRange 8

/-- R38, R165: the taking at every group. -/
theorem softResetGroups_spec (s : State) :
    ∃ gs n q, groupNumbers.foldl State.softResetGroup s = { s with groups := gs, freeSlots := n, releaseQueue := q } ∧
      (∀ g : Fin 8, gs[g] = s.groupAtReset g) ∧ n = s.freeSlots + ∑ g : Fin 8, (s.group g).discardable := by
  obtain ⟨gs, n, q, he, hg, hn⟩ := foldl_softResetGroup groupNumbers groupNumbers_nodup s
  refine ⟨gs, n, q, he, fun g => by rw [hg g, if_pos (mem_groupNumbers g)], ?_⟩
  rw [hn, Fin.sum_univ_def, groupNumbers_eq]

/-- R38: a group in which a batch drains is SAFING or STOPPING, one whose safe job is being written SAFING, any other OFF. -/
theorem softResetState_cases (s : State) (g : Fin 8) :
    s.softResetState g = .safing ∨ (s.group g).draining = true ∧ s.softResetState g = .stopping ∨
      (s.group g).draining = false ∧ s.softResetState g = .off := by
  unfold State.softResetState
  split
  · split
    · exact .inl rfl
    · exact .inr (.inl ⟨‹_›, rfl⟩)
  · rename_i h
    split
    · exact .inl rfl
    · exact .inr (.inr ⟨by simpa using h, rfl⟩)

theorem groupBatchesOk_atReset {s : State} {g : Fin 8} (h : GroupBatchesOk (s.group g)) : GroupBatchesOk (s.groupAtReset g) :=
  groupBatchesOk_discard h rfl rfl rfl rfl rfl (softResetState_cases s g)

/-- R38: the other batch kept is the one that drains. -/
theorem groupAtReset_other (s : State) (g : Fin 8) (b : Batch) :
    (s.groupAtReset g).other = some b ↔ (s.group g).other = some b ∧ b.state = .draining := by
  show (if (s.group g).draining then (s.group g).other else none) = some b ↔ _
  split
  · rename_i h
    obtain ⟨c, hc, hcd⟩ := (Group.draining_iff _).1 h
    refine ⟨fun e => ⟨e, ?_⟩, fun e => e.1⟩
    rw [hc] at e
    obtain rfl := Option.some.inj e
    exact hcd
  · rename_i h
    refine ⟨fun e => by (cases e), fun e => absurd ((Group.draining_iff _).2 ⟨b, e⟩) h⟩

/-- R165: the groups, the pool and the release queue at the taking of SOFT_RESET. -/
theorem batchesOk_softResetGroups {s t : State} (hs : BatchesOk s) (hg : ∀ g, t.group g = s.groupAtReset g)
    (hf : t.freeSlots = s.freeSlots + ∑ g : Fin 8, (s.group g).discardable) (hq : t.releaseQueue = []) (hd : t.drain = s.drain)
    (hst : t.safeTable = s.safeTable) (hport : t.port = s.port) : BatchesOk t := by
  obtain ⟨hc, hd1, hd2, hd3⟩ := (batchesOk_iff s).1 hs
  have hdr (h : Fin 8) (b : Batch) (hb : (t.group h).other = some b) : (s.group h).other = some b ∧ b.state = .draining :=
    (groupAtReset_other s h b).1 (hg h ▸ hb)
  refine (batchesOk_iff t).2 ⟨⟨fun g => ?_, ?_, by simp [hq], by rw [hq]; exact List.Pairwise.nil, fun _ => hq⟩, fun h b hb _ => ?_,
    fun hp it hit => ?_, fun x hx hxr => ?_⟩
  · rw [hg g, hq]
    refine .of_no_item (groupBatchesOk_atReset (hc.groups g).batches) (fun b hb => ?_) (by simp) fun _ => ⟨rfl, ?_⟩
    · rw [((groupAtReset_other s g b).1 hb).2]
      simp
    · rcases softResetState_cases s g with e | ⟨-, e⟩ | ⟨-, e⟩ <;> simp [State.groupAtReset, e]
  · have hsum : slotsInUse t + ∑ g : Fin 8, (s.group g).discardable = slotsInUse s := by
      rw [slotsInUse_eq_sum, slotsInUse_eq_sum, ← Finset.sum_add_distrib]
      refine Finset.sum_congr rfl fun g _ => ?_
      rw [hg g]
      have := discardable_le (hc.groups g).batches
      show (s.group g).held - (s.group g).discardable + _ = _
      omega
    have := hc.pool
    unfold PoolOk at this ⊢
    omega
  · rw [hd]
    exact hd1 h b (hdr h b hb).1 (hdr h b hb).2
  · rw [hd] at hp hit
    have hw := hd2 hp it hit
    cases it with
    | batch g q =>
      cases ho : (s.group g).other with
      | none => simp [writtenFits, ho] at hw
      | some b =>
        simp only [writtenFits, ho, Bool.and_eq_true, beq_iff_eq] at hw
        have hb : (t.group g).other = some b := by rw [hg g]; exact (groupAtReset_other s g b).2 ⟨ho, hw.1⟩
        simp [writtenFits, hb, hw]
    | safe g =>
      simp only [writtenFits, Bool.and_eq_true, beq_iff_eq] at hw ⊢
      refine ⟨⟨⟨?_, by simp [hq]⟩, ?_⟩, ?_⟩
      · rw [hg g]
        show s.softResetState g = .safing
        have hsw : s.safeWriting g = true := by
          unfold State.safeWriting
          rw [hit, hp]
          simp
        unfold State.softResetState
        rw [hsw]
        split
        · exact if_pos hw.1.1.1
        · rfl
      · simp only [hst, hd]; exact hw.1.2
      · simp only [hst, hd]; exact hw.2
  · rw [hport] at hx
    obtain ⟨y, hy, hxy⟩ := hd3 x hx hxr
    refine ⟨y, ?_, hxy⟩
    obtain ⟨hp, hcase⟩ := (drainWrite_eq_some s y).1 hy
    refine (drainWrite_eq_some t y).2 ⟨by rw [hd]; exact hp, ?_⟩
    simp only [hd, hst]
    refine hcase.imp ?_ id
    rintro ⟨g, q, b, e, hcur, ho, he, hye⟩
    have hw := hd2 hp _ hcur
    simp only [writtenFits, ho, Bool.and_eq_true, beq_iff_eq] at hw
    exact ⟨g, q, b, e, hcur, by rw [hg g]; exact (groupAtReset_other s g b).2 ⟨ho, hw.1⟩, he, hye⟩

/-- R165: what the taking of SOFT_RESET does at every block, the watches' part apart. -/
theorem softResetBlocks_spec (s : State) :
    ∃ gs n, s.softResetBlocks = watchNumbers.foldl State.softResetWatch
        { s.softResetSlots with
          groups := gs, freeSlots := n, releaseQueue := [], baseA := s.baseA.softReset, baseB := s.baseB.softReset } ∧
      (∀ g : Fin 8, gs[g] = s.groupAtReset g) ∧ n = s.freeSlots + ∑ g : Fin 8, (s.group g).discardable := by
  obtain ⟨gs, n, q, he, hg, hn⟩ := softResetGroups_spec s.softResetSlots
  refine ⟨gs, n, ?_, hg, hn⟩
  unfold State.softResetBlocks
  dsimp only
  rw [he]
  rfl

theorem batchesOk_softResetBlocks {s v : State} (hs : BatchesOk s) (hg : v.groups = s.groups) (hf : v.freeSlots = s.freeSlots)
    (hd : v.drain = s.drain) (hst : v.safeTable = s.safeTable) (hport : v.port = s.port) : BatchesOk v.softResetBlocks := by
  have hgroup (g : Fin 8) : v.group g = s.group g := by simp only [State.group, hg]
  obtain ⟨gs, n, he, hgs, hn⟩ := softResetBlocks_spec v
  rw [he]
  refine foldl_keeps (P := BatchesOk) (f := State.softResetWatch) (fun _ w hs => batchesOk_watchClosed.softResetWatch w hs) _ _ ?_
  refine batchesOk_softResetGroups hs (fun g => (hgs g).trans (groupAtReset_congr (hgroup g) hd)) ?_ rfl hd hst hport
  simp only [hgroup, hf] at hn
  exact hn

/-- R38, R166: the completion of a soft reset touches what the group's batches do not depend on. -/
theorem batchesOk_tryComplete {s : State} (hs : BatchesOk s) : BatchesOk s.tryComplete := by
  unfold State.tryComplete
  split
  · have hg (g : Fin 8) : ({ s with groups := s.groups.map Group.softResetDone } : State).group g = (s.group g).softResetDone := by
      simp [State.group]
    have hgs : BatchesOk { s with groups := s.groups.map Group.softResetDone } := by
      obtain ⟨hc, hd1, hd2, hd3⟩ := (batchesOk_iff s).1 hs
      have hsame (g : Fin 8) : SameBatches (s.group g) (s.group g).softResetDone := ⟨rfl, rfl, rfl, rfl, rfl, rfl, rfl⟩
      refine (batchesOk_iff _).2 ⟨⟨fun g => by rw [hg g]; exact (hsame g).groupFits (hc.groups g), ?_, hc.once, hc.order, hc.soft⟩,
        fun g b hb => ?_, fun hp it hit => ?_, fun x hx hxr => ?_⟩
      · have := hc.pool
        unfold PoolOk slotsInUse at this ⊢
        simp only [hg]
        exact this
      · rw [hg g] at hb
        exact hd1 g b hb
      · have := hd2 hp it hit
        cases it with
        | batch k q => simp only [writtenFits, hg] at this ⊢; exact this
        | safe k => simp only [writtenFits, hg] at this ⊢; exact this
      · obtain ⟨y, hy, hxy⟩ := hd3 x hx hxr
        refine ⟨y, ?_, hxy⟩
        simp only [Option.mem_def, drainWrite_eq_some, hg] at hy ⊢
        exact hy
    refine batchesOk_completeCommand _ _ _ ?_
    unfold State.partReset State.store
    split <;> exact batchesOk_congr rfl rfl rfl rfl rfl rfl rfl rfl rfl hgs
  · exact hs

theorem batchesOk_softReset {s : State} (hs : BatchesOk s) : BatchesOk (softResetBody s) := by
  unfold softResetBody
  dsimp only
  refine batchesOk_tryComplete (batchesOk_reportBlocks (batchesOk_reportClearance ?_))
  exact batchesOk_softResetBlocks hs rfl rfl rfl rfl rfl

/-! ### The power-on reset -/

/-- R39, R64, R85: groups, pool, release queue and engine at their reset values. -/
theorem batchesOk_powerOn (s : State) : BatchesOk s.powerOn := by
  have hg (g : Fin 8) : s.powerOn.group g = Group.reset := by simp [State.group, State.powerOn, State.reset]
  have hb : GroupBatchesOk Group.reset := groupBatchesOk_empty rfl rfl rfl rfl (.inl rfl)
  refine (batchesOk_iff _).2 ⟨⟨fun g => ?_, ?_, List.nodup_nil, List.Pairwise.nil, fun h => by (cases h)⟩, fun g b hbo => ?_, fun _ it hit => ?_,
    fun t ht => ?_⟩
  · rw [hg g]
    exact .of_no_item hb (by simp [Group.reset]) (fun it h => by cases h) fun h => by cases h
  · unfold PoolOk slotsInUse
    simp only [hg]
    simp [Group.reset, State.powerOn, State.reset, Config.poolSlots]
  · rw [hg g] at hbo
    cases hbo
  · cases hit
  · cases ht

/-! ### Every step -/

theorem batchesOk_kept : Kept BatchesOk where
  pending _ _ hs := batchesOk_congr rfl rfl rfl rfl rfl rfl rfl rfl rfl hs
  newCycle _ hs := batchesOk_congr rfl rfl rfl rfl rfl rfl rfl rfl rfl hs
  setLink s _ hl _ hs := batchesOk_congr (s := s) rfl rfl rfl rfl rfl rfl rfl rfl (by simp only [State.softResetting, setLink_link, hl]) hs
  upstreamRequest _ _ _ _ _ hs := batchesOk_upstreamRequest _ _ _ _ hs
  issueResponse _ _ _ _ hs := batchesOk_issueResponse _ _ hs
  arbitrate _ hs := batchesOk_arbitrate hs
  performed _ _ _ _ hs := batchesOk_performed _ _ hs
  decideItem _ hs := batchesOk_decideItem hs
  endItem _ _ hs := batchesOk_endItem hs
  tickBase _ b hs := batchesOk_schedulerClosed.tickBase b hs
  mark _ b hs := batchesOk_schedulerClosed.mark b hs
  settleMarkAt _ w hs := batchesOk_watchClosed.settleMarkAt w hs
  sampleReleaseLine _ n h c hs := batchesOk_schedulerClosed.sampleReleaseLine n h c hs
  sampleFaultLine _ n h c hs := batchesOk_schedulerClosed.sampleFaultLine n h c hs
  cycle _ hs := batchesOk_schedulerClosed.cycle hs
  writeWindow n f := by
    intro s d t _ hs hok
    dsimp only [State.writeWindow, written] at hok
    repeat' split at hok
    all_goals cases hok
    exact batchesOk_congr rfl rfl rfl rfl rfl rfl rfl rfl rfl hs
  writeGroup := batchesOk_writeGroup
  writeSafe := batchesOk_writeSafe
  writeWatch w f := by
    intro s d t _ hs hok
    dsimp only [State.writeWatch, written] at hok
    repeat' split at hok
    all_goals cases hok
    exact batchesOk_congr rfl rfl rfl rfl rfl rfl rfl rfl rfl hs
  writeTimebase i b f _ _ := batchesOk_schedulerClosed.writeTimebase i b f
  writeLines f := batchesOk_schedulerClosed.writeLines f
  writeMemport b := by
    intro s d t _ hs hok
    dsimp only [State.writeMemport, written] at hok
    split at hok
    · cases hok
    · cases hok
      exact batchesOk_congr rfl rfl rfl rfl rfl rfl rfl rfl rfl hs
  startGroup := batchesOk_startGroup
  groupStopDiscard := batchesOk_groupStopDiscard
  groupStopFlush := batchesOk_groupStopFlush
  sealGroup := batchesOk_sealGroup
  releaseGroup := batchesOk_releaseGroup
  clearCounters _ _ hs := batchesOk_setGroup_same hs ⟨rfl, rfl, rfl, rfl, rfl, rfl, rfl⟩
  forceFault := batchesOk_forceFault
  clearFault := batchesOk_clearFault
  arm w := by
    intro s d t _ hs hok
    dsimp only [State.arm] at hok
    split at hok
    · cases hok
    · cases hok
      exact batchesOk_watchClosed.armWatch w hs
  disarm w := by
    intro s d t _ hs hok
    dsimp only [State.disarm] at hok
    split at hok
    · cases hok
    · cases hok
      exact batchesOk_watchClosed.disarmWatch w hs
  newReference r m w := by
    intro s d t _ hs hok
    cases hok
    exact batchesOk_watchClosed.setReference w r m hs
  startBase b := batchesOk_schedulerClosed.controlBases b _ _
  stopBase b := batchesOk_schedulerClosed.controlBases b _ _
  zeroBase b := batchesOk_schedulerClosed.controlBases b _ _
  pop := by
    intro s d t _ hs hok
    dsimp only [State.pop] at hok
    split at hok
    · cases hok
      exact hs
    · cases hok
      exact batchesOk_congr rfl rfl rfl rfl rfl rfl rfl rfl rfl hs
  startPeek a s t hp hs hok := by
    have hsoft : s.softResetting = false := by simp [State.softResetting, hp]
    unfold State.startPeek at hok
    split at hok
    · cases hok
    · cases hok
      exact batchesOk_congr (s := s) rfl rfl rfl rfl rfl rfl rfl rfl (by rw [hsoft]; rfl) hs
  startPoke a d m s t hp hs hok := by
    have hsoft : s.softResetting = false := by simp [State.softResetting, hp]
    unfold State.startPoke at hok
    split at hok
    · cases hok
    · split at hok
      · cases hok
      · cases hok
        exact batchesOk_congr (s := s) rfl rfl rfl rfl rfl rfl rfl rfl (by rw [hsoft]; rfl) hs
  softReset _ _ hs := batchesOk_softReset hs
  tryComplete _ _ hs := batchesOk_tryComplete hs
  powerOn s _ _ := batchesOk_powerOn s
  powerOnEnd s r f hs := by
    unfold State.powerOnEnd
    split
    · exact batchesOk_congr rfl rfl rfl rfl rfl rfl rfl rfl rfl hs
    · exact hs

/-- Settles O58: `BatchesOk` is kept by what every command does at its unit (`batchesOk_kept`), hence by every step. -/
theorem batchesKept : Obligations.BatchesKept := fun _ _ hs h => Kept.step batchesOk_kept _ _ hs h

end Sys2Proof.Machine

/-! PROOFS. Chapter 08: what a command's frame does with the link free: the command is refused and the result slot alone is written
(R155), or it is taken with its result (R156); and the commands that only read or write one record. -/

namespace Sys2Proof.Machine

open Sys2Proof.Safety

/-! ### A frame that is accepted -/

/-- R151, R183: the state `t` at the end of a frame begun in `s`, before the frame's command runs: one-cycle signals fallen, the frame
over, a notice it shifted out removed. -/
def readied (s t : State) : State := { quiet t with link := { s.link with notice := noticeAfter s, frame := none } }

theorem closeFrame_eq (s : State) : s.newCycle.closeFrame = readied s s := by
  unfold State.closeFrame State.frameChoice readied noticeAfter
  cases h : s.link.frame <;> simp only [newCycle_link, h] <;> rfl

theorem noFrame_eq (s : State) : s.newCycle.noFrame = { quiet s with link := { s.link with frame := none } } := rfl

theorem frameDropped_iff (s : State) : s.frameDropped = false ↔ NotDropped s := by
  unfold State.frameDropped NotDropped
  cases s.link.frame <;> simp

/-- R148: a dropped frame only ends. -/
theorem command_dropped {s : State} (h : ¬ NotDropped s) (code : Byte) (body : State → State) :
    command code body s = { quiet s with link := { s.link with frame := none } } := by
  have hd : s.frameDropped = true := by simpa using mt (frameDropped_iff s).1 h
  unfold command State.endFrame
  rw [if_pos hd, noFrame_eq]

/-- R153: a frame that is not dropped runs its command where no command is pending. -/
theorem command_ready {s : State} (h : LinkReady s) (code : Byte) (body : State → State) : command code body s = body (readied s s) := by
  obtain ⟨hd, hp⟩ := h
  unfold command State.endFrame State.unlessBusy
  rw [if_neg (by simp [(frameDropped_iff s).2 hd]), closeFrame_eq]
  exact if_neg (by simp [readied, hp])

/-- R153, R154: with a command pending the frame is rejected with BUSY. -/
theorem command_busy {s : State} (h : NotDropped s) (hp : s.link.pending ≠ none) (code : Byte) (body : State → State) :
    command code body s = rejected s .busy code := by
  unfold command State.endFrame State.unlessBusy
  rw [if_neg (by simp [(frameDropped_iff s).2 h]), closeFrame_eq]
  exact if_pos (by simpa [readied, Option.isSome_iff_ne_none] using hp)

/-- The state an immediate command leaves, from what it answers. -/
def finished (code : Byte) (s : State) : CommandResult → State
  | .ok (data, t) => t.writeResult .ok code data
  | .error status => s.refuseCommand status code

theorem immediate_eq (code : Byte) (f : State → CommandResult) (s : State) : immediate code f s = finished code s (f s) := by
  unfold immediate finished
  rfl

/-- R153, R155, R156: an immediate command's frame with the link free. -/
theorem command_immediate {s : State} (h : LinkReady s) (code : Byte) (f : State → CommandResult) :
    command code (immediate code f) s = finished code (readied s s) (f (readied s s)) := by
  rw [command_ready h, immediate_eq]

theorem finished_error (s : State) (code : Byte) (status : Status) :
    finished code (readied s s) (.error status) = refused s status code := rfl

theorem finished_ok (s t : State) (code : Byte) (data : List Byte) :
    finished code (readied s s) (.ok (data, readied s t)) = taken s t code data := rfl

theorem finished_ite (s : State) (code : Byte) (p : Prop) [Decidable p] (a b : CommandResult) :
    finished code s (if p then a else b) = if p then finished code s a else finished code s b := apply_ite _ _ _ _

/-! ### Numbers in a command's fields -/

theorem index?_ofNat {n : Nat} (hn : n ≤ 256) (i : Fin n) : Wire.index? n (BitVec.ofNat 8 i.val) = some i := by
  have h : (BitVec.ofNat 8 i.val).toNat = i.val := by
    rw [BitVec.toNat_ofNat]
    exact Nat.mod_eq_of_lt (by omega)
  unfold Wire.index?
  simp only [h, i.isLt, dif_pos]

theorem index?_of_le {n : Nat} {b : Byte} (h : n ≤ b.toNat) : Wire.index? n b = none := dif_neg (by omega)

theorem withGroup_groupByte (g : Fin 8) (f : Fin 8 → CommandResult) : withGroup (groupByte g) f = f g := by
  unfold withGroup groupByte
  rw [index?_ofNat (by decide)]

theorem withGroup_of_le {n : Byte} (h : 8 ≤ n.toNat) (f : Fin 8 → CommandResult) : withGroup n f = .error .badIndex := by
  unfold withGroup
  rw [index?_of_le h]

theorem withWatch_watchByte (w : Fin 12) (f : Fin 12 → CommandResult) : withWatch (watchByte w) f = f w := by
  unfold withWatch watchByte
  rw [index?_ofNat (by decide)]

theorem withWatch_of_le {n : Byte} (h : 12 ≤ n.toNat) (f : Fin 12 → CommandResult) : withWatch n f = .error .badIndex := by
  unfold withWatch
  rw [index?_of_le h]

theorem writeAt_ofNat {n : Nat} (hn : n ≤ 256) (i : Fin n) (f : Fin n → CommandResult) : writeAt n (BitVec.ofNat 8 i.val) f = f i := by
  unfold writeAt
  rw [index?_ofNat hn]

theorem writeAt_of_le {n : Nat} {b : Byte} (h : n ≤ b.toNat) (f : Fin n → CommandResult) : writeAt n b f = .error .badIndex := by
  unfold writeAt
  rw [index?_of_le h]

theorem readAt_ofNat {n : Nat} (hn : n ≤ 256) (i : Fin n) (s : State) (f : Fin n → List Byte) :
    readAt n (BitVec.ofNat 8 i.val) s f = .ok (f i, s) := by
  unfold readAt
  rw [index?_ofNat hn]

theorem readAt_of_le {n : Nat} {b : Byte} (h : n ≤ b.toNat) (s : State) (f : Fin n → List Byte) : readAt n b s f = .error .badIndex := by
  unfold readAt
  rw [index?_of_le h]

/-! ### READ_TABLE (R160) -/

/-- Settles O41: the index names the record, and READ_TABLE has no effect. -/
theorem tableRead : Obligations.TableRead := by
  unfold Obligations.TableRead
  intro n16 n8 n128 n12 s h
  have read {n : Nat} (hn : n ≤ 256) (i : Fin n) (f : State → Fin n → List Byte) (kind index : Byte)
      (hk : ∀ u : State, u.readTable kind index = readAt n (BitVec.ofNat 8 i.val) u (f u)) :
      exec (.readTable kind index) s = .next (taken s s 0x10#8 (f (readied s s) i)) := by
    show Host.Outcome.next (command 0x10#8 (readTableBody kind index) s) = _
    rw [readTableBody, command_immediate h, hk, readAt_ofNat hn]
    rfl
  exact ⟨read (by decide) n16 (fun u i => u.windows[i].bytes) 0#8 _ fun _ => rfl,
    read (by decide) n8 (fun u g => (u.group g).config.bytes) 1#8 _ fun _ => rfl,
    read (by decide) n128 (fun u i => u.safeTable[i].bytes) 2#8 _ fun _ => rfl,
    read (by decide) n12 (fun u w => (u.watch w).bytes) 3#8 _ fun _ => rfl,
    read (by decide) (0 : Fin 2) (fun u i => if i = 0 then u.baseA.bytes else u.baseB.bytes) 4#8 _ fun _ => rfl,
    read (by decide) (1 : Fin 2) (fun u i => if i = 0 then u.baseA.bytes else u.baseB.bytes) 4#8 _ fun _ => rfl,
    read (by decide) (0 : Fin 1) (fun u _ => u.linesBytes) 5#8 _ fun _ => rfl,
    read (by decide) (0 : Fin 1) (fun u _ => [Wire.byteOf u.port.burst]) 6#8 _ fun _ => rfl⟩

/-! ### POP_EVENT (R175) -/

/-- Settles O54, by whether the queue holds a record. -/
theorem popEvent : Obligations.PopEvent := by
  unfold Obligations.PopEvent
  intro s h
  have hexec : exec .popEvent s = .next (finished 0x70#8 (readied s s) (readied s s).pop) :=
    congrArg Host.Outcome.next (command_immediate h 0x70#8 State.pop)
  have hev : (readied s s).events = s.events := rfl
  refine ⟨fun he => ?_, fun r rest he => ?_⟩ <;> rw [hexec, State.pop, hev, he] <;> rfl

end Sys2Proof.Machine

/-! PROOFS. Chapter 08: WRITE_TABLE's records (R24, R28, R103, R121, R132), READ_STATUS (R31), TIMEBASE_CONTROL (R68), PEEK and POKE
(R163, R164). -/

namespace Sys2Proof.Machine

open Sys2Proof.Safety

/-- What a chain of checks finishes as, one check at a time. -/
theorem finished_check {s x : State} {code : Byte} {status : Status} {r : CommandResult} {p q : Prop} [Decidable p] [Decidable q]
    (h : p ↔ q) (hr : ¬ q → finished code (readied s s) r = x) :
    finished code (readied s s) (if p then .error status else r) = if q then refused s status code else x := by
  by_cases hq : q
  · rw [if_pos (h.2 hq), if_pos hq, finished_error]
  · rw [if_neg (mt h.1 hq), if_neg hq, hr hq]

theorem exec_immediate {s : State} (h : LinkReady s) {c : Instr} {code : Byte} {f : State → CommandResult}
    (hc : exec c s = .next (command code (immediate code f) s)) : exec c s = .next (finished code (readied s s) (f (readied s s))) := by
  rw [hc, command_immediate h]

/-! ### WRITE_TABLE -/

theorem windowInRange_iff (f : WindowFields) :
    (!Wire.windowInRange f) = true ↔
      f.length.toNat = 0 ∨ 65536 < f.length.toNat ∨ 4194303 < f.base.toNat + f.length.toNat - 1 ∨ 7 < f.group.toNat := by
  simp only [Wire.windowInRange, Bool.not_eq_true', ← Bool.not_eq_true, Bool.and_eq_true, decide_eq_true_eq]
  simp only [Config.lastWord]
  omega

/-- R24: the new record is enabled and shares a word with another enabled one. -/
theorem overlapsOther_iff (s : State) (n : Fin 16) (w : Window) :
    s.overlapsOther n w = true ↔ w.enabled = true ∧ ∃ m : Fin 16, m ≠ n ∧ s.windows[m].enabled = true ∧
      s.windows[m].base.toNat < w.base.toNat + w.length.toNat ∧ w.base.toNat < s.windows[m].base.toNat + s.windows[m].length.toNat := by
  have hmem (m : Fin 16) : m ∈ windowNumbers := by
    have : windowNumbers = List.finRange 16 := by decide
    rw [this]
    exact List.mem_finRange m
  simp only [State.overlapsOther, Window.overlaps, Bool.and_eq_true, List.any_eq_true, decide_eq_true_eq, bne_iff_ne, and_assoc]
  constructor
  · rintro ⟨hw, m, -, h⟩
    exact ⟨hw, m, h⟩
  · rintro ⟨hw, m, h⟩
    exact ⟨hw, m, hmem m, h⟩

/-- Settles O43, by R24's checks in their order. -/
theorem windowWritten : Obligations.WindowWritten := by
  unfold Obligations.WindowWritten
  rintro k n f w s h rfl
  have hexec (k : Byte) := exec_immediate h (c := .writeTableWindow k f) rfl
  refine ⟨fun hk => by rw [hexec, writeAt_of_le hk, finished_error], ?_⟩
  rw [hexec, writeAt_ofNat (by decide), State.writeWindow]
  refine congrArg Host.Outcome.next ?_
  refine finished_check (windowInRange_iff f) fun _ => finished_check ?_ fun _ => finished_check ?_ fun _ =>
    finished_check (overlapsOther_iff (readied s s) n _) fun _ => rfl
  · simp only [State.windowBusy, Bool.or_eq_true, Bool.and_eq_true]
    exact Iff.rfl
  · simp only [State.windowInUse, Bool.or_eq_true, Bool.and_eq_true, bne_iff_ne]
    exact Iff.rfl

theorem groupInRange_iff (f : GroupFields) :
    (!Wire.groupInRange f) = true ↔ 3 < f.trigger.toNat ∨ 65534 < f.phase.toNat ∨ 15 < f.skip.toNat ∨ 15 < f.missLimit.toNat ∨
      3 < f.releaseLine.toNat ∨ 512 < f.quota.toNat := by
  simp only [Wire.groupInRange, Bool.not_eq_true', ← Bool.not_eq_true, Bool.and_eq_true, decide_eq_true_eq]
  omega

theorem safeInRange_iff (f : SafeFields) :
    (!Wire.safeInRange f) = true ↔ 7 < f.group.toNat ∨ 4194303 < f.addr.toNat ∨ (f.enabled = true ∧ f.mask = 0#4) := by
  simp only [Wire.safeInRange, Bool.not_and, Bool.or_eq_true, Bool.not_eq_true', decide_eq_false_iff_not, Nat.not_le,
    Bool.or_eq_false_iff, Bool.not_eq_false', Bool.and_eq_true, beq_iff_eq, or_assoc]
  exact Iff.rfl

theorem watchInRange_iff (f : WatchFields) :
    (!Wire.watchInRange f) = true ↔ 4194303 < f.addr.toNat ∨ 7 < f.tripGroup.toNat ∨ (f.settlePresent = true ∧ 7 < f.settleGroup.toNat) ∨
      15 < f.settleLength.toNat := by
  simp only [Wire.watchInRange, Bool.not_and, Bool.or_eq_true, Bool.not_eq_true', decide_eq_false_iff_not, Nat.not_le,
    Bool.not_or, Bool.not_not, Bool.and_eq_true, or_assoc]
  exact Iff.rfl

/-- Settles O44, record by record, each by its checks in their order. -/
theorem recordsWritten : Obligations.RecordsWritten := by
  unfold Obligations.RecordsWritten
  refine ⟨fun g f s h => ?_, fun n f s h => ?_, fun w f s h => ?_⟩
  · rw [exec_immediate h (c := .writeTableGroup (groupByte g) f) rfl, groupByte, writeAt_ofNat (by decide), State.writeGroup]
    exact congrArg Host.Outcome.next (finished_check (groupInRange_iff f) fun _ => finished_check Iff.rfl fun _ => rfl)
  · rw [exec_immediate h (c := .writeTableSafe _ f) rfl, writeAt_ofNat (by decide), State.writeSafe]
    exact congrArg Host.Outcome.next (finished_check (safeInRange_iff f) fun _ => finished_check Iff.rfl fun _ => rfl)
  · rw [exec_immediate h (c := .writeTableWatch (watchByte w) f) rfl, watchByte, writeAt_ofNat (by decide), State.writeWatch]
    exact congrArg Host.Outcome.next (finished_check (watchInRange_iff f) fun _ => finished_check Iff.rfl fun _ => rfl)

/-! ### READ_STATUS (R31) -/

/-- Settles O50: READ_STATUS reads the record, and with the clear option clears the counters in the same step. -/
theorem statusRead : Obligations.StatusRead := by
  unfold Obligations.StatusRead
  rintro n g gr s h rfl
  have hread (k : Byte) := exec_immediate h (c := .readStatus k) rfl
  have hclear (k : Byte) := exec_immediate h (c := .readStatusClear k) rfl
  refine ⟨fun hn => ⟨?_, ?_⟩, ?_, ?_⟩
  · rw [hread, withGroup_of_le hn, finished_error]
  · rw [hclear, withGroup_of_le hn, finished_error]
  · rw [hread, withGroup_groupByte]
    rfl
  · rw [hclear, withGroup_groupByte]
    rfl

/-! ### PEEK and POKE (R163, R164) -/

/-- Settles O53, by the checks of PEEK and POKE in their order. -/
theorem peekPokeTaken : Obligations.PeekPokeTaken := by
  unfold Obligations.PeekPokeTaken
  intro a d m s h
  have hlast : Config.lastWord = 4194303 := rfl
  refine ⟨congrArg Host.Outcome.next ?_, congrArg Host.Outcome.next ?_⟩
  · rw [command_ready h, peekBody, pendingCommand, State.startPeek, hlast]
    by_cases ha : 4194303 < a.toNat
    · rw [if_pos ha, if_pos ha]
      rfl
    · rw [if_neg ha, if_neg ha]
      rfl
  · have hw : (readied s s).wordInUse (wordField a) = true ↔ ∃ g ∈ s.wordGroup (wordField a), (s.group g).state ≠ .off := by
      unfold State.wordInUse
      change (match s.wordGroup (wordField a) with
        | some g => (s.group g).state != .off
        | none => false) = true ↔ _
      cases s.wordGroup (wordField a) <;> simp
    rw [command_ready h, pokeBody, pendingCommand, State.startPoke, hlast]
    by_cases ha : 4194303 < a.toNat
    · rw [if_pos ha, if_pos ha]
      rfl
    · rw [if_neg ha, if_neg ha]
      by_cases hu : ∃ g ∈ s.wordGroup (wordField a), (s.group g).state ≠ .off
      · rw [if_pos (hw.2 hu), if_pos hu]
        rfl
      · rw [if_neg (mt hw.1 hu), if_neg hu]
        rfl

/-! ### TIMEBASE_CONTROL (R68) -/

theorem readied_base (s : State) (b : Base) : (readied s s).base b = s.base b := by cases b <;> rfl

/-- R68: an action on the one base that the code names. -/
theorem controlBases_one {b : Base} {code : Byte} (hb : basesNamed code = some [b]) (s : State) (refuses : TimeBase → Bool)
    (f : TimeBase → TimeBase) :
    s.controlBases code refuses f = if refuses (s.base b) = true then .error .badState else
      .ok (Wire.split2Nat (f (s.base b)).count ++ Wire.split2 (f (s.base b)).periodIndex, s.setBase b (f (s.base b))) := by
  simp only [State.controlBases, hb, List.any_cons, List.any_nil, Bool.or_false, List.foldl_cons, List.foldl_nil, State.baseData,
    List.flatMap_cons, List.flatMap_nil, List.append_nil, setBase_base, if_true]

/-- Settles O34, base by base: each action's check, and its effect on the base it names. -/
theorem timebaseControl : Obligations.TimebaseControl := by
  unfold Obligations.TimebaseControl
  rintro b code t s h rfl hc
  have hcode : basesNamed code = some [b] := by
    rw [hc]
    cases b <;> rfl
  have hset (x : TimeBase) : (readied s s).setBase b x = readied s (s.setBase b x) := by cases b <;> rfl
  refine ⟨?_, ?_, ?_, ?_⟩
  · rw [exec_immediate h rfl, controlBases_one hcode, readied_base, hset]
    exact congrArg Host.Outcome.next (finished_check Iff.rfl fun _ => finished_ok _ _ _ _)
  · rw [exec_immediate h rfl, controlBases_one hcode, readied_base, hset]
    exact congrArg Host.Outcome.next (finished_check Iff.rfl fun _ => finished_ok _ _ _ _)
  · have hz : Wire.split2Nat 0 ++ Wire.split2 0 = [0#8, 0#8, 0#8, 0#8] := by decide
    rw [exec_immediate h rfl, controlBases_one hcode, readied_base, hset]
    exact congrArg Host.Outcome.next (finished_check Iff.rfl fun _ => (finished_ok _ _ _ _).trans (congrArg _ hz))
  · rw [exec_immediate h rfl]
    refine congrArg Host.Outcome.next (finished_check ?_ fun _ => ?_)
    · show (([Base.timeA, Base.timeB].any fun b => ((readied s s).base b).running) = true) ↔ _
      simp only [readied_base, List.any_cons, List.any_nil, Bool.or_false]
      exact Iff.rfl
    · refine Eq.trans ?_ (finished_ok s _ _ _)
      simp [State.baseData, State.base, TimeBase.start]
      rfl

end Sys2Proof.Machine

/-! PROOFS. Chapters 02, 03, 04 and 06: the commands addressed to a group, with the link free: GROUP_START (R33), GROUP_STOP (R35, R36),
SEAL (R53), RELEASE (R77 to R82), FORCE_FAULT and every trip source (R112 to R118), CLEAR_FAULT (R126). -/

namespace Sys2Proof.Machine

open Sys2Proof.Safety

/-! ### Operations of the groups beside the rest of the state -/

/-- The state `s` with the groups, the free list, the release queue and the event queue of `v`. -/
def graft (s v : State) : State :=
  { s with groups := v.groups, freeSlots := v.freeSlots, releaseQueue := v.releaseQueue, events := v.events }

theorem graft_self (s : State) : graft s s = s := rfl

theorem GroupsOnly.eq_graft {s t : State} (h : GroupsOnly s t) : t = graft s t := by
  obtain ⟨_, _, _, _, rfl⟩ := h
  rfl

theorem submit_graft {s v : State} (hA : v.baseA = s.baseA) (b : EventBody) : (graft s v).submit b = graft s (v.submit b) := by
  have he : (graft s v).eventEnabled b = v.eventEnabled b := rfl
  have hst : (graft s v).stamped b = v.stamped b := by
    unfold State.stamped
    rw [hA]
    rfl
  have hev : (graft s v).events = v.events := rfl
  unfold State.submit State.store
  rw [he, hst, hev]
  split
  · split <;> rfl
  · rfl

theorem tripSource_graft {s v : State} (hA : v.baseA = s.baseA) (hs : v.softResetting = s.softResetting) (g : Fin 8) (x : TripSource) :
    (graft s v).tripSource g x = graft s (v.tripSource g x) := by
  have hsoft : (graft s v).softResetting = v.softResetting := hs.symm
  have hg : (graft s v).group g = v.group g := rfl
  have hfirst : (graft s v).firstTrip g x = graft s (v.firstTrip g x) := by
    rw [firstTrip_eq, firstTrip_eq, ← submit_graft (by exact hA)]
    rfl
  unfold State.tripSource
  rw [hsoft, hg]
  split
  · rfl
  · split
    · rfl
    · exact hfirst
    · exact hfirst
    · rfl
    · rfl

/-- R171, R172: what a record leaves of the event queue depends on the queue, on A's reading and on the groups' event masks. -/
theorem submit_eq_of_congr {s t : State} (he : t.events = s.events) (hA : t.baseA = s.baseA)
    (hm : ∀ g, (t.group g).config.eventMask = (s.group g).config.eventMask) (b : EventBody) :
    t.submit b = { t with events := (s.submit b).events } := by
  have hen : t.eventEnabled b = s.eventEnabled b := by
    unfold State.eventEnabled
    cases b.group? with
    | none => rfl
    | some g => simp only [hm g]
  have hst : t.stamped b = s.stamped b := by simp only [State.stamped, hA, he]
  unfold State.submit State.store
  rw [hen, hst, he]
  split
  · split <;> rfl
  · rw [← he]

/-- The masks stay where one group's record changes without its mask. -/
theorem eventMask_set {s : State} {g : Fin 8} {x : Group} (hx : x.config.eventMask = (s.group g).config.eventMask) (h : Fin 8) :
    ((s.setGroup g x).group h).config.eventMask = (s.group h).config.eventMask := by
  rw [setGroup_group]
  split
  · rename_i e
    rw [hx, e]
  · rfl

/-- A record submitted after a change of one group's record. -/
theorem submit_setGroup {s : State} {g : Fin 8} {x : Group} (hx : x.config.eventMask = (s.group g).config.eventMask) (b : EventBody) :
    (s.setGroup g x).submit b = { s.setGroup g x with events := (s.submit b).events } :=
  submit_eq_of_congr (s := s) (t := s.setGroup g x) rfl rfl (eventMask_set hx) b

theorem readied_of_groupsOnly {s t v : State} (h : GroupsOnly t v) : readied s v = graft (readied s t) v := by
  obtain ⟨_, _, _, _, rfl⟩ := h
  rfl

theorem readied_submit (s t : State) (b : EventBody) : (readied s t).submit b = readied s (t.submit b) := by
  rw [readied_of_groupsOnly (submit_groupsOnly t b)]
  exact submit_graft (s := readied s t) (v := t) rfl b

theorem readied_tripSource {s t : State} (ht : t.link.pending = s.link.pending) (g : Fin 8) (x : TripSource) :
    (readied s t).tripSource g x = readied s (t.tripSource g x) := by
  have hsoft : t.softResetting = (readied s t).softResetting := by
    unfold State.softResetting
    rw [ht]
    rfl
  rw [readied_of_groupsOnly (tripSource_groupsOnly t g x)]
  exact tripSource_graft (s := readied s t) (v := t) rfl hsoft g x

/-! ### GROUP_START (R33) -/

theorem any_toList_iff {α : Type} {n : Nat} (v : Vector α n) (p : α → Bool) : v.toList.any p = true ↔ ∃ i : Fin n, p v[i] = true := by
  rw [List.any_eq_true]
  constructor
  · rintro ⟨x, hx, hp⟩
    obtain ⟨i, hi, rfl⟩ := List.getElem_of_mem hx
    exact ⟨⟨i, by simpa using hi⟩, by simpa using hp⟩
  · rintro ⟨i, hp⟩
    exact ⟨v[i], Vector.mem_toList_iff.2 (Vector.getElem_mem _), hp⟩

/-- R33: a TIMED group's phase against its base's periods. -/
theorem phaseTooHigh_iff (s : State) (c : GroupConfig) :
    s.phaseTooHigh c = true ↔
      c.trigger = .timed ∧ ((s.base c.base).period ≤ c.phase ∨ ∃ p ∈ (s.base c.base).pendingPeriod, p ≤ c.phase) := by
  unfold State.phaseTooHigh
  cases (s.base c.base).pendingPeriod <;> simp

/-- R33: a seal word outside its enabled window. -/
theorem sealOutside_iff (w : Window) (g : Fin 8) :
    w.sealOutside g = true ↔ w.enabled = true ∧ w.group = g ∧ ∃ o ∈ w.sealOffset, w.length.toNat ≤ o.toNat := by
  unfold Window.sealOutside
  cases w.sealOffset <;> simp [and_assoc]

/-- Settles O46, by R33's checks in their order. -/
theorem groupStarted : Obligations.GroupStarted := by
  unfold Obligations.GroupStarted
  rintro g gr s h rfl
  rw [exec_immediate h (c := .groupStart (groupByte g)) rfl, withGroup_groupByte, State.startGroup]
  refine congrArg Host.Outcome.next (finished_check Iff.rfl fun _ => finished_check Iff.rfl fun _ => finished_check ?_ fun _ =>
    finished_check ?_ fun _ => finished_check ?_ fun _ => rfl)
  · rw [phaseTooHigh_iff, readied_base]
    exact Iff.rfl
  · simp only [any_toList_iff, sealOutside_iff]
    exact Iff.rfl
  · simp only [State.enabledLineActive, Bool.or_eq_true, Bool.and_eq_true]
    exact Iff.rfl

/-! ### GROUP_STOP (R35, R36) -/

/-- R35: a group goes to OFF, and GROUP_STOPPED is submitted. -/
theorem stopNow_eq (s : State) (g : Fin 8) (o : StopOption) :
    s.stopNow g o = { s with
      groups := s.groups.set g { s.group g with state := .off, stopOption := o }
      events := (s.submit (.groupStopped g o)).events } :=
  submit_setGroup (g := g) (x := { s.group g with state := .off, stopOption := o }) rfl _

theorem readied_stopNow (s t : State) (g : Fin 8) (o : StopOption) : (readied s t).stopNow g o = readied s (t.stopNow g o) :=
  readied_submit s (t.setGroup g { t.group g with state := .off, stopOption := o }) (.groupStopped g o)

/-- R60: what a discard leaves in Safety's words. -/
theorem discard_eq (gr : Group) : gr.discard = withoutBatches gr := rfl

theorem discardBatches_eq (s : State) (g : Fin 8) :
    s.discardBatches g = { s with
      groups := s.groups.set g (withoutBatches (s.group g))
      freeSlots := s.freeSlots + discarded (s.group g)
      releaseQueue := queueWithout s g } := by
  have hq : s.releaseQueue.filter (fun it => !it.isBatchOf g) = queueWithout s g :=
    List.filter_congr fun it _ => by cases it <;> rfl
  unfold State.discardBatches
  rw [hq]
  rfl

/-- R35: DISCARD of an ACTIVE or STOPPING group. -/
theorem stopDiscard_eq (s : State) (g : Fin 8) :
    s.stopDiscard g =
      if (s.group g).draining then { s with
        groups := s.groups.set g { withoutBatches (s.group g) with state := .stopping, stopOption := .discard }
        freeSlots := s.freeSlots + discarded (s.group g)
        releaseQueue := queueWithout s g }
      else { s with
        groups := s.groups.set g { withoutBatches (s.group g) with state := .off, stopOption := .discard }
        freeSlots := s.freeSlots + discarded (s.group g)
        releaseQueue := queueWithout s g
        events := (s.submit (.groupStopped g .discard)).events } := by
  have hgr : (s.discardBatches g).group g = withoutBatches (s.group g) := by rw [discardBatches_group, if_pos rfl, discard_eq]
  have hset (x : Group) : (s.discardBatches g).setGroup g x = { s with
      groups := s.groups.set g x
      freeSlots := s.freeSlots + discarded (s.group g)
      releaseQueue := queueWithout s g } := by
    rw [discardBatches_eq]
    simp [State.setGroup]
  have hd : (withoutBatches (s.group g)).draining = (s.group g).draining := discard_draining _
  unfold State.stopDiscard
  dsimp only
  rw [hgr, hd]
  split
  · rw [hset]
  · unfold State.stopNow
    rw [hgr, hset]
    refine submit_eq_of_congr (s := s) ?_ ?_ (fun k => ?_) _
    · rfl
    · rfl
    · exact eventMask_set (s := s) (g := g) (x := { withoutBatches (s.group g) with state := .off, stopOption := .discard }) rfl k

theorem readied_stopDiscard (s : State) (g : Fin 8) : (readied s s).stopDiscard g = readied s (s.stopDiscard g) := by
  have hset (x : Group) : ((readied s s).discardBatches g).setGroup g x = readied s ((s.discardBatches g).setGroup g x) := rfl
  have hgr : ((readied s s).discardBatches g).group g = (s.discardBatches g).group g := rfl
  unfold State.stopDiscard State.stopNow
  dsimp only
  rw [hgr, hset, hset, readied_submit]
  split <;> rfl

theorem exec_groupStopDiscard {s : State} (h : LinkReady s) (g : Fin 8) :
    exec (.groupStopDiscard (groupByte g)) s = .next (finished 0x21#8 (readied s s) ((readied s s).groupStopDiscard g)) := by
  rw [exec_immediate h (c := .groupStopDiscard (groupByte g)) rfl, withGroup_groupByte]

theorem exec_groupStopFlush {s : State} (h : LinkReady s) (g : Fin 8) :
    exec (.groupStopFlush (groupByte g)) s = .next (finished 0x21#8 (readied s s) ((readied s s).groupStopFlush g)) := by
  rw [exec_immediate h (c := .groupStopFlush (groupByte g)) rfl, withGroup_groupByte]

/-- R36: FLUSH of an ACTIVE group. -/
theorem stopFlush_eq (s : State) (g : Fin 8) (o : Batch) (ho : (s.group g).opened = some o) :
    s.stopFlush g = match (s.group g).other with
      | none => { s with
          groups := s.groups.set g { s.group g with
            state := .stopping, stopOption := .flush, opened := none, other := some (sealedBatch o .flush true) }
          releaseQueue := s.releaseQueue ++ [.batch g o.seq] }
      | some b =>
        if b.state = .closed then { s with
          groups := s.groups.set g { s.group g with
            state := .stopping, stopOption := .flush, sealPending := true, other := some { b with state := .queued } }
          releaseQueue := s.releaseQueue ++ [.batch g b.seq] }
        else { s with groups := s.groups.set g { s.group g with state := .stopping, stopOption := .flush, sealPending := true } } := by
  rcases stopFlush_cases s g with ⟨hn, e⟩ | ⟨b, hb, hbc, e⟩ | ⟨b, hb, hbc, e⟩ <;> rw [e]
  · rw [hn, sealOpen_of_stopping .flush (b := o) (by simp) (by simpa using ho)]
    simp only [setGroup_group, if_true, setGroup_setGroup, setGroup_releaseQueue]
    rfl
  · rw [hb, queueOther_of_some _ g b (by simpa using hb)]
    simp only [setGroup_group, if_true, setGroup_setGroup, setGroup_releaseQueue, hbc]
    rfl
  · rw [hb]
    simp only [hbc, if_false]
    rfl

theorem readied_queueOther (s t : State) (g : Fin 8) : (readied s t).queueOther g = readied s (t.queueOther g) := by
  have hg : (readied s t).group g = t.group g := rfl
  unfold State.queueOther
  rw [hg]
  split <;> rfl

theorem readied_sealOpen (s t : State) (g : Fin 8) (c : SealCause) : (readied s t).sealOpen g c = readied s (t.sealOpen g c) := by
  have hg : (readied s t).group g = t.group g := rfl
  have hset (x : Group) : (readied s t).setGroup g x = readied s (t.setGroup g x) := rfl
  unfold State.sealOpen
  simp only [hg, hset, readied_queueOther]
  split
  · rfl
  · split
    · split <;> rfl
    · rfl

theorem readied_stopFlush (s t : State) (g : Fin 8) : (readied s t).stopFlush g = readied s (t.stopFlush g) := by
  have hg (u : State) : (readied s u).group g = u.group g := rfl
  have hset (u : State) (x : Group) : (readied s u).setGroup g x = readied s (u.setGroup g x) := rfl
  unfold State.stopFlush
  simp only [hg, hset, readied_sealOpen, readied_queueOther]
  split
  · rfl
  · split <;> rfl

/-- Settles O47, by the group's state, and for a FLUSH of an ACTIVE group by its other batch. -/
theorem groupStopped : Obligations.GroupStopped := by
  unfold Obligations.GroupStopped
  refine ⟨?_, ?_⟩
  · rintro g gr s h rfl
    have hst : ((readied s s).group g).state = (s.group g).state := rfl
    have hcode (x : Group) : ({ s with groups := s.groups.set g x } : State).group g = x := setGroup_group s g g x |>.trans (if_pos rfl)
    rw [exec_groupStopDiscard h, State.groupStopDiscard, hst]
    refine congrArg Host.Outcome.next ?_
    have hrun : finished 0x21#8 (readied s s) (.ok ([((s.stopDiscard g).group g).state.code], readied s (s.stopDiscard g))) =
        if (s.group g).draining then taken s { s with
          groups := s.groups.set g { withoutBatches (s.group g) with state := .stopping, stopOption := .discard }
          freeSlots := s.freeSlots + discarded (s.group g)
          releaseQueue := queueWithout s g } 0x21#8 [2#8]
        else taken s { s with
          groups := s.groups.set g { withoutBatches (s.group g) with state := .off, stopOption := .discard }
          freeSlots := s.freeSlots + discarded (s.group g)
          releaseQueue := queueWithout s g
          events := (s.submit (.groupStopped g .discard)).events } 0x21#8 [0#8] := by
      rw [finished_ok, stopDiscard_eq]
      split
      · exact congrArg (fun x : Group => taken s _ 0x21#8 [x.state.code]) (hcode _)
      · exact congrArg (fun x : Group => taken s _ 0x21#8 [x.state.code]) (hcode _)
    cases hs : (s.group g).state with
    | off => rfl
    | safing => rfl
    | faulted =>
      dsimp only
      rw [readied_stopNow, finished_ok, stopNow_eq]
      rfl
    | active =>
      dsimp only
      rw [readied_stopDiscard]
      exact hrun
    | stopping =>
      dsimp only
      rw [readied_stopDiscard]
      exact hrun
  · rintro g gr o s h rfl
    have hst : ((readied s s).group g).state = (s.group g).state := rfl
    rw [exec_groupStopFlush h, State.groupStopFlush, hst]
    refine ⟨fun hs => ?_, fun hs => ?_, fun hs => ?_, fun hs => ?_, fun hs ho => ?_⟩ <;> rw [hs]
    · rfl
    · rfl
    · rfl
    · dsimp only
      rw [readied_stopNow, finished_ok, stopNow_eq]
      rfl
    · dsimp only
      rw [readied_stopFlush, finished_ok, stopFlush_eq s g o ho]
      split
      · rename_i hn
        simp only [hn]
        rfl
      · rename_i b hb
        simp only [hb]
        split <;> rfl

/-! ### SEAL (R53, R58) -/

theorem exec_sealBatch {s : State} (h : LinkReady s) (g : Fin 8) :
    exec (.sealBatch (groupByte g)) s = .next (finished 0x22#8 (readied s s) ((readied s s).sealGroup g)) := by
  rw [exec_immediate h (c := .sealBatch (groupByte g)) rfl, withGroup_groupByte]

/-- R58: the command by what its seal request did. -/
theorem sealGroup_of_request {s t : State} {g : Fin 8} {e : SealEffect} {data : List Byte}
    (hr : s.sealRequest g .command = (t, e)) (hd : s.sealData e = some data) : s.sealGroup g = .ok (data, t) := by
  unfold State.sealGroup
  simp only [hr, hd]

theorem sealGroup_of_badState {s : State} {g : Fin 8} (hr : s.sealRequest g .command = (s, .badState)) : s.sealGroup g = .error .badState := by
  unfold State.sealGroup
  simp only [hr, State.sealData]

/-- R53: where no seal request is in place. -/
theorem sealRequest_badState {s : State} {g : Fin 8} (c : SealCause)
    (h : (s.group g).state = .off ∨ (s.group g).state = .safing ∨ (s.group g).state = .faulted ∨
      ((s.group g).state = .stopping ∧ (s.group g).sealPending = false)) : s.sealRequest g c = (s, .badState) := by
  rcases sealRequest_cases s g c with ⟨b, hs, -⟩ | ⟨b, hs, -⟩ | ⟨b, hs, -, hp, -⟩ | ⟨e, -⟩
  · simp [hs] at h
  · simp [hs] at h
  · rcases hs with ⟨hs, -⟩ | hs <;> simp [hs, hp] at h
  · exact e

/-- R53: with an OPEN batch, a request finds one of three situations. -/
theorem sealRequest_of_open {s : State} {g : Fin 8} {o : Batch} (c : SealCause) (ho : (s.group g).opened = some o) :
    ((s.group g).state = .active → (s.group g).other = none → s.sealRequest g c = (s.sealOpen g c, .closed o.seq)) ∧
    ((s.group g).state = .active → (s.group g).other ≠ none → (s.group g).sealPending = false →
      s.sealRequest g c = (s.setGroup g { s.group g with sealPending := true }, .pendingSet o.seq)) ∧
    ((s.group g).state = .active ∧ (s.group g).other ≠ none ∨ (s.group g).state = .stopping → (s.group g).sealPending = true →
      s.sealRequest g c = (s, .alreadyPending o.seq)) := by
  unfold State.sealRequest
  dsimp only
  refine ⟨fun hs hn => ?_, fun hs hn hp => ?_, fun hs hp => ?_⟩
  · simp [hs, ho, hn]
  · simp [hs, ho, hp, Option.isNone_iff_eq_none, hn]
  · rcases hs with ⟨hs, hn⟩ | hs
    · simp [hs, ho, hp, Option.isNone_iff_eq_none, hn]
    · simp [hs, ho, hp]

/-- Settles O48, by the cases of the seal request. -/
theorem sealCommand : Obligations.SealCommand := by
  unfold Obligations.SealCommand
  rintro g gr o s h rfl
  rw [exec_sealBatch h]
  refine ⟨fun hs => ?_, fun ho => ⟨fun hs hp => ?_, fun hs hn => ?_, fun b hb hs => ?_⟩⟩
  · rw [sealGroup_of_badState (s := readied s s) (sealRequest_badState .command hs), finished_error]
  · rw [sealGroup_of_request ((sealRequest_of_open (s := readied s s) .command ho).2.2 (.inr hs) hp) rfl]
    rfl
  · rw [sealGroup_of_request ((sealRequest_of_open (s := readied s s) .command ho).1 hs hn) rfl, readied_sealOpen, finished_ok,
      sealOpen_of_active .command hs ho]
    simp only [List.append_assoc]
    rfl
  · have hn : (s.group g).other ≠ none := by simp [hb]
    split
    · rename_i hp
      rw [sealGroup_of_request ((sealRequest_of_open (s := readied s s) .command ho).2.2 (.inl ⟨hs, hn⟩) hp) rfl]
      rfl
    · rename_i hp
      rw [sealGroup_of_request ((sealRequest_of_open (s := readied s s) .command ho).2.1 hs hn (Bool.eq_false_iff.2 hp)) rfl]
      rfl

/-! ### RELEASE (R77 to R82) -/

theorem exec_release {s : State} (h : LinkReady s) (g : Fin 8) :
    exec (.release (groupByte g)) s = .next (finished 0x23#8 (readied s s) ((readied s s).releaseGroup g)) := by
  rw [exec_immediate h (c := .release (groupByte g)) rfl, withGroup_groupByte]

theorem releaseGroup_of_point {s t : State} {g : Fin 8} {o : ReleaseOutcome} {data : List Byte} (hr : s.releasePoint g = (t, o))
    (hd : o.data = some data) : s.releaseGroup g = .ok (data, t) := by
  unfold State.releaseGroup
  simp only [hr, hd]

theorem softResetting_readied {s : State} (h : LinkReady s) : (readied s s).softResetting = false := by
  have hp : (readied s s).link.pending = none := h.2
  simp [State.softResetting, hp]

/-- R125: a clearing. -/
theorem clearGroup_eq (s : State) (g : Fin 8) (c : ClearCause) (f : Bool) :
    s.clearGroup g c f = { s with
      groups := s.groups.set g (Safety.cleared (s.group g))
      events := (s.submit (.faultCleared g (s.group g).nextSeq c f)).events } :=
  submit_setGroup (g := g) (x := Safety.cleared (s.group g)) rfl _

theorem readied_clearGroup (s t : State) (g : Fin 8) (c : ClearCause) (f : Bool) :
    (readied s t).clearGroup g c f = readied s (t.clearGroup g c f) :=
  readied_submit s (t.setGroup g _) (.faultCleared g (t.group g).nextSeq c f)

/-- R127: whether a release point clears the group. -/
theorem autoClears_iff (s : State) (g : Fin 8) :
    s.autoClears g = true ↔ (s.group g).config.clearMode = .auto ∧ s.activeSource g = false ∧ (s.group g).safeIncomplete = false := by
  simp [State.autoClears, and_assoc]

/-- R79: a miss of a group with an OPEN batch, before its MISS_LIMIT trip. -/
def missMade (s : State) (g : Fin 8) (o : Batch) : State :=
  State.submit { s with
    groups := s.groups.set g { s.group g with
      misses := min ((s.group g).misses + 1) 65535, consecutive := min ((s.group g).consecutive + 1) 15 } }
    (.releaseMissed g o.seq (min ((s.group g).consecutive + 1) 15))

theorem miss_eq {s : State} {g : Fin 8} {o : Batch} (ho : (s.group g).opened = some o) :
    s.miss g = (if (s.group g).config.missLimit ≠ 0 ∧ min ((s.group g).consecutive + 1) 15 = (s.group g).config.missLimit then
        (missMade s g o).tripSource g (.missLimit (min ((s.group g).consecutive + 1) 15)) else missMade s g o,
      .missed o.seq (min ((s.group g).consecutive + 1) 15)) := by
  have hseq : ((s.group g).opened.map (·.seq)).getD 0 = o.seq := by rw [ho]; rfl
  unfold State.miss
  dsimp only
  rw [hseq]
  rfl

theorem readied_miss (s : State) (g : Fin 8) {o : Batch} (ho : (s.group g).opened = some o) :
    (readied s s).miss g =
      (readied s (if (s.group g).config.missLimit ≠ 0 ∧ min ((s.group g).consecutive + 1) 15 = (s.group g).config.missLimit then
        (missMade s g o).tripSource g (.missLimit (min ((s.group g).consecutive + 1) 15)) else missMade s g o),
      .missed o.seq (min ((s.group g).consecutive + 1) 15)) := by
  have hm : missMade (readied s s) g o = readied s (missMade s g o) := by
    unfold missMade
    rw [← readied_submit]
    rfl
  have hl : (missMade s g o).link.pending = s.link.pending := by simp [missMade]
  have hg : (readied s s).group g = s.group g := rfl
  rw [miss_eq (s := readied s s) ho, hm, readied_tripSource hl, hg]
  congr 1
  split <;> rfl

/-- Settles O49, by the group's state and its other batch. -/
theorem releaseCommand : Obligations.ReleaseCommand := by
  unfold Obligations.ReleaseCommand
  rintro g gr o n s s' h rfl rfl rfl
  have hsoft := softResetting_readied h
  have hg : (readied s s).group g = s.group g := rfl
  rw [exec_release h]
  refine ⟨fun hs => ?_, fun hs ho hn => ?_, fun b hb hs => ⟨fun hbc => ?_, fun hbc => ?_⟩, fun hs hc ha hi => ?_, fun hs hno => ?_⟩
  · have hp : (readied s s).releasePoint g = (readied s s, .ignored) := by
      unfold State.releasePoint
      rcases hs with hs | hs | hs <;> simp [hsoft, hg, hs]
    unfold State.releaseGroup
    rw [hp]
    rfl
  · have hp : (readied s s).releasePoint g = (readied s s).miss g := by
      unfold State.releasePoint
      simp [hsoft, hg, hs, hn]
    rw [releaseGroup_of_point (hp.trans (readied_miss s g ho)) rfl, finished_ok]
    rfl
  · have hp : (readied s s).releasePoint g = (readied s s).queueSealed g b := by
      unfold State.releasePoint
      simp [hsoft, hg, hs, hb, hbc]
    rw [releaseGroup_of_point (hp.trans rfl) rfl, queueOther_of_some _ g b ((setGroup_group _ g g _).trans (if_pos rfl) ▸ hb)]
    simp only [setGroup_group, if_true, setGroup_setGroup, setGroup_releaseQueue]
    rfl
  · have hp : (readied s s).releasePoint g = (readied s s).overrun g b := by
      unfold State.releasePoint
      simp [hsoft, hg, hs, hb, hbc]
    have ho : (readied s s).overrun g b =
        (readied s ((s.setGroup g { s.group g with overruns := bump (s.group g).overruns }).submit
          (.releaseOverrun g b.seq b.state (bump (s.group g).overruns))), .overrun b.seq b.state) := by
      rw [← readied_submit]
      rfl
    rw [releaseGroup_of_point (hp.trans ho) rfl, finished_ok,
      submit_setGroup (x := { s.group g with overruns := bump (s.group g).overruns }) rfl]
    rfl
  · have hp : (readied s s).releasePoint g = (readied s (s.clearGroup g .auto false), .cleared) := by
      have hcl : (readied s s).autoClears g = true := (autoClears_iff _ g).2 ⟨hc, ha, hi⟩
      rw [← readied_clearGroup]
      unfold State.releasePoint
      simp [hsoft, hg, hs, hcl]
    rw [releaseGroup_of_point hp rfl, finished_ok, clearGroup_eq]
  · have hp : (readied s s).releasePoint g = (readied s s, .notCleared) := by
      have hcl : ¬ (readied s s).autoClears g = true := by
        rw [autoClears_iff]
        rintro ⟨hc, ha, hi⟩
        rcases hno with h | h | h
        · rw [hg, h] at hc; cases hc
        · exact absurd (h.symm.trans ha) (by simp)
        · exact absurd (h.symm.trans hi) (by simp)
      unfold State.releasePoint
      simp [hsoft, hg, hs, hcl]
    rw [releaseGroup_of_point hp rfl]
    rfl

/-! ### FORCE_FAULT and every trip source (R112 to R118) -/

theorem safeFirst_of_queueOk {s : State} (h : QueueOk s) : SafeFirst s.releaseQueue := (safeFirst_iff _).2 h.2.1

/-- R114 to R117: the first trip in Safety's words. -/
theorem firstTrip_eq_tripped {s : State} (h : QueueOk s) (g : Fin 8) (x : TripSource) :
    s.firstTrip g x = { s with
      groups := s.groups.set g (tripped (s.group g) x)
      freeSlots := s.freeSlots + discarded (s.group g)
      releaseQueue := queueWithSafe (queueWithout s g) g
      events := (s.submit (.faultTripped g x.cause x.detail)).events } := by
  have hq : joinSafe (queueWithout s g) g = queueWithSafe (queueWithout s g) g :=
    ((safeFirst_of_queueOk h).sublist List.filter_sublist).joinSafe_eq g
  have hset : ((s.discardBatches g).setGroup g ((s.group g).firstTrip x)).setReleaseQueue (joinSafe (s.discardBatches g).releaseQueue g) =
      { s with
        groups := s.groups.set g (tripped (s.group g) x)
        freeSlots := s.freeSlots + discarded (s.group g)
        releaseQueue := queueWithSafe (queueWithout s g) g } := by
    rw [discardBatches_eq]
    simp only [State.setGroup, State.setReleaseQueue, Vector.set_set, hq]
    rfl
  rw [firstTrip_eq, hset]
  refine submit_eq_of_congr (s := s) ?_ ?_ (fun k => ?_) _
  · rfl
  · rfl
  · exact eventMask_set (s := s) (g := g) (x := tripped (s.group g) x) rfl k

/-- R112, R38: a trip source by the group's state. -/
theorem tripSource_eq {s : State} (h : QueueOk s) (g : Fin 8) (x : TripSource) :
    (s.link.pending = some .softReset ∨ (s.group g).state = .off → s.tripSource g x = s) ∧
    (s.link.pending ≠ some .softReset → (s.group g).state = .active ∨ (s.group g).state = .stopping →
      s.tripSource g x = { s with
        groups := s.groups.set g (tripped (s.group g) x)
        freeSlots := s.freeSlots + discarded (s.group g)
        releaseQueue := queueWithSafe (queueWithout s g) g
        events := (s.submit (.faultTripped g x.cause x.detail)).events }) ∧
    (s.link.pending ≠ some .softReset → (s.group g).state = .safing ∨ (s.group g).state = .faulted →
      s.tripSource g x = { s with
        groups := s.groups.set g { s.group g with
          causes := (s.group g).causes ||| x.cause.bit, trips := min ((s.group g).trips + 1) 65535 } }) := by
  have hsoft : s.softResetting = true ↔ s.link.pending = some .softReset := softResetting_iff s
  refine ⟨fun hs => ?_, fun hp hs => ?_, fun hp hs => ?_⟩ <;>
    rcases tripSource_cases s g x with ⟨hc, e⟩ | ⟨hn, hc, e⟩ | ⟨hn, hc, e⟩ <;> rw [e]
  · rcases hs with hs | hs
    · exact absurd (hn.symm.trans (hsoft.2 hs)) (by simp)
    · simp [hs] at hc
  · rcases hs with hs | hs
    · exact absurd (hn.symm.trans (hsoft.2 hs)) (by simp)
    · simp [hs] at hc
  · rcases hc with hc | hc
    · exact absurd (hsoft.1 hc) hp
    · simp [hc] at hs
  · exact firstTrip_eq_tripped h g x
  · rcases hs with hs | hs <;> simp [hs] at hc
  · rcases hc with hc | hc
    · exact absurd (hsoft.1 hc) hp
    · simp [hc] at hs
  · rcases hs with hs | hs <;> simp [hs] at hc
  · rfl

/-- Settles O51: FORCE_FAULT goes through the trip source's operation, by the state of the group. -/
theorem tripTaken : Obligations.TripTaken := by
  unfold Obligations.TripTaken
  refine ⟨?_, ?_⟩
  · rintro g gr s h rfl hq
    have hp : s.link.pending ≠ some .softReset := by rw [h.2]; simp
    obtain ⟨-, hfirst, hsecond⟩ := tripSource_eq hq g .forced
    rw [exec_immediate h (c := .forceFault (groupByte g)) rfl, withGroup_groupByte]
    have hst : ((readied s s).group g).state = (s.group g).state := rfl
    have htaken {data : List Byte} (e : (readied s s).forceFault g = .ok (data, (readied s s).tripSource g .forced)) :
        finished 0x30#8 (readied s s) ((readied s s).forceFault g) = taken s (s.tripSource g .forced) 0x30#8 data := by
      rw [e, readied_tripSource rfl, finished_ok]
    refine ⟨fun hs => ?_, fun hs => ?_, fun hs => ?_⟩
    · have e : (readied s s).forceFault g = .error .badState := by simp only [State.forceFault, hst, hs]
      rw [e, finished_error]
    · have e : (readied s s).forceFault g = .ok ([1#8], (readied s s).tripSource g .forced) := by
        rcases hs with hs | hs <;> simp only [State.forceFault, hst, hs]
      rw [htaken e, hfirst hp hs]
      rfl
    · have e : (readied s s).forceFault g = .ok ([2#8], (readied s s).tripSource g .forced) := by
        rcases hs with hs | hs <;> simp only [State.forceFault, hst, hs]
      rw [htaken e, hsecond hp hs]
      rfl
  · rintro g x gr s rfl hq
    exact tripSource_eq hq g x

/-! ### CLEAR_FAULT (R126) -/

/-- Settles O52, by R126's checks in their order. -/
theorem clearFault : Obligations.ClearFault := by
  unfold Obligations.ClearFault
  rintro n g force gr s h rfl
  have hexec (k : Byte) := exec_immediate h (c := .clearFault k force) rfl
  refine ⟨fun hn => by rw [hexec, withGroup_of_le hn, finished_error], ?_⟩
  rw [hexec, withGroup_groupByte]
  refine congrArg Host.Outcome.next (finished_check Iff.rfl fun hforce => ?_)
  have hst : ((readied s s).group g).state = (s.group g).state := rfl
  rw [State.clearFault, hst]
  cases hs : (s.group g).state with
  | off => rfl
  | active => rfl
  | stopping => rfl
  | safing => rfl
  | faulted =>
    rw [if_neg (by simp), if_neg (by simp)]
    refine finished_check Iff.rfl fun _ => finished_check ?_ fun hinc => ?_
    · have hb : (force == 1#8) = false ↔ force = 0#8 := by
        rw [beq_eq_false_iff_ne]
        exact ⟨fun h => by bv_omega, fun h => by bv_omega⟩
      rw [Bool.and_eq_true, Bool.not_eq_true', hb]
      exact Iff.rfl
    · rw [readied_clearGroup, finished_ok, clearGroup_eq]
      have hfi : ((force == 1#8) && ((readied s s).group g).safeIncomplete) = (s.group g).safeIncomplete := by
        change ((force == 1#8) && (s.group g).safeIncomplete) = _
        cases hi : (s.group g).safeIncomplete with
        | false => simp
        | true =>
          have : force ≠ 0#8 := fun e => hinc ⟨hi, e⟩
          have : force = 1#8 := by bv_omega
          simp [this]
      rw [hfi]
      rfl

end Sys2Proof.Machine

/-! PROOFS. Chapters 08 and 11: the wire. Bytes and multi-byte values come back from the bits and bytes that carry them (R148, R185),
so each record and each command decodes to what was encoded (R155, R187). -/

namespace Sys2Proof.Machine

open Sys2Proof.Safety Wire

/-! ### Bytes and multi-byte values -/

theorem byteOfBits_getLsbD (b : Byte) :
    byteOfBits (b.getLsbD 7) (b.getLsbD 6) (b.getLsbD 5) (b.getLsbD 4) (b.getLsbD 3) (b.getLsbD 2) (b.getLsbD 1) (b.getLsbD 0) = b := by
  revert b
  decide +kernel

/-- R148: the bytes sampled from a run of whole bytes and fewer than eight further bits. -/
theorem bytesOfBits_bitsOfBytes (bs : List Byte) (tail : List Bool) (h : tail.length < 8) :
    bytesOfBits (bitsOfBytes bs ++ tail) = bs := by
  induction bs with
  | nil =>
    show bytesOfBits tail = []
    unfold bytesOfBits
    split
    · simp at h
      omega
    · rfl
  | cons b bs ih =>
    show byteOfBits _ _ _ _ _ _ _ _ :: bytesOfBits (bitsOfBytes bs ++ tail) = b :: bs
    rw [byteOfBits_getLsbD, ih]

theorem bytesOfBits_of_short {mdi : List Bool} (h : mdi.length < 8) : bytesOfBits mdi = [] := bytesOfBits_bitsOfBytes [] mdi h

@[simp] theorem join2_split2 (v : BitVec 16) : join2 (v.extractLsb' 8 8) (v.extractLsb' 0 8) = v := by
  unfold join2
  rw [BitVec.extractLsb'_append_extractLsb'_eq_extractLsb' (by rfl)]
  simp

@[simp] theorem join3_split3 (v : Addr24) : join3 (v.extractLsb' 16 8) (v.extractLsb' 8 8) (v.extractLsb' 0 8) = v := by
  unfold join3
  rw [BitVec.extractLsb'_append_extractLsb'_eq_extractLsb' (by rfl), BitVec.extractLsb'_append_extractLsb'_eq_extractLsb' (by rfl)]
  simp

@[simp] theorem join4_split4 (v : Word) :
    join4 (v.extractLsb' 24 8) (v.extractLsb' 16 8) (v.extractLsb' 8 8) (v.extractLsb' 0 8) = v := by
  unfold join4
  rw [BitVec.extractLsb'_append_extractLsb'_eq_extractLsb' (by rfl), BitVec.extractLsb'_append_extractLsb'_eq_extractLsb' (by rfl),
    BitVec.extractLsb'_append_extractLsb'_eq_extractLsb' (by rfl)]
  simp

@[simp] theorem extract_setWidth_mask (m : BitVec 4) : (m.setWidth 8).extractLsb' 0 4 = m := by
  revert m
  decide

/-- R185: the flags come back from their byte. -/
theorem flagByte_bits (b0 b1 b2 b3 b4 b5 b6 : Bool) :
    (flagByte b0 b1 b2 b3 b4 b5 b6).getLsbD 0 = b0 ∧ (flagByte b0 b1 b2 b3 b4 b5 b6).getLsbD 1 = b1 ∧
      (flagByte b0 b1 b2 b3 b4 b5 b6).getLsbD 2 = b2 ∧ (flagByte b0 b1 b2 b3 b4 b5 b6).getLsbD 3 = b3 ∧
      (flagByte b0 b1 b2 b3 b4 b5 b6).getLsbD 4 = b4 ∧ (flagByte b0 b1 b2 b3 b4 b5 b6).getLsbD 5 = b5 ∧
      (flagByte b0 b1 b2 b3 b4 b5 b6).getLsbD 6 = b6 := by
  revert b0 b1 b2 b3 b4 b5 b6
  decide

/-! ### Records -/

@[simp] theorem readWindow_writeWindow (f : WindowFields) : readWindow (writeWindow f) = some f := by
  simp only [writeWindow, split3, split2, List.cons_append, List.nil_append, readWindow, flagByte_bits, join3_split3, join2_split2,
    extract_setWidth_mask]

@[simp] theorem readGroup_writeGroup (f : GroupFields) : readGroup (writeGroup f) = some f := by
  simp only [writeGroup, split2, List.cons_append, List.nil_append, readGroup, flagByte_bits, join2_split2]

@[simp] theorem readSafe_writeSafe (f : SafeFields) : readSafe (writeSafe f) = some f := by
  simp only [writeSafe, split3, split4, List.cons_append, List.nil_append, readSafe, flagByte_bits, join3_split3, join4_split4,
    extract_setWidth_mask]

@[simp] theorem readWatch_writeWatch (f : WatchFields) : readWatch (writeWatch f) = some f := by
  simp only [writeWatch, split3, split4, List.cons_append, List.nil_append, readWatch, flagByte_bits, join3_split3, join4_split4]

@[simp] theorem readTimebase_writeTimebase (f : TimebaseFields) : readTimebase (writeTimebase f) = some f := by
  simp only [writeTimebase, split2, List.cons_append, List.nil_append, readTimebase, flagByte_bits, join2_split2]

@[simp] theorem readLines_writeLines (f : LinesFields) : readLines (writeLines f) = some f := rfl

/-! ### Commands -/

/-- 11.4: a command decodes from its encoding, but for a READ_TABLE of a kind that names no table. -/
theorem decodeCommand_encodeCommand {c : Instr} {code : Byte} {fields : List Byte} (h : encodeCommand c = some (code, fields))
    (hk : ∀ k i, c = .readTable k i → tableSize k ≠ none) : decodeCommand code fields = .ok c := by
  cases c with
  | readTable k i =>
    obtain ⟨rfl, rfl⟩ := Prod.mk.inj (Option.some.inj h)
    exact if_neg (hk k i rfl)
  | writeTableWindow i f =>
    obtain ⟨rfl, rfl⟩ := Prod.mk.inj (Option.some.inj h)
    show recordOr (readWindow (writeWindow f)) _ = _
    rw [readWindow_writeWindow]
    rfl
  | writeTableGroup i f =>
    obtain ⟨rfl, rfl⟩ := Prod.mk.inj (Option.some.inj h)
    show recordOr (readGroup (writeGroup f)) _ = _
    rw [readGroup_writeGroup]
    rfl
  | writeTableSafe i f =>
    obtain ⟨rfl, rfl⟩ := Prod.mk.inj (Option.some.inj h)
    show recordOr (readSafe (writeSafe f)) _ = _
    rw [readSafe_writeSafe]
    rfl
  | writeTableWatch i f =>
    obtain ⟨rfl, rfl⟩ := Prod.mk.inj (Option.some.inj h)
    show recordOr (readWatch (writeWatch f)) _ = _
    rw [readWatch_writeWatch]
    rfl
  | writeTableTimebase i f =>
    obtain ⟨rfl, rfl⟩ := Prod.mk.inj (Option.some.inj h)
    show recordOr (readTimebase (writeTimebase f)) _ = _
    rw [readTimebase_writeTimebase]
    rfl
  | setReference w r m =>
    obtain ⟨rfl, rfl⟩ := Prod.mk.inj (Option.some.inj h)
    show Except.ok (Instr.setReference w (join4 _ _ _ _) (join4 _ _ _ _)) = _
    rw [join4_split4, join4_split4]
  | peek a =>
    obtain ⟨rfl, rfl⟩ := Prod.mk.inj (Option.some.inj h)
    show Except.ok (Instr.peek (join3 _ _ _)) = _
    rw [join3_split3]
  | poke a d m =>
    obtain ⟨rfl, rfl⟩ := Prod.mk.inj (Option.some.inj h)
    show Except.ok (Instr.poke (join3 _ _ _) (join4 _ _ _ _) _) = _
    rw [join3_split3, join4_split4, extract_setWidth_mask]
  | _ => cases h <;> rfl

/-- Settles O38: a well-formed READ_TABLE's kind is one of the seven. -/
theorem decodeEncode : Obligations.DecodeEncode := by
  unfold Obligations.DecodeEncode
  intro c code fields hwf h
  refine decodeCommand_encodeCommand h ?_
  rintro k i rfl hn
  simp [wellFormed, readTableInRange, hn] at hwf

/-! ### Frames -/

theorem endFrame_dropped {s : State} (h : ¬ NotDropped s) (k : State → State) :
    s.endFrame k = { quiet s with link := { s.link with frame := none } } := by
  unfold State.endFrame
  rw [if_pos (by simpa using mt (frameDropped_iff s).1 h), noFrame_eq]

theorem endFrame_eq {s : State} (h : NotDropped s) (k : State → State) : s.endFrame k = k (readied s s) := by
  unfold State.endFrame
  rw [if_neg (by simp [(frameDropped_iff s).2 h]), closeFrame_eq]

theorem rejectFrame_readied (s : State) (status : Status) (echo : Byte) : (readied s s).rejectFrame status echo = rejected s status echo :=
  rfl

theorem unlessBusy_pending {s : State} (hp : s.link.pending ≠ none) (code : Byte) (k : State → State) :
    (readied s s).unlessBusy code k = rejected s .busy code := if_pos (by simpa [readied, Option.isSome_iff_ne_none] using hp)

theorem unlessBusy_free {s : State} (hp : s.link.pending = none) (code : Byte) (k : State → State) :
    (readied s s).unlessBusy code k = k (readied s s) := if_neg (by simp [readied, hp])

/-- R155: the field bytes of a command are fewer than 256. -/
theorem encodeCommand_length {c : Instr} {code : Byte} {fields : List Byte} (h : encodeCommand c = some (code, fields)) :
    fields.length < 256 := by
  cases c <;> cases h <;> exact of_decide_eq_true rfl

/-- R149, R153: a frame of a code, its length, field bytes and CRC, with padding and bits of an unfinished byte, passes the length and
CRC checks. -/
theorem exec_frame {code : Byte} {fields : List Byte} (padding : List Byte) {tail : List Bool} (s : State) (hf : fields.length < 256)
    (ht : tail.length < 8) :
    exec (.frameEnd (bitsOfBytes (frameBytes code fields ++ padding) ++ tail)) s = .next (s.endFrame (checkBusy code fields)) := by
  have hlen : (byteOf fields.length).toNat = fields.length := by
    rw [byteOf, BitVec.toNat_ofNat]
    exact Nat.mod_eq_of_lt hf
  have hbytes : frameBytes code fields ++ padding =
      code :: byteOf fields.length :: (fields ++ crc (code :: byteOf fields.length :: fields) :: padding) := by
    simp [frameBytes]
  have hbody : checkFrame code (byteOf fields.length) (fields ++ crc (code :: byteOf fields.length :: fields) :: padding) =
      checkBusy code fields := by
    funext u
    simp only [checkFrame, hlen, List.take_left, List.drop_left, if_true]
  show Host.Outcome.next (s.finishFrame (bytesOfBits _)) = _
  rw [bytesOfBits_bitsOfBytes _ _ ht, hbytes]
  exact congrArg (fun k => Host.Outcome.next (s.endFrame k)) hbody

/-- R153, R158: NOP and READ_RESULT pass the BUSY check, and every other command goes through it. -/
theorem checkBusy_of_not_always {code : Byte} (h : alwaysAccepted code = false) (fields : List Byte) (s : State) :
    checkBusy code fields s = s.unlessBusy code (takeFrame code fields) := if_neg (by simp [h])

/-- R160: READ_TABLE of a kind that names no table. -/
theorem readTable_of_kind {kind : Byte} (h : 7 ≤ kind.toNat) (index : Byte) (s : State) : s.readTable kind index = .error .badIndex := by
  unfold State.readTable
  split <;> first | omega | rfl

theorem tableSize_eq_none_iff (kind : Byte) : tableSize kind = none ↔ 7 ≤ kind.toNat := by
  unfold tableSize
  split
  case h_8 h0 h1 h2 h3 h4 h5 h6 =>
    simp only [imp_false] at h0 h1 h2 h3 h4 h5 h6
    exact iff_of_true rfl (by omega)
  all_goals exact iff_of_false (by simp) (by omega)

/-- R155: a taken frame runs the command it encodes. -/
theorem takeFrame_encode {c : Instr} {code : Byte} {fields : List Byte} (h : encodeCommand c = some (code, fields)) :
    takeFrame code fields = runCommand c := by
  funext s
  by_cases hk : ∀ k i, c = .readTable k i → tableSize k ≠ none
  · unfold takeFrame
    rw [decodeCommand_encodeCommand h hk]
  · push Not at hk
    obtain ⟨k, i, rfl, hk⟩ := hk
    obtain ⟨rfl, rfl⟩ := Prod.mk.inj (Option.some.inj h)
    have hd : decodeCommand 0x10#8 [k, i] = .error .badIndex := if_pos hk
    show _ = immediate 0x10#8 (fun s => s.readTable k i) s
    rw [takeFrame, hd, immediate_eq, readTable_of_kind ((tableSize_eq_none_iff k).1 hk)]
    rfl

/-- R153, R158: the end of a frame that carries a command is the command's row. -/
theorem exec_eq_checkBusy {c : Instr} {code : Byte} {fields : List Byte} (h : encodeCommand c = some (code, fields)) (s : State) :
    exec c s = .next (s.endFrame (checkBusy code fields)) := by
  by_cases hcode : alwaysAccepted code = false
  · rw [exec_eq_command s h hcode, ← takeFrame_encode h]
    exact congrArg (fun k => Host.Outcome.next (s.endFrame k)) (funext fun u => (checkBusy_of_not_always hcode fields u).symm)
  · cases c <;> cases h <;> first | rfl | exact absurd rfl hcode

/-- Settles O37: both are the frame's end with the command's code and field bytes. -/
theorem frameCarriesCommand : Obligations.FrameCarriesCommand := by
  unfold Obligations.FrameCarriesCommand
  intro c code fields padding tail s h ht
  rw [exec_frame padding s (encodeCommand_length h) ht, exec_eq_checkBusy h]

/-- Settles O40: a dropped frame only ends; else the BUSY check decides, but for NOP and READ_RESULT. -/
theorem busyWhilePending : Obligations.BusyWhilePending := by
  unfold Obligations.BusyWhilePending
  intro c code fields s h
  refine ⟨fun hd => ?_, fun hd hp hnop hread => ?_, fun hd => ?_, fun hd => ?_⟩
  · rw [exec_eq_checkBusy h, endFrame_dropped hd]
  · have hcode : alwaysAccepted code = false := by
      cases c <;> cases h <;> first | rfl | exact absurd rfl hnop | exact absurd rfl hread
    rw [exec_eq_checkBusy h, endFrame_eq hd, checkBusy_of_not_always hcode, unlessBusy_pending hp]
  · exact congrArg Host.Outcome.next (endFrame_eq hd nopBody)
  · exact congrArg Host.Outcome.next (endFrame_eq hd readResultBody)

/-- R153: with no command pending an accepted frame's command is taken or refused. -/
theorem checkBusy_free {s : State} (hp : s.link.pending = none) (code : Byte) (fields : List Byte) :
    checkBusy code fields (readied s s) = takeFrame code fields (readied s s) := by
  unfold checkBusy
  rw [unlessBusy_free hp, ite_self]

/-- R155: a frame that fails to decode is refused. -/
theorem takeFrame_error {code : Byte} {fields : List Byte} {status : Status} (h : decodeCommand code fields = .error status) (s : State) :
    takeFrame code fields (readied s s) = refused s status code := by
  unfold takeFrame
  rw [h]
  rfl

/-- 11.4: a code that names no command. -/
theorem decodeCommand_of_code {code : Byte} (h : code ∉ [0x00#8, 0x01#8, 0x10#8, 0x11#8, 0x20#8, 0x21#8, 0x22#8, 0x23#8, 0x24#8,
      0x30#8, 0x31#8, 0x40#8, 0x41#8, 0x42#8, 0x50#8, 0x60#8, 0x61#8, 0x70#8, 0x7F#8]) (fields : List Byte) :
    decodeCommand code fields = .error .badCommand := by
  unfold decodeCommand
  simp only [List.mem_cons, not_or, ← BitVec.toNat_inj] at h
  split <;> simp_all

theorem exec_frameEnd_cons {mdi : List Bool} {code : Byte} {rest : List Byte} {s : State} (hd : NotDropped s)
    (hb : bytesOfBits mdi = code :: rest) : exec (.frameEnd mdi) s = .next (frameBody code rest (readied s s)) := by
  show Host.Outcome.next (s.finishFrame (bytesOfBits mdi)) = _
  rw [hb]
  exact congrArg Host.Outcome.next (endFrame_eq hd _)

/-- R153: the frame's length and CRC checks. -/
theorem checkFrame_short {code len : Byte} {body : List Byte} (h : body.length ≤ len.toNat) (s : State) :
    checkFrame code len body s = s.rejectFrame .frameShort code := by
  simp only [checkFrame, List.drop_eq_nil_of_le h]

theorem checkFrame_crc {code len k : Byte} {body : List Byte} (h : body[len.toNat]? = some k) (s : State) :
    checkFrame code len body s = if k = crc (code :: len :: body.take len.toNat) then checkBusy code (body.take len.toNat) s
      else s.rejectFrame .badCrc code := by
  obtain ⟨hlt, rfl⟩ := List.getElem?_eq_some_iff.1 h
  simp only [checkFrame, List.drop_eq_getElem_cons hlt]

theorem crc_nop : crc [0x00#8, 0x00#8] = 0xD7#8 := by decide +kernel

/-- R150, R153: a frame without field bytes whose CRC is right. -/
theorem checkFrame_empty (code : Byte) (padding : List Byte) (s : State) :
    checkFrame code 0#8 (crc [code, 0#8] :: padding) s = checkBusy code [] s := if_pos rfl

/-- Settles O36, check by check in R153's order; NOP's and POP_EVENT's frames pass them all. -/
theorem frameEnds : Obligations.FrameEnds := by
  unfold Obligations.FrameEnds
  refine ⟨fun mdi code len body s => ⟨fun hs => ?_, fun hd => ?_, fun hd => ⟨fun hb => ?_, fun hb => ⟨fun hl => ?_, fun k hk =>
    ⟨fun hc => ?_, fun hc hp h0 h1 => ?_, fun hc hp hcode => ?_⟩⟩⟩⟩, fun mdi padding s => ⟨fun hd hb => ?_, fun r rest hr h hb => ?_⟩⟩
  · show Host.Outcome.next (s.finishFrame (bytesOfBits mdi)) = _
    rw [bytesOfBits_of_short hs]
    rfl
  · show Host.Outcome.next (s.finishFrame (bytesOfBits mdi)) = _
    cases bytesOfBits mdi with
    | nil => rfl
    | cons code rest => exact congrArg Host.Outcome.next (endFrame_dropped hd _)
  · rw [exec_frameEnd_cons hd hb]
    rfl
  · rw [exec_frameEnd_cons hd hb, frameBody, checkFrame_short hl, rejectFrame_readied]
  · rw [exec_frameEnd_cons hd hb, frameBody, checkFrame_crc hk, if_neg hc, rejectFrame_readied]
  · have hcode : alwaysAccepted code = false := by simp [alwaysAccepted, h0, h1]
    rw [exec_frameEnd_cons hd hb, frameBody, checkFrame_crc hk, if_pos hc, checkBusy_of_not_always hcode, unlessBusy_pending hp]
  · rw [exec_frameEnd_cons hd hb, frameBody, checkFrame_crc hk, if_pos hc, checkBusy_free hp,
      takeFrame_error (decodeCommand_of_code hcode _)]
  · rw [exec_frameEnd_cons hd hb, frameBody, ← crc_nop, checkFrame_empty]
    rfl
  · rw [exec_frameEnd_cons h.1 hb, frameBody, checkFrame_empty, checkBusy_free h.2]
    show Host.Outcome.next (popEventBody (readied s s)) = _
    rw [← command_ready h 0x70#8 popEventBody]
    exact (popEvent s h).2 r rest hr

end Sys2Proof.Machine

/-! PROOFS. Chapters 08 and 11: records read back as they were written (R187), and the refusals of lengths, kinds, options and numbers
out of range (R155). -/

namespace Sys2Proof.Machine

open Sys2Proof.Safety Wire

/-! ### Records that READ_TABLE returns -/

theorem toNat_byteOf {n : Nat} (h : n < 256) : (byteOf n).toNat = n := by
  rw [byteOf, BitVec.toNat_ofNat]
  exact Nat.mod_eq_of_lt h

theorem toNat_ofNat16 {n : Nat} (h : n < 65536) : (BitVec.ofNat 16 n).toNat = n := by
  rw [BitVec.toNat_ofNat]
  exact Nat.mod_eq_of_lt h

@[simp] theorem groupField_byteOf (g : Fin 8) : groupField (byteOf g.val) = g := by
  revert g
  decide

@[simp] theorem optionalField_present {α : Type} (o : Option α) (d : α) : optionalField (present o) (o.getD d) = o := by cases o <;> rfl

@[simp] theorem baseField_bit (b : Base) : baseField (Base.bit b) = b := by cases b <;> rfl

@[simp] theorem tripField_bit (p : TripPolicy) : tripField p.bit = p := by cases p <;> rfl

@[simp] theorem triggerField_code (t : Trigger) : triggerField t.code = t := by cases t <;> rfl

@[simp] theorem wordField_setWidth (a : WordAddr) : wordField (a.setWidth 24) = a := BitVec.setWidth_setWidth_of_le a (by decide)

theorem readWindow_bytes (w : Window) : ∃ f, readWindow w.bytes = some f ∧ windowRecord f = w := by
  refine ⟨_, rfl, ?_⟩
  have hf : (if (w.foreign == .pass) = true then ForeignPolicy.pass else .refuse) = w.foreign := by cases w.foreign <;> rfl
  simp only [windowRecord, flagByte_bits, groupField_byteOf, extract_setWidth_mask, join3_split3, join2_split2, optionalField_present, hf]

theorem readGroup_bytes (c : GroupConfig) (hc : ConfigOk c) : ∃ f, readGroup c.bytes = some f ∧ groupRecord f = c := by
  obtain ⟨hphase, hskip, hquota, hmiss⟩ := hc
  refine ⟨_, rfl, ?_⟩
  have hl : (⟨(byteOf c.releaseLine.val).toNat % 4, Nat.mod_lt _ (by decide)⟩ : Fin 4) = c.releaseLine := by
    apply Fin.ext
    show (byteOf c.releaseLine.val).toNat % 4 = c.releaseLine.val
    rw [toNat_byteOf (by omega)]
    exact Nat.mod_eq_of_lt c.releaseLine.isLt
  have hm : (if (c.clearMode == .auto) = true then ClearMode.auto else .latched) = c.clearMode := by cases c.clearMode <;> rfl
  simp only [groupRecord, flagByte_bits, join2_split2, triggerField_code, baseField_bit, tripField_bit, hl, hm,
    toNat_byteOf (show c.skip < 256 by omega), toNat_byteOf (show c.missLimit < 256 by omega),
    toNat_ofNat16 (show c.phase < 65536 by omega), toNat_ofNat16 (show c.quota < 65536 by omega)]

theorem readSafe_bytes (e : SafeEntry) : ∃ f, readSafe e.bytes = some f ∧ safeRecord f = e := by
  refine ⟨_, rfl, ?_⟩
  simp only [safeRecord, flagByte_bits, groupField_byteOf, extract_setWidth_mask, join3_split3, join4_split4, wordField_setWidth]

theorem readWatch_bytes (x : Watch) (hx : x.settleLength ≤ 15) :
    ∃ f, readWatch (x.bytes.take 15) = some f ∧ x.configure f = x := by
  refine ⟨_, rfl, ?_⟩
  have ha : (if (x.action == .trip) = true then WatchAction.trip else .report) = x.action := by cases x.action <;> rfl
  simp only [Watch.configure, flagByte_bits, groupField_byteOf, join3_split3, join4_split4, wordField_setWidth, baseField_bit,
    optionalField_present, ha, toNat_byteOf (show x.settleLength < 256 by omega)]

theorem readTimebase_bytes (t : TimeBase) (ht : BaseOk t) :
    ∃ f, readTimebase (t.bytes.take 5) = some f ∧ f.divider.toNat = t.divider ∧ f.period.toNat = t.period ∧ f.bLock = t.bLock := by
  obtain ⟨-, hdivider, -, hperiod, -⟩ := ht
  refine ⟨_, rfl, ?_⟩
  simp only [join2_split2, flagByte_bits, and_true, toNat_ofNat16 (show t.divider < 65536 by omega),
    toNat_ofNat16 (show t.period < 65536 by omega)]

/-- Settles O42, record by record. -/
theorem recordRoundTrip : Obligations.RecordRoundTrip := by
  unfold Obligations.RecordRoundTrip
  intro w c e x t
  exact ⟨readWindow_bytes w, readGroup_bytes c, readSafe_bytes e, readWatch_bytes x, readTimebase_bytes t⟩

/-! ### Fields of a wrong length (R155) -/

theorem one_of_length {f : Byte → Instr} {l : List Byte} (h : l.length ≠ 1) : one f l = .error .badValue := by
  unfold one
  split
  · exact absurd rfl h
  · rfl

theorem two_of_length {f : Byte → Byte → Except Status Instr} {l : List Byte} (h : l.length ≠ 2) : two f l = .error .badValue := by
  unfold two
  split
  · exact absurd rfl h
  · rfl

theorem zero_of_length {c : Instr} {l : List Byte} (h : l.length ≠ 0) : zero c l = .error .badValue := by
  unfold zero
  split
  · exact absurd rfl h
  · rfl

theorem decodeSetReference_of_length {l : List Byte} (h : l.length ≠ 9) : decodeSetReference l = .error .badValue := by
  unfold decodeSetReference
  split
  · exact absurd rfl h
  · rfl

theorem decodePeek_of_length {l : List Byte} (h : l.length ≠ 3) : decodePeek l = .error .badValue := by
  unfold decodePeek
  split
  · exact absurd rfl h
  · rfl

theorem decodePoke_of_length {l : List Byte} (h : l.length ≠ 8) : decodePoke l = .error .badValue := by
  unfold decodePoke
  split
  · exact absurd rfl h
  · rfl

/-- R155: the field length of each code but READ_TABLE's and WRITE_TABLE's. -/
theorem decodeCommand_of_length {code : Byte} {n : Nat} {fields : List Byte}
    (h : (code, n) ∈ [(0x20#8, 1), (0x21#8, 2), (0x22#8, 1), (0x23#8, 1), (0x24#8, 2), (0x30#8, 1), (0x31#8, 2), (0x40#8, 1),
      (0x41#8, 1), (0x42#8, 9), (0x50#8, 2), (0x60#8, 3), (0x61#8, 8), (0x70#8, 0), (0x7F#8, 0)]) (hl : fields.length ≠ n) :
    decodeCommand code fields = .error .badValue := by
  simp only [List.mem_cons, List.not_mem_nil, or_false, Prod.mk.injEq] at h
  rcases h with ⟨rfl, rfl⟩ | ⟨rfl, rfl⟩ | ⟨rfl, rfl⟩ | ⟨rfl, rfl⟩ | ⟨rfl, rfl⟩ | ⟨rfl, rfl⟩ | ⟨rfl, rfl⟩ | ⟨rfl, rfl⟩ | ⟨rfl, rfl⟩ |
    ⟨rfl, rfl⟩ | ⟨rfl, rfl⟩ | ⟨rfl, rfl⟩ | ⟨rfl, rfl⟩ | ⟨rfl, rfl⟩ | ⟨rfl, rfl⟩
  · exact one_of_length hl
  · exact two_of_length hl
  · exact one_of_length hl
  · exact one_of_length hl
  · exact two_of_length hl
  · exact one_of_length hl
  · exact two_of_length hl
  · exact one_of_length hl
  · exact one_of_length hl
  · exact decodeSetReference_of_length hl
  · exact two_of_length hl
  · exact decodePeek_of_length hl
  · exact decodePoke_of_length hl
  · exact zero_of_length hl
  · exact zero_of_length hl

/-- R155: READ_TABLE's two field bytes. -/
theorem decodeReadTable_of_length {kind : Byte} {rest : List Byte} (hk : kind.toNat ≤ 6) (hl : rest.length ≠ 1) :
    decodeReadTable (kind :: rest) = .error .badValue := by
  have hsize : tableSize kind ≠ none := mt (tableSize_eq_none_iff kind).1 (by omega)
  refine (if_neg hsize).trans ?_
  split
  · exact absurd rfl hl
  · rfl

theorem decodeReadTable_of_kind {kind : Byte} (hk : 6 < kind.toNat) (rest : List Byte) :
    decodeReadTable (kind :: rest) = .error .badIndex := if_pos ((tableSize_eq_none_iff kind).2 hk)

theorem recordOr_none {α : Type} {r : Option α} (h : r = none) (f : α → Instr) : recordOr r f = .error .badValue := by
  rw [h]
  rfl

theorem readWindow_of_length {l : List Byte} (h : l.length ≠ 11) : readWindow l = none := by
  unfold readWindow
  split
  · exact absurd rfl h
  · rfl

theorem readGroup_of_length {l : List Byte} (h : l.length ≠ 10) : readGroup l = none := by
  unfold readGroup
  split
  · exact absurd rfl h
  · rfl

theorem readSafe_of_length {l : List Byte} (h : l.length ≠ 10) : readSafe l = none := by
  unfold readSafe
  split
  · exact absurd rfl h
  · rfl

theorem readWatch_of_length {l : List Byte} (h : l.length ≠ 15) : readWatch l = none := by
  unfold readWatch
  split
  · exact absurd rfl h
  · rfl

theorem readTimebase_of_length {l : List Byte} (h : l.length ≠ 5) : readTimebase l = none := by
  unfold readTimebase
  split
  · exact absurd rfl h
  · rfl

theorem readLines_of_length {l : List Byte} (h : l.length ≠ 12) : readLines l = none := by
  unfold readLines
  split
  · exact absurd rfl h
  · rfl

/-- R155, R187: the record length of each table kind. -/
theorem decodeWriteTable_of_length {kind index : Byte} {record : List Byte} {n : Nat}
    (h : (kind.toNat, n) ∈ [(0, 11), (1, 10), (2, 10), (3, 15), (4, 5), (5, 12), (6, 1)]) (hl : record.length ≠ n) :
    decodeWriteTable kind index record = .error .badValue := by
  simp only [List.mem_cons, List.not_mem_nil, or_false, Prod.mk.injEq] at h
  unfold decodeWriteTable
  rcases h with ⟨hk, rfl⟩ | ⟨hk, rfl⟩ | ⟨hk, rfl⟩ | ⟨hk, rfl⟩ | ⟨hk, rfl⟩ | ⟨hk, rfl⟩ | ⟨hk, rfl⟩ <;> rw [hk]
  · exact recordOr_none (readWindow_of_length hl) _
  · exact recordOr_none (readGroup_of_length hl) _
  · exact recordOr_none (readSafe_of_length hl) _
  · exact recordOr_none (readWatch_of_length hl) _
  · exact recordOr_none (readTimebase_of_length hl) _
  · exact recordOr_none (readLines_of_length hl) _
  · match record, hl with
    | [], _ => rfl
    | [_], hl => exact absurd rfl hl
    | _ :: _ :: _, _ => rfl

theorem decodeWriteTable_of_kind {kind : Byte} (hk : 6 < kind.toNat) (index : Byte) (record : List Byte) :
    decodeWriteTable kind index record = .error .badIndex := by
  unfold decodeWriteTable
  split <;> first | omega | rfl

/-- R155: WRITE_TABLE's field length by its kind, the kind and index bytes included. -/
theorem decodeWrite_of_length {kind : Byte} {rest : List Byte} {n : Nat}
    (h : (kind.toNat, n) ∈ [(0, 12), (1, 11), (2, 11), (3, 16), (4, 6), (5, 13), (6, 2)]) (hl : rest.length ≠ n) :
    decodeWrite (kind :: rest) = .error .badValue := by
  simp only [List.mem_cons, List.not_mem_nil, or_false, Prod.mk.injEq] at h
  cases rest with
  | nil => exact if_neg (by rw [tableSize_eq_none_iff]; omega)
  | cons index record =>
    simp only [List.length_cons] at hl
    have hlen : record.length ≠ n - 1 := by omega
    refine decodeWriteTable_of_length (n := n - 1) ?_ hlen
    rcases h with ⟨hk, rfl⟩ | ⟨hk, rfl⟩ | ⟨hk, rfl⟩ | ⟨hk, rfl⟩ | ⟨hk, rfl⟩ | ⟨hk, rfl⟩ | ⟨hk, rfl⟩ <;> simp [hk]

theorem decodeWrite_of_kind {kind : Byte} (hk : 6 < kind.toNat) (rest : List Byte) : decodeWrite (kind :: rest) = .error .badIndex := by
  match rest with
  | [] => exact if_pos ((tableSize_eq_none_iff kind).2 hk)
  | index :: record => exact decodeWriteTable_of_kind hk index record

/-! ### Option bytes (11.4) -/

theorem badOption_eq (n limit : Byte) {k : Nat} (hk : k = limit.toNat + 1) :
    badOption n limit = .error (if n.toNat < k then .badValue else .badIndex) := by
  subst hk
  unfold badOption
  by_cases h : n.toNat ≤ limit.toNat
  · rw [if_pos h, if_pos (by omega)]
  · rw [if_neg h, if_neg (by omega)]

theorem decodeGroupStop_of_option {o : Byte} (h : 1 < o.toNat) (g : Byte) : decodeGroupStop g o = badOption g 7#8 := by
  unfold decodeGroupStop
  split <;> first | omega | rfl

theorem decodeReadStatus_of_option {o : Byte} (h : 1 < o.toNat) (g : Byte) : decodeReadStatus g o = badOption g 7#8 := by
  unfold decodeReadStatus
  split <;> first | omega | rfl

theorem decodeTimebase_of_option {o : Byte} (h : 2 < o.toNat) (b : Byte) : decodeTimebase b o = badOption b 2#8 := by
  unfold decodeTimebase
  split <;> first | omega | rfl

/-! ### Numbers out of range -/

/-- A command whose number fails its check is refused with BAD_INDEX. -/
theorem exec_badIndex {s : State} (h : LinkReady s) {c : Instr} {code : Byte} {f : State → CommandResult}
    (hc : exec c s = .next (command code (immediate code f) s)) (hf : f (readied s s) = .error .badIndex) :
    exec c s = .next (refused s .badIndex code) := by
  rw [exec_immediate h hc, hf, finished_error]

theorem basesNamed_of_le {b : Byte} (h : 3 ≤ b.toNat) : basesNamed b = none := by
  unfold basesNamed
  split <;> first | omega | rfl

theorem controlBases_badIndex {b : Byte} (h : 3 ≤ b.toNat) (s : State) (refuses : TimeBase → Bool) (f : TimeBase → TimeBase) :
    s.controlBases b refuses f = .error .badIndex := by
  unfold State.controlBases
  rw [basesNamed_of_le h]

/-- R160: READ_TABLE of a record outside its table. -/
theorem readTable_badIndex {o n : Byte} (s : State)
    (h : (o.toNat, true) ∈ [(0, decide (16 ≤ n.toNat)), (1, decide (8 ≤ n.toNat)), (2, decide (128 ≤ n.toNat)),
          (3, decide (12 ≤ n.toNat)), (4, decide (2 ≤ n.toNat)), (5, decide (1 ≤ n.toNat)), (6, decide (1 ≤ n.toNat))] ∨
          7 ≤ o.toNat) : s.readTable o n = .error .badIndex := by
  rcases h with h | h
  · simp only [List.mem_cons, List.not_mem_nil, or_false, Prod.mk.injEq, eq_comm (a := true), decide_eq_true_eq] at h
    unfold State.readTable
    rcases h with ⟨ho, hn⟩ | ⟨ho, hn⟩ | ⟨ho, hn⟩ | ⟨ho, hn⟩ | ⟨ho, hn⟩ | ⟨ho, hn⟩ | ⟨ho, hn⟩ <;>
      (rw [ho]; exact readAt_of_le hn _ _)
  · exact readTable_of_kind h n s

/-- Settles O39: lengths, numbers, options, and the frames that carry them. -/
theorem fieldsRefused : Obligations.FieldsRefused := by
  unfold Obligations.FieldsRefused
  refine ⟨fun code kind fields n => ⟨decodeCommand_of_length, decodeReadTable_of_length, decodeWrite_of_length, fun hk =>
    ⟨decodeReadTable_of_kind hk fields, decodeWrite_of_kind hk fields⟩⟩, ?_, fun n o => ⟨fun ho => ⟨?_, ?_⟩, fun ho => ?_⟩, ?_⟩
  · intro n o r k wf gf sf xf tf lf s h
    refine ⟨fun hn => ?_, fun hn => ?_, fun hn => ?_, fun hn => ?_, fun hn => ?_, fun hn => ?_, fun hn => ?_, fun hn => ?_⟩
    · exact ⟨exec_badIndex h rfl (withGroup_of_le hn _), exec_badIndex h rfl (withGroup_of_le hn _),
        exec_badIndex h rfl (withGroup_of_le hn _), exec_badIndex h rfl (withGroup_of_le hn _),
        exec_badIndex h rfl (withGroup_of_le hn _), exec_badIndex h rfl (withGroup_of_le hn _),
        exec_badIndex h rfl (withGroup_of_le hn _), exec_badIndex h rfl (withGroup_of_le hn _),
        exec_badIndex h rfl (withGroup_of_le hn _), exec_badIndex h rfl (writeAt_of_le hn _)⟩
    · exact ⟨exec_badIndex h rfl (withWatch_of_le hn _), exec_badIndex h rfl (withWatch_of_le hn _),
        exec_badIndex h rfl (withWatch_of_le hn _), exec_badIndex h rfl (writeAt_of_le hn _)⟩
    · exact ⟨exec_badIndex h rfl (controlBases_badIndex hn _ _ _), exec_badIndex h rfl (controlBases_badIndex hn _ _ _),
        exec_badIndex h rfl (controlBases_badIndex hn _ _ _)⟩
    · exact exec_badIndex h rfl (writeAt_of_le hn _)
    · exact exec_badIndex h rfl (writeAt_of_le hn _)
    · exact exec_badIndex h rfl (writeAt_of_le hn _)
    · exact ⟨exec_badIndex h rfl (writeAt_of_le hn _), exec_badIndex h rfl (writeAt_of_le hn _)⟩
    · exact exec_badIndex h rfl (readTable_badIndex _ hn)
  · exact (decodeGroupStop_of_option ho n).trans (badOption_eq n 7#8 rfl)
  · exact (decodeReadStatus_of_option ho n).trans (badOption_eq n 7#8 rfl)
  · exact (decodeTimebase_of_option ho n).trans (badOption_eq n 2#8 rfl)
  · intro code fields padding tail st s h hf ht hd
    rw [exec_frame padding s hf ht, endFrame_eq h.1, checkBusy_free h.2, takeFrame_error hd]

end Sys2Proof.Machine

/-! PROOFS. Chapters 04, 05, 06 and 08: WRITE_TABLE of a time base, of the lines and of the drain burst (R69, R161, R109, R103), and the
start of a frame (R151). -/

namespace Sys2Proof.Machine

open Sys2Proof.Safety

/-! ### FRAME_START (R151) -/

/-- R151: outside a frame and with RESET_N high the reply is fixed by the reply choice. -/
theorem startFrame_eq {s : State} (hf : s.link.frame = none) (hr : s.inReset = false) :
    exec .frameStart s = .next (framed s s.link.choice s.chosenReply) := by
  show Host.Outcome.next s.newCycle.startFrame = _
  unfold State.startFrame
  rw [newCycle_link, hf]
  dsimp only
  rw [newCycle_inReset, hr]
  rfl

theorem chosenReply_link {s : State} (h : s.link.choice = .link) : s.chosenReply = s.linkReply := by
  unfold State.chosenReply
  rw [h]

/-- Settles O35, by the reply choice. -/
theorem frameStarts : Obligations.FrameStarts := by
  unfold Obligations.FrameStarts
  intro note s
  refine ⟨fun hf => ?_, fun hf hr => ⟨fun hc => ?_, fun hc hn => ?_, fun hc => ?_⟩⟩
  · show Host.Outcome.next s.newCycle.startFrame = _
    obtain ⟨f, hf⟩ := Option.ne_none_iff_exists'.1 hf
    unfold State.startFrame
    rw [newCycle_link, hf]
    rfl
  · rw [startFrame_eq hf hr, hc, State.chosenReply, hc]
    rfl
  · rw [startFrame_eq hf hr, hc, State.chosenReply, hc, hn]
    rfl
  · rw [startFrame_eq hf hr, chosenReply_link hc, hc]
    refine congrArg (fun r => Host.Outcome.next (framed s .link r)) ?_
    unfold State.linkReply State.attention
    generalize s.link.pending = pending, s.events.records = records
    cases pending with
    | none => cases records <;> rfl
    | some c => cases c <;> cases records <;> rfl

/-! ### WRITE_TABLE of a time base (R69) -/

theorem timebaseInRange_iff (b : Base) (i : Byte) (hi : i = match b with
    | .timeA => 0#8
    | .timeB => 1#8) (f : TimebaseFields) :
    (!Wire.timebaseInRange i f) = true ↔ f.divider.toNat = 0 ∨ 256 < f.divider.toNat ∨ (f.bLock = true ∧ b = .timeA) := by
  subst hi
  have hb : ((match b with
    | .timeA => 0#8
    | .timeB => 1#8) == 0#8) = true ↔ b = .timeA := by cases b <;> simp
  simp only [Wire.timebaseInRange, Bool.not_and, Bool.or_eq_true, Bool.not_eq_true', decide_eq_false_iff_not,
    Bool.or_eq_false_iff, Bool.not_eq_false', hb, or_assoc, Nat.not_le, Nat.lt_one_iff]

/-- R69: a written period blocked by the phase of an ACTIVE or FAULTED TIMED group. -/
theorem phaseBlocks_iff (gr : Group) (b : Base) (period : Nat) :
    gr.phaseBlocks b period = true ↔ (gr.state = .active ∨ gr.state = .faulted) ∧ gr.config.trigger = .timed ∧ gr.config.base = b ∧
      period ≤ gr.config.phase := by
  simp only [Group.phaseBlocks, Bool.and_eq_true, Bool.or_eq_true, beq_iff_eq, decide_eq_true_eq, and_assoc]

theorem writtenPeriod_eq (f : TimebaseFields) : writtenPeriod f = if f.period.toNat < 16 then 16 else f.period.toNat := by
  unfold writtenPeriod Config.periodMin
  split <;> omega

theorem readied_setBase (s : State) (b : Base) (x : TimeBase) : (readied s s).setBase b x = readied s (s.setBase b x) := by cases b <;> rfl

/-! ### Fault lines (R108) -/

@[simp] theorem tripSource_config (s : State) (g h : Fin 8) (x : TripSource) : ((s.tripSource g x).group h).config = (s.group h).config := by
  have hset (y : Group) (hy : y.config = (s.group g).config) : (if g = h then y else s.group h).config = (s.group h).config := by
    split
    · rename_i e
      rw [hy, e]
    · rfl
  rcases tripSource_cases s g x with ⟨-, e⟩ | ⟨-, -, e⟩ | ⟨-, -, e⟩ <;> rw [e]
  · rw [firstTrip_group]
    exact hset _ rfl
  · rw [State.secondFault, setGroup_group]
    exact hset _ rfl

/-- Runs over the groups, with a trip source of each that the choice names. -/
def tripEach (x : TripSource) (chosen : Fin 8 → Bool) (l : List (Fin 8)) (s : State) : State :=
  l.foldl (fun u g => if chosen g = true then u.tripSource g x else u) s

theorem lineReported_eq_tripEach (s : State) (n : Fin 2) :
    lineReported s n = tripEach (.line n) (fun g => (s.group g).config.lineEnabled n) (List.finRange 8) s := rfl

theorem tripEach_groupsOnly (x : TripSource) (chosen : Fin 8 → Bool) (l : List (Fin 8)) (s : State) :
    GroupsOnly s (tripEach x chosen l s) := by
  refine .foldl _ (fun u g => ?_) l s
  split
  · exact tripSource_groupsOnly u g x
  · exact .refl u

/-- R108: the enables are the configurations', which no trip changes. -/
theorem lineBecomesActive_eq (s : State) (n : Fin 2) : s.lineBecomesActive n = lineReported s n := by
  have run (l : List (Fin 8)) (u : State) (hu : ∀ g, (u.group g).config = (s.group g).config) :
      l.foldl (fun v g => if (v.group g).config.lineEnabled n = true then v.tripSource g (.line n) else v) u =
        tripEach (.line n) (fun g => (s.group g).config.lineEnabled n) l u := by
    induction l generalizing u with
    | nil => rfl
    | cons g l ih =>
      simp only [tripEach, List.foldl_cons, hu g]
      refine ih _ fun h => ?_
      split
      · rw [tripSource_config, hu h]
      · exact hu h
  rw [State.lineBecomesActive, groupNumbers_eq, lineReported_eq_tripEach]
  exact run _ s fun _ => rfl

theorem tripEach_graft {s : State} (x : TripSource) (chosen : Fin 8 → Bool) (l : List (Fin 8)) (v : State) (hA : v.baseA = s.baseA)
    (hs : v.softResetting = s.softResetting) : tripEach x chosen l (graft s v) = graft s (tripEach x chosen l v) := by
  induction l generalizing v with
  | nil => rfl
  | cons g l ih =>
    simp only [tripEach, List.foldl_cons]
    split
    · have hg := tripSource_groupsOnly v g x
      rw [tripSource_graft hA hs]
      exact ih _ (hg.baseA.trans hA) (hg.softResetting.trans hs)
    · exact ih v hA hs

theorem readied_lineReported {s t : State} (ht : t.link.pending = s.link.pending) (n : Fin 2) :
    lineReported (readied s t) n = readied s (lineReported t n) := by
  have hsoft : t.softResetting = (readied s t).softResetting := by
    unfold State.softResetting
    rw [ht]
    rfl
  simp only [lineReported_eq_tripEach]
  rw [readied_of_groupsOnly (tripEach_groupsOnly _ _ _ t)]
  exact tripEach_graft (s := readied s t) _ _ _ t rfl hsoft

/-- The report does not depend on the fault lines. -/
theorem lineReported_setFaultLine (s : State) (n m : Fin 2) (l : FaultLine) :
    lineReported (s.setFaultLine m l) n = (lineReported s n).setFaultLine m l := by
  simp only [lineReported_eq_tripEach]
  rw [(tripEach_groupsOnly _ _ _ s).eq_graft]
  exact tripEach_graft (s := s.setFaultLine m l) _ _ _ s rfl rfl

theorem changeFaultLine_eq (s : State) (n : Fin 2) (l : FaultLine) :
    s.changeFaultLine n l =
      if s.lineActive n = false ∧ l.active = true then lineReported (s.setFaultLine n l) n else s.setFaultLine n l := by
  simp only [State.changeFaultLine, lineBecomesActive_eq, Bool.and_eq_true, Bool.not_eq_true']

/-! ### WRITE_TABLE of the lines (R161) -/

/-- R109: the line whose configuration byte 0 means active high. -/
theorem faultConfigure_eq (l : FaultLine) (e : LineFields) :
    l.configure e = { l with activeHigh := e.choice == 0#8, qual := e.qual.toNat, count := 0 } := by
  have hc : (e.choice.toNat == 0) = (e.choice == 0#8) := by
    rw [Bool.eq_iff_iff, beq_iff_eq, beq_iff_eq, ← BitVec.toNat_inj]
    rfl
  unfold FaultLine.configure
  rw [hc]

/-- R161: all the settings replaced. -/
def linesConfigured (s : State) (f : LinesFields) : State :=
  { s with
    releaseLines := s.releaseLines.mapFinIdx fun k l _ =>
      let e := match k with
        | 0 => f.release0
        | 1 => f.release1
        | 2 => f.release2
        | _ => f.release3
      { l with edge := edgeField e.choice, qual := e.qual.toNat, count := 0 }
    faultLines := s.faultLines.mapFinIdx fun k l _ =>
      let e := if k = 0 then f.fault0 else f.fault1
      { l with activeHigh := e.choice == 0#8, qual := e.qual.toNat, count := 0 } }

theorem faultLines_configured (ls : Vector FaultLine 2) (f : LinesFields) :
    (ls.set 0 (ls[0].configure f.fault0)).set 1 (ls[1].configure f.fault1) = ls.mapFinIdx fun k l _ =>
      let e := if k = 0 then f.fault0 else f.fault1
      { l with activeHigh := e.choice == 0#8, qual := e.qual.toNat, count := 0 } := by
  ext1 i hi
  interval_cases i <;> simp [faultConfigure_eq]

theorem lineActive_setFaultLine (s : State) (n m : Fin 2) (l : FaultLine) :
    (s.setFaultLine n l).lineActive m = if n = m then l.active else s.lineActive m := by
  simp only [State.lineActive, State.setFaultLine, Fin.getElem_fin, Vector.getElem_set, Fin.ext_iff]
  split <;> rfl

theorem lineReported_groupsOnly (s : State) (n : Fin 2) : GroupsOnly s (lineReported s n) := tripEach_groupsOnly _ _ _ s

/-- R109: both fault lines' records replaced, then each that has become active reported, line 0 before line 1. -/
theorem changeFaultLines_eq (s : State) (l0 l1 : FaultLine) (u v : State) (hu : u = (s.setFaultLine 0 l0).setFaultLine 1 l1)
    (hv : v = if s.lineActive 0 = false ∧ u.lineActive 0 = true then lineReported u 0 else u) :
    (s.changeFaultLine 0 l0).changeFaultLine 1 l1 =
      if s.lineActive 1 = false ∧ u.lineActive 1 = true then lineReported v 1 else v := by
  have h0 : u.lineActive 0 = l0.active := by
    rw [hu, lineActive_setFaultLine, lineActive_setFaultLine, if_neg (by decide), if_pos rfl]
  have h1 : u.lineActive 1 = l1.active := by rw [hu, lineActive_setFaultLine, if_pos rfl]
  have hyv : (s.changeFaultLine 0 l0).setFaultLine 1 l1 = v := by
    rw [changeFaultLine_eq, hv, h0, hu]
    by_cases hc : s.lineActive 0 = false ∧ l0.active = true
    · rw [if_pos hc, if_pos hc, ← lineReported_setFaultLine]
    · rw [if_neg hc, if_neg hc]
  have hactive : (s.changeFaultLine 0 l0).lineActive 1 = s.lineActive 1 := by
    have hset : (s.setFaultLine 0 l0).lineActive 1 = s.lineActive 1 := by rw [lineActive_setFaultLine, if_neg (by decide)]
    rw [changeFaultLine_eq, ← hset]
    split
    · unfold State.lineActive
      rw [(lineReported_groupsOnly _ 0).faultLines]
    · rfl
  rw [changeFaultLine_eq, hactive, hyv, h1]

theorem changeFaultLine_other (s : State) (l0 : FaultLine) : (s.changeFaultLine 0 l0).faultLines[1] = s.faultLines[1] := by
  have h : (s.changeFaultLine 0 l0).faultLines = s.faultLines.set 0 l0 := by
    rw [changeFaultLine_eq]
    split
    · exact (lineReported_groupsOnly _ 0).faultLines
    · rfl
  simp [h]

/-- R161: the release lines' settings replaced. -/
def releaseConfigured (s : State) (f : LinesFields) : State :=
  let s := s.setReleaseLine 0 (s.releaseLines[0].configure f.release0)
  let s := s.setReleaseLine 1 (s.releaseLines[1].configure f.release1)
  let s := s.setReleaseLine 2 (s.releaseLines[2].configure f.release2)
  s.setReleaseLine 3 (s.releaseLines[3].configure f.release3)

theorem writeLines_eq_configured (s : State) (f : LinesFields) :
    s.writeLines f = if !Wire.linesInRange f then .error .badValue else
      let t := (releaseConfigured s f).changeFaultLine 0 ((releaseConfigured s f).faultLines[0].configure f.fault0)
      written (t.changeFaultLine 1 (t.faultLines[1].configure f.fault1)) := rfl

theorem writeLines_eq (s : State) (f : LinesFields) :
    s.writeLines f = if !Wire.linesInRange f then .error .badValue else
      written (((releaseConfigured s f).changeFaultLine 0 (s.faultLines[0].configure f.fault0)).changeFaultLine 1
        (s.faultLines[1].configure f.fault1)) := by
  rw [writeLines_eq_configured]
  dsimp only
  rw [changeFaultLine_other]
  rfl

theorem releaseConfigured_eq (s : State) (f : LinesFields) :
    releaseConfigured s f = { s with releaseLines := (linesConfigured s f).releaseLines } := by
  have h : (releaseConfigured s f).releaseLines = (linesConfigured s f).releaseLines := by
    ext1 i hi
    interval_cases i <;> simp [releaseConfigured, linesConfigured, ReleaseLine.configure]
  rw [← h]
  rfl

theorem linesConfigured_eq (s : State) (f : LinesFields) :
    ((releaseConfigured s f).setFaultLine 0 (s.faultLines[0].configure f.fault0)).setFaultLine 1 (s.faultLines[1].configure f.fault1) =
      linesConfigured s f := by
  have h : (linesConfigured s f).faultLines = (s.faultLines.set 0 (s.faultLines[0].configure f.fault0)).set 1
      (s.faultLines[1].configure f.fault1) := (faultLines_configured _ f).symm
  rw [releaseConfigured_eq]
  unfold State.setFaultLine
  exact congrArg (fun l => { s with releaseLines := (linesConfigured s f).releaseLines, faultLines := l }) h.symm

theorem readied_linesConfigured (s : State) (f : LinesFields) : linesConfigured (readied s s) f = readied s (linesConfigured s f) := rfl

/-- R109 in a frame: the line write's effect with the reports of the lines that it makes active. -/
theorem writeLines_readied {s u v : State} {f : LinesFields} (hu : u = linesConfigured s f)
    (hv : v = if s.lineActive 0 = false ∧ u.lineActive 0 = true then lineReported u 0 else u) :
    (readied s s).writeLines f = if !Wire.linesInRange f then .error .badValue else
      written (readied s (if s.lineActive 1 = false ∧ u.lineActive 1 = true then lineReported v 1 else v)) := by
  have hupend : u.link.pending = s.link.pending := by rw [hu]; rfl
  have hvpend : v.link.pending = s.link.pending := by
    rw [hv]
    split
    · rw [(lineReported_groupsOnly u 0).link, hupend]
    · exact hupend
  have hru : readied s u = ((releaseConfigured (readied s s) f).setFaultLine 0 (s.faultLines[0].configure f.fault0)).setFaultLine 1
      (s.faultLines[1].configure f.fault1) := by
    rw [hu, ← readied_linesConfigured, ← linesConfigured_eq]
    rfl
  have hrv : readied s v = if (releaseConfigured (readied s s) f).lineActive 0 = false ∧ (readied s u).lineActive 0 = true then
      lineReported (readied s u) 0 else readied s u := by
    rw [hv, apply_ite (readied s), readied_lineReported hupend]
    rfl
  rw [writeLines_eq]
  change (if !Wire.linesInRange f then _ else written (((releaseConfigured (readied s s) f).changeFaultLine 0
    (s.faultLines[0].configure f.fault0)).changeFaultLine 1 (s.faultLines[1].configure f.fault1))) = _
  rw [changeFaultLines_eq _ _ _ _ _ hru hrv, apply_ite (readied s), readied_lineReported hvpend]
  rfl

theorem burstInRange_iff (b : Byte) : (!Wire.burstInRange b) = true ↔ b.toNat = 0 ∨ 16 < b.toNat := by
  simp only [Wire.burstInRange, Bool.not_and, Bool.or_eq_true, Bool.not_eq_true', decide_eq_false_iff_not, Nat.not_le, Nat.lt_one_iff]

theorem exec_writeTimebase {s : State} (h : LinkReady s) {i : Byte} {n : Fin 2} (hi : i = BitVec.ofNat 8 n.val) (f : TimebaseFields) :
    exec (.writeTableTimebase i f) s =
      .next (finished 0x11#8 (readied s s) ((readied s s).writeTimebase i (if n = 0 then .timeA else .timeB) f)) := by
  subst hi
  rw [exec_immediate h (c := .writeTableTimebase _ f) rfl, writeAt_ofNat (by decide)]

/-- Settles O45, record by record. -/
theorem timebaseLinesBurstWritten : Obligations.TimebaseLinesBurstWritten := by
  unfold Obligations.TimebaseLinesBurstWritten
  refine ⟨?_, ?_⟩
  · rintro b f period t s h rfl hp
    have hexec : exec (.writeTableTimebase (match b with
        | .timeA => 0#8
        | .timeB => 1#8) f) s = .next (finished 0x11#8 (readied s s) ((readied s s).writeTimebase (match b with
          | .timeA => 0#8
          | .timeB => 1#8) b f)) := by
      cases b
      · exact exec_writeTimebase h (n := 0) rfl f
      · exact exec_writeTimebase h (n := 1) rfl f
    refine hexec.trans (congrArg Host.Outcome.next ?_)
    have hperiod : writtenPeriod f = period := (writtenPeriod_eq f).trans hp.symm
    unfold State.writeTimebase
    rw [readied_base, hperiod]
    refine finished_check (timebaseInRange_iff b _ rfl f) fun _ => finished_check ?_ fun _ => ?_
    · rw [Bool.and_eq_true, any_toList_iff]
      simp only [phaseBlocks_iff]
      exact Iff.rfl
    · rw [readied_setBase, TimeBase.written, hperiod]
      rfl
  · rintro f burst s u v h hu hv
    have hexec : exec (.writeTableLines 0#8 f) s = .next (finished 0x11#8 (readied s s) ((readied s s).writeLines f)) := by
      rw [exec_immediate h (c := .writeTableLines 0#8 f) rfl]
      rfl
    rw [hexec, writeLines_readied hu hv]
    refine ⟨fun hr => ?_, fun hr => ?_, ?_⟩
    · rw [if_pos (by simp [hr]), finished_error]
    · rw [if_neg (by simp [hr])]
      rfl
    · rw [exec_immediate h (c := .writeTableMemport 0#8 burst) rfl]
      exact congrArg Host.Outcome.next (finished_check (burstInRange_iff burst) fun _ => rfl)

end Sys2Proof.Machine

/-! PROOFS. The step (R67, R72, R107: one part-clock cycle on an empty queue), and the power-on reset (R20, R39, R105, R168). -/

namespace Sys2Proof.Machine

open Sys2Proof.Safety

/-! ### The step -/

/-- Settles O1. -/
theorem stepRunsFront : Obligations.StepRunsFront := by
  unfold Obligations.StepRunsFront
  intro c rest s h
  unfold step
  rw [h]

theorem step_of_empty {s : State} (h : s.pending = []) : step s = .next s.cycle := by
  unfold step
  rw [h]

/-- R75: no phase match, no candidate. -/
theorem phaseMatches_of_none {s : State} {b : Base} (h : ∀ g, s.phaseMatch b g = false) : s.phaseMatches b = s := by
  unfold State.phaseMatches
  induction groupNumbers with
  | nil => rfl
  | cons g l ih => rw [List.foldl_cons, if_neg (by simp [h g]), ih]

/-- R67: a tick below the mark with no phase match raises the count. -/
theorem tickBase_low {s : State} {b : Base} (hlow : (s.base b).count + 1 < (s.base b).period)
    (hphase : ∀ g : Fin 8, (s.group g).config.trigger = .timed → (s.group g).config.base = b →
      (s.group g).config.phase ≠ (s.base b).count + 1) :
    s.tickBase b = s.setBase b { s.base b with count := (s.base b).count + 1, interval := 0 } := by
  rcases tickBase_cases s b with ⟨-, h⟩ | ⟨hge, -⟩
  · rw [h]
    refine phaseMatches_of_none fun g => ?_
    rw [← Bool.not_eq_true]
    simp only [State.phaseMatch, Bool.and_eq_true, beq_iff_eq, setBase_base, if_true, setBase_group]
    rintro ⟨⟨ht, hb⟩, hp⟩
    exact hphase g ht hb hp
  · omega

/-! ### A cycle of a line at its qualified level -/

/-- R72: a cycle at the qualified level clears the count. -/
theorem cycleReleaseLine_settled {s : State} {n : Fin 4} (h : s.releaseLines[n].pin = s.releaseLines[n].level) :
    s.cycleReleaseLine n = s.setReleaseLine n { s.releaseLines[n] with count := 0 } := by
  unfold State.cycleReleaseLine State.sampleReleaseLine
  rw [if_neg Nat.one_ne_zero, if_pos h]

theorem cycleReleaseLines_settled {s : State} (h : ∀ n : Fin 4, s.releaseLines[n].pin = s.releaseLines[n].level) :
    [0, 1, 2, 3].foldl State.cycleReleaseLine s = { s with releaseLines := s.releaseLines.map fun l => { l with count := 0 } } := by
  have run (l : List (Fin 4)) (v : Vector ReleaseLine 4) (hv : ∀ n : Fin 4, v[n].pin = v[n].level) :
      l.foldl State.cycleReleaseLine { s with releaseLines := v } =
        { s with releaseLines := l.foldl (fun v (n : Fin 4) => v.set n { v[n] with count := 0 }) v } := by
    induction l generalizing v with
    | nil => rfl
    | cons n l ih =>
      rw [List.foldl_cons, List.foldl_cons, cycleReleaseLine_settled (s := { s with releaseLines := v }) (hv n)]
      refine ih _ fun m => ?_
      simp only [Fin.getElem_fin, Vector.getElem_set]
      split
      · exact hv n
      · exact hv m
  refine (run _ s.releaseLines h).trans (congrArg (fun v => { s with releaseLines := v }) ?_)
  ext1 i hi
  interval_cases i <;> simp

/-- R107: a cycle at the qualified level clears the count. -/
theorem cycleFaultLine_settled {s : State} {n : Fin 2} (h : s.faultLines[n].pin = s.faultLines[n].level) :
    s.cycleFaultLine n = s.setFaultLine n { s.faultLines[n] with count := 0 } := by
  unfold State.cycleFaultLine State.sampleFaultLine
  rw [if_neg Nat.one_ne_zero, if_pos h]

theorem cycleFaultLines_settled {s : State} (h : ∀ n : Fin 2, s.faultLines[n].pin = s.faultLines[n].level) :
    [0, 1].foldl State.cycleFaultLine s = { s with faultLines := s.faultLines.map fun l => { l with count := 0 } } := by
  have h1 : (s.setFaultLine 0 { s.faultLines[(0 : Fin 2)] with count := 0 }).faultLines[(1 : Fin 2)] = s.faultLines[(1 : Fin 2)] := by simp
  rw [List.foldl_cons, List.foldl_cons, List.foldl_nil, cycleFaultLine_settled (h 0), cycleFaultLine_settled (by rw [h1]; exact h 1), h1]
  refine congrArg (fun v => { s with faultLines := v }) ?_
  ext1 i hi
  interval_cases i <;> simp

/-! ### One part-clock cycle -/

/-- The bases after a cycle's ticks. -/
def basesTicked (s : State) : State :=
  let s := (s.setBase .timeA s.baseA.cycle).setBase .timeB s.baseB.cycle
  (s.tickIfDue .timeA).tickIfDue .timeB

/-- A cycle in which only the bases tick. -/
theorem cycle_settled {s t : State} (hr : s.inReset = false) (ht : basesTicked s.newCycle = t) (hrl : t.releaseLines = s.releaseLines)
    (hfl : t.faultLines = s.faultLines) (h : ∀ n : Fin 4, s.releaseLines[n].pin = s.releaseLines[n].level)
    (k : ∀ n : Fin 2, s.faultLines[n].pin = s.faultLines[n].level) :
    s.cycle = { t with
      releaseLines := s.releaseLines.map fun l => { l with count := 0 }
      faultLines := s.faultLines.map fun l => { l with count := 0 } } := by
  have hcycle : s.cycle = [0, 1].foldl State.cycleFaultLine ([0, 1, 2, 3].foldl State.cycleReleaseLine t) := by
    subst ht
    exact if_neg (by simp [hr])
  rw [hcycle, cycleReleaseLines_settled (by rw [hrl]; exact h), cycleFaultLines_settled (by rw [hfl]; exact k), hrl, hfl]

theorem tickIfDue_of_not {s : State} {b : Base} (h : (s.base b).running = true → (s.base b).interval < (s.base b).divider) :
    s.tickIfDue b = s := by
  refine if_neg ?_
  simp only [TimeBase.tickDue, Bool.and_eq_true, decide_eq_true_eq, not_and, Nat.not_le]
  exact h

theorem cycle_notDue {t : TimeBase} (h : t.running = true → t.interval + 1 < t.divider) :
    t.cycle.running = true → t.cycle.interval < t.cycle.divider := by
  unfold TimeBase.cycle
  split
  · exact h
  · intro hr
    contradiction

/-- Settles O2: the cycle's ticks, then the lines at their qualified levels. -/
theorem idleQueueCycle : Obligations.IdleQueueCycle := by
  unfold Obligations.IdleQueueCycle
  refine ⟨fun s hp => ⟨fun hr => ?_, fun hr ha hb h k => ?_⟩, fun s hp hr ha hb hdue hlow hphase h k => ?_⟩
  · rw [step_of_empty hp]
    exact congrArg Host.Outcome.next (if_pos hr)
  · have ht : basesTicked s.newCycle = (s.newCycle.setBase .timeA s.baseA.cycle).setBase .timeB s.baseB.cycle := by
      set u := (s.newCycle.setBase .timeA s.baseA.cycle).setBase .timeB s.baseB.cycle
      have hA : u.tickIfDue .timeA = u := tickIfDue_of_not (cycle_notDue ha)
      have hB : u.tickIfDue .timeB = u := tickIfDue_of_not (cycle_notDue hb)
      show (u.tickIfDue .timeA).tickIfDue .timeB = u
      rw [hA, hB]
    rw [step_of_empty hp, cycle_settled hr ht rfl rfl h k]
    rfl
  · have hac : s.baseA.cycle = { s.baseA with interval := s.baseA.interval + 1 } := if_pos ha
    have hbc : s.baseB.cycle = s.baseB := if_neg (by simp [hb])
    have ht : basesTicked s.newCycle = s.newCycle.setBase .timeA { s.baseA with count := s.baseA.count + 1, interval := 0 } := by
      set u := (s.newCycle.setBase .timeA s.baseA.cycle).setBase .timeB s.baseB.cycle with hu
      have hua : u.base .timeA = { s.baseA with interval := s.baseA.interval + 1 } := hac
      have hdueA : u.tickIfDue .timeA = u.tickBase .timeA := if_pos (by simp [TimeBase.tickDue, hua, ha, hdue])
      have htick := tickBase_low (s := u) (b := .timeA) (by rw [hua]; exact hlow) (by rw [hua]; exact hphase)
      show (u.tickIfDue .timeA).tickIfDue .timeB = _
      have hub : (u.base .timeB).running = false := by
        show s.baseB.cycle.running = false
        rw [hbc, hb]
      have hdueB : (u.setBase .timeA { u.base .timeA with count := (u.base .timeA).count + 1, interval := 0 }).tickIfDue .timeB =
          u.setBase .timeA { u.base .timeA with count := (u.base .timeA).count + 1, interval := 0 } := by
        refine tickIfDue_of_not ?_
        rw [setBase_base, if_neg (by decide), hub]
        intro hr
        cases hr
      rw [hdueA, htick, hdueB, hua, hu, hbc]
      rfl
    rw [step_of_empty hp, cycle_settled hr ht rfl rfl h k]
    rfl

/-! ### Power-on reset -/

theorem memoryAbandoned_readByte (s : State) (b : Nat) :
    readByte s.memoryAbandoned b = if ∃ x ∈ s.port.current, b / 4 = x.addr.toNat then none else readByte s.mem b := by
  unfold State.memoryAbandoned
  cases s.port.current with
  | none => simp
  | some x => simp [readByte_forgetWord]

/-- Settles O3: the reset values, RESET_N's rise, and the steps that RESET_N holds back. -/
theorem powerOnReset : Obligations.PowerOnReset := by
  unfold Obligations.PowerOnReset
  refine ⟨fun rp fp s => ⟨s.powerOn, rfl, rfl, rfl, rfl, rfl, _, rfl, ?_, ?_⟩, fun rp fp init tag kind a s => ⟨fun hr => ?_, fun hr => ⟨?_, ?_, ?_⟩⟩⟩
  · have hr : s.powerOn.newCycle.inReset = true := rfl
    have hrl : (s.powerOn.releaseLines.mapFinIdx fun i l _ => l.atEnd (rp.getLsbD i)) = Vector.ofFn fun n : Fin 4 =>
        { edge := .rising, qual := 0, level := rp.getLsbD n.val, count := 0, pin := rp.getLsbD n.val } := by
      ext1 i hi
      simp [State.powerOn, ReleaseLine.atReset, ReleaseLine.atEnd, ReleaseLine.reset, BitVec.getLsbD_eq_getElem hi]
    have hfl : (s.powerOn.faultLines.mapFinIdx fun i l _ => l.atEnd (fp.getLsbD i)) = Vector.ofFn fun n : Fin 2 =>
        { activeHigh := true, qual := 0, level := fp.getLsbD n.val, count := 0, pin := fp.getLsbD n.val } := by
      ext1 i hi
      simp [State.powerOn, FaultLine.atReset, FaultLine.atEnd, FaultLine.reset, BitVec.getLsbD_eq_getElem hi]
    unfold State.powerOnEnd
    rw [if_pos hr, ← hrl, ← hfl]
    rfl
  · intro b
    unfold State.powerOnEnd
    rw [if_pos (show s.powerOn.newCycle.inReset = true from rfl)]
    exact memoryAbandoned_readByte s b
  · exact congrArg Host.Outcome.next (if_neg (by simp [hr]))
  · exact congrArg Host.Outcome.next (if_pos (by simp [State.resetting, hr]))
  · exact congrArg Host.Outcome.next (if_pos (by simp [hr]))
  · exact congrArg Host.Outcome.next (if_pos (by simp [hr]))

/-- Settles O4: each record at its reset value. -/
theorem resetValues : Obligations.ResetValues := by
  unfold Obligations.ResetValues
  have hg (g : Fin 8) : State.reset.group g = Group.reset := by simp [State.group, State.reset]
  have hw (w : Fin 12) : State.reset.watch w = Watch.reset := by simp [State.watch, State.reset]
  have hs (i : Fin 16) : State.reset.slot i = Slot.reset := by simp [State.slot, State.reset, Upstream.reset]
  have hwin (n : Fin 16) : State.reset.windows[n] = Window.reset := by simp [State.reset]
  have hsafe (n : Fin 128) : State.reset.safeTable[n] = SafeEntry.reset := by simp [State.reset]
  refine ⟨fun n => by rw [hwin]; rfl, fun g => ?_, fun n => by rw [hsafe]; rfl, fun w => by rw [hw]; rfl, rfl, rfl, ?_, rfl, rfl, rfl, rfl, rfl,
    rfl, rfl, rfl, rfl, rfl, rfl, rfl, rfl, rfl, fun i => by rw [hs]; rfl, rfl, rfl⟩
  · rw [hg]
    exact ⟨rfl, rfl⟩
  · rfl

end Sys2Proof.Machine

/-! PROOFS. The soft reset (R21, R38, R65, R71, R147, R165, R166): what its taking does at every block, the reports, the completion. -/

namespace Sys2Proof.Machine

open Sys2Proof.Safety

/-! ### The reports (R166) -/

theorem slotNumbers_eq : slotNumbers = List.finRange 16 := by decide

theorem mem_slotNumbers (i : Fin 16) : i ∈ slotNumbers := slotNumbers_eq ▸ List.mem_finRange i

theorem allFree_iff (s : State) : s.allFree = true ↔ ∀ i : Fin 16, (s.slot i).state = .free := by
  simp [State.allFree, mem_slotNumbers]

theorem noProbeInPort_eq (s : State) : s.noProbeInPort = !(s.port.current.any fun t => isProbe t.requester) := by
  unfold State.noProbeInPort
  cases s.port.current with
  | none => rfl
  | some t => cases h : t.requester <;> simp [isProbe, h]

theorem newReports_eq (s : State) : s.newReports = reportsAt s.link.reports s := by
  have hfree : s.allFree = decide (∀ i : Fin 16, (s.slot i).state = .free) := by
    rw [Bool.eq_iff_iff, allFree_iff, decide_eq_true_eq]
  unfold State.newReports reportsAt
  rw [hfree, noProbeInPort_eq]
  rfl

/-- R166, R106: the model's report step is the statements' `reported`. -/
theorem reportBlocks_eq (s : State) : s.reportBlocks = reported s := by
  unfold State.reportBlocks reported State.portReport
  by_cases h : s.link.pending = some .softReset
  · rw [if_pos ((softResetting_iff s).2 h), if_pos h, newReports_eq]
    have hp : ((reportsAt s.link.reports s).port && !s.link.reports.port) = true ↔
        s.link.reports.port = false ∧ s.drain.current = none ∧ s.port.current = none := by
      simp only [reportsAt]
      cases s.link.reports.port <;> simp
    by_cases hc : s.link.reports.port = false ∧ s.drain.current = none ∧ s.port.current = none
    · rw [if_pos (hp.2 hc), if_pos hc]
      rfl
    · rw [if_neg (mt hp.1 hc), if_neg hc]
      rfl
  · rw [if_neg (mt (softResetting_iff s).1 h), if_neg h]

/-! ### The watches at the taking (R147) -/

/-- R147: a watch at the taking of a soft reset. -/
def Watch.atReset (x : Watch) : Watch :=
  { x with state := .disarmed, deferred := false, marks := 0, shadow := 0, probe := x.probe.afterDisarm }

theorem softResetWatch_eq (s : State) (w : Fin 12) :
    s.softResetWatch w = { s with
      watches := s.watches.set w (s.watch w).atReset
      port := { s.port with
        service := if (s.watch w).probe = .raised then s.port.service.filter (fun r => r != .probe w) else s.port.service } } := by
  have hw (y : Watch) : (s.setWatch w y).watch w = y := by rw [setWatch_watch, if_pos rfl]
  unfold State.softResetWatch State.disarmWatch
  dsimp only
  split
  · show ((s.setWatch w _).withdrawProbe w).setWatch w { (s.setWatch w _).watch w with shadow := 0 } = _
    rw [hw]
    simp only [State.setWatch, State.withdrawProbe, State.setPort, Vector.set_set]
    rfl
  · rw [hw]
    simp only [State.setWatch, Vector.set_set]
    rfl

theorem foldl_softResetWatch (l : List (Fin 12)) (hl : l.Nodup) (s : State) :
    ∃ v q, l.foldl State.softResetWatch s = { s with watches := v, port := { s.port with service := q } } ∧
      ∀ w : Fin 12, v[w] = if w ∈ l then (s.watch w).atReset else s.watch w := by
  induction l generalizing s with
  | nil => exact ⟨s.watches, s.port.service, rfl, fun w => by simp [State.watch]⟩
  | cons a l ih =>
    obtain ⟨ha, hl⟩ := List.nodup_cons.1 hl
    have hq := softResetWatch_eq s a
    have hwa (w : Fin 12) : (s.softResetWatch a).watch w = if a = w then (s.watch a).atReset else s.watch w := by
      rw [hq]
      exact setWatch_watch s a w _
    obtain ⟨v, r, hv, hw⟩ := ih hl (s.softResetWatch a)
    refine ⟨v, r, by rw [List.foldl_cons, hv, hq], fun w => ?_⟩
    rw [hw w, hwa]
    by_cases h : a = w
    · subst h; simp [ha]
    · simp [h, Ne.symm h]

/-! ### The taking (R165) -/

/-- R165: `u` is the state after the taking of SOFT_RESET in `s`, before the blocks report. -/
structure ResetTaken (s u : State) : Prop where
  link : u.link = { s.link with
    pending := some .softReset, result := { status := .pending, echo := 0x7F#8, data := [] }, choice := .slot,
    reports := BlockReports.reset }
  upstream : u.upstream = { s.upstream with slots := s.upstream.slots.map Slot.softReset, passQueue := [], holdList := [] }
  windows : u.windows = s.windows
  group : ∀ g, u.group g = s.groupAtReset g
  freeSlots : u.freeSlots = s.freeSlots + ∑ g : Fin 8, (s.group g).discardable
  baseA : u.baseA = s.baseA.softReset
  baseB : u.baseB = s.baseB.softReset
  releaseLines : u.releaseLines = s.releaseLines
  faultLines : u.faultLines = s.faultLines
  releaseQueue : u.releaseQueue = []
  drain : u.drain = { s.drain with clearanceWait := u.drain.clearanceWait }
  port : u.port = { s.port with service := u.port.service }
  safeTable : u.safeTable = s.safeTable
  watch : ∀ w, u.watch w = (s.watch w).atReset
  events : u.events = s.events
  mem : u.mem = s.mem

theorem softResetBody_spec (s : State) : ∃ u, ResetTaken s u ∧ softResetBody s = (reported u).tryComplete := by
  set v : State := (s.makePending .softReset).setLink { (s.makePending .softReset).link with reports := BlockReports.reset }
  obtain ⟨gs, n, hb, hg, hn⟩ := softResetBlocks_spec v
  obtain ⟨ws, q, hw, hws⟩ := foldl_softResetWatch watchNumbers watchNumbers_nodup { v.softResetSlots with
    groups := gs, freeSlots := n, releaseQueue := [], baseA := v.baseA.softReset, baseB := v.baseB.softReset }
  obtain ⟨cw, hc, -⟩ := reportClearance_spec v.softResetBlocks
  refine ⟨v.softResetBlocks.reportClearance, ?_, by rw [← reportBlocks_eq]; rfl⟩
  rw [hc, hb, hw]
  exact {
    link := rfl, upstream := rfl, windows := rfl, group := hg, freeSlots := hn, baseA := rfl, baseB := rfl, releaseLines := rfl,
    faultLines := rfl, releaseQueue := rfl, drain := rfl, port := rfl, safeTable := rfl
    watch := fun w => by
      have := hws w
      rw [if_pos (mem_watchNumbers w)] at this
      exact this
    events := rfl, mem := rfl }

/-! ### The completion (R166) -/

/-- R166, R178: what the completion leaves. -/
theorem completeReset_eq (s : State) :
    s.completeReset = { s with
      groups := s.groups.map Group.softResetDone
      events := {
        records := [{ body := .partReset s.events.records.length, stampCount := s.baseA.count, stampIndex := s.baseA.periodIndex,
                      lost := s.events.lost }]
        lost := 0 }
      link := { s.link with pending := none, result := { status := .ok, echo := 0x7F#8, data := [] } } } := by
  have hstore (u : State) (b : EventBody) (h : u.events.records = []) : u.store b = u.setEvents { records := [u.stamped b], lost := 0 } := by
    unfold State.store
    rw [h]
    rfl
  unfold State.completeReset State.partReset
  rw [hstore _ _ rfl]
  rfl

theorem allReported_iff (s : State) :
    s.allReported = true ↔ s.link.reports = { upstream := true, drain := true, port := true, watches := true } := by
  unfold State.allReported
  cases s.link.reports
  simp [and_assoc]

theorem tryComplete_of_done {s : State} (hp : s.link.pending = some .softReset)
    (hr : s.link.reports = { upstream := true, drain := true, port := true, watches := true }) : s.tryComplete = s.completeReset :=
  if_pos (by rw [Bool.and_eq_true]; exact ⟨(softResetting_iff s).2 hp, (allReported_iff s).2 hr⟩)

theorem tryComplete_of_not {s : State} (h : s.link.pending ≠ some .softReset ∨
    s.link.reports ≠ { upstream := true, drain := true, port := true, watches := true }) : s.tryComplete = s := by
  refine if_neg ?_
  rw [Bool.and_eq_true, softResetting_iff, allReported_iff, not_and_or]
  exact h

/-- R166: the completion touches the groups' counters, the event queue and the link. -/
theorem tryComplete_frame (s : State) :
    ∃ gs e l, s.tryComplete = { s with groups := gs, events := e, link := l } ∧
      ∀ g : Fin 8, gs[g] = s.group g ∨ gs[g] = (s.group g).softResetDone := by
  unfold State.tryComplete
  split
  · rw [completeReset_eq]
    exact ⟨_, _, _, rfl, fun g => .inr (by simp [State.group])⟩
  · exact ⟨s.groups, s.events, s.link, rfl, fun g => .inl rfl⟩

/-! ### SOFT_RESET -/

theorem exec_softReset {s : State} (h : LinkReady s) : exec .softReset s = .next (softResetBody (readied s s)) :=
  congrArg Host.Outcome.next (command_ready h 0x7F#8 softResetBody)

/-- R21: a slot is FREE after the taking exactly where it was. -/
theorem softReset_free_iff (x : Slot) : x.softReset.state = .free ↔ x.state = .free := by
  obtain ⟨state, _, _, _, _, prepared, _⟩ := x
  rcases prepared with - | ⟨r, - | -⟩ <;> cases state <;> simp [Slot.softReset]

namespace ResetTaken

variable {s u : State} (h : ResetTaken s u)
include h

theorem slot (i : Fin 16) : u.slot i = (s.slot i).softReset := by
  simp [State.slot, h.upstream]

theorem free_iff (i : Fin 16) : (u.slot i).state = .free ↔ (s.slot i).state = .free := by
  rw [h.slot, softReset_free_iff]

theorem current : u.drain.current = s.drain.current := by rw [h.drain]

theorem portCurrent : u.port.current = s.port.current := by rw [h.port]

theorem reports : reportsAt u.link.reports u = reportsAt BlockReports.reset s := by
  rw [h.link]
  unfold reportsAt
  simp only [h.free_iff, h.current, h.portCurrent]

/-- R166: all four blocks report at once exactly where nothing is under way. -/
theorem allReported_iff :
    reportsAt u.link.reports u = { upstream := true, drain := true, port := true, watches := true } ↔
      (∀ i : Fin 16, (s.slot i).state = .free) ∧ s.drain.current = none ∧ s.port.current = none := by
  rw [h.reports]
  simp only [reportsAt, BlockReports.reset, Bool.false_or, BlockReports.mk.injEq, decide_eq_true_eq, Bool.and_eq_true,
    Option.isNone_iff_eq_none, Bool.not_eq_true']
  constructor
  · rintro ⟨hf, hd, ⟨-, hp⟩, -⟩
    exact ⟨hf, hd, hp⟩
  · rintro ⟨hf, hd, hp⟩
    exact ⟨hf, hd, ⟨hd, hp⟩, by rw [hp]; rfl⟩

theorem reported_eq :
    reported u = { u with
      link := { u.link with reports := reportsAt BlockReports.reset s }
      port := if s.drain.current = none ∧ s.port.current = none then { u.port with turn := .drain, run := 0 } else u.port } := by
  have hp : u.link.pending = some .softReset := by rw [h.link]
  have hr : u.link.reports.port = false := by rw [h.link]; rfl
  unfold reported
  rw [if_pos hp, h.reports, hr, h.current, h.portCurrent]
  simp only [true_and]

end ResetTaken

/-- R21: a slot at the taking of a soft reset, as the statement says it. -/
theorem softResetTaken_slot (x : Slot) :
    x.softReset = match x.state, x.prepared with
      | .free, _ => x
      | .performing, _ => x
      | .answering, some { response := _, performed := true } => x
      | _, _ => { x with
          state := .answering, snapshot := none, returnMark := none, prepared := some { response := .error .reset, performed := false } } := by
  obtain ⟨state, _, _, _, _, prepared, _⟩ := x
  rcases prepared with - | ⟨r, - | -⟩ <;> cases state <;> rfl

/-- R38: the state a group takes, as the statement says it. -/
theorem softResetState_eq (s : State) (g : Fin 8) :
    s.softResetState g = if (s.group g).draining then (if (s.group g).state = .safing then .safing else .stopping)
      else if s.drain.current = some (.safe g) ∧ s.drain.progress = .writing then .safing else .off := by
  simp only [State.softResetState, State.safeWriting, Bool.and_eq_true, beq_iff_eq]

/-- The state after SOFT_RESET's frame, from the state after its taking. -/
theorem softResetTaken_fields {s u t : State} (h : ResetTaken s u) (ht : t = (reported u).tryComplete) :
    (if s.drain.current = none ∧ s.port.current = none then t.port.turn = .drain ∧ t.port.run = 0
      else t.port.turn = s.port.turn ∧ t.port.run = s.port.run) ∧
    t.releaseQueue = [] ∧ t.upstream = u.upstream ∧ t.port.current = s.port.current ∧ t.port.burst = s.port.burst ∧
    t.drain = u.drain ∧ (∀ g, t.group g = u.group g ∨ t.group g = (u.group g).softResetDone) ∧ (∀ w, t.watch w = (s.watch w).atReset) := by
  obtain ⟨gs, e, l, hc, hg⟩ := tryComplete_frame (reported u)
  have hport : t.port = if s.drain.current = none ∧ s.port.current = none then { u.port with turn := .drain, run := 0 } else u.port := by
    rw [ht, hc, h.reported_eq]
  refine ⟨?_, ?_, ?_, ?_, ?_, ?_, fun g => ?_, fun w => ?_⟩
  · rw [hport]
    split
    · exact ⟨rfl, rfl⟩
    · rw [h.port]
      exact ⟨rfl, rfl⟩
  · rw [ht, hc, h.reported_eq]
    exact h.releaseQueue
  · rw [ht, hc, h.reported_eq]
  · rw [hport, ← h.portCurrent]
    split <;> rfl
  · rw [hport, h.port]
    split <;> rfl
  · rw [ht, hc, h.reported_eq]
  · have hr : (reported u).group g = u.group g := by rw [h.reported_eq]; rfl
    rw [ht, hc, ← hr]
    exact hg g
  · rw [ht, hc, h.reported_eq]
    exact h.watch w

/-- R165: SOFT_RESET in general. -/
theorem softReset_taken (s : State) (hl : LinkReady s) :
    Reaches (exec .softReset s) fun t =>
      (if (∀ i : Fin 16, (s.slot i).state = .free) ∧ s.drain.current = none ∧ s.port.current = none then
        t.link.pending = none ∧ t.link.result = { status := .ok, echo := 0x7F#8, data := [] }
       else
        t.link.pending = some .softReset ∧ t.link.result = { status := .pending, echo := 0x7F#8, data := [] } ∧
        t.link.reports = reportsAt { upstream := false, drain := false, port := false, watches := false } s) := by
  obtain ⟨u, h, ht⟩ := softResetBody_spec (readied s s)
  refine ⟨_, (exec_softReset hl).trans (congrArg _ ht), ?_⟩
  have hpend : (reported u).link.pending = some .softReset := by rw [h.reported_eq, h.link]
  have hrep : (reported u).link.reports = reportsAt BlockReports.reset s := by
    rw [h.reported_eq]
    rfl
  have hall := h.allReported_iff
  rw [h.reports] at hall
  split
  · rename_i hc
    rw [tryComplete_of_done hpend (hrep.trans (hall.2 hc)), completeReset_eq]
    exact ⟨rfl, rfl⟩
  · rename_i hc
    rw [tryComplete_of_not (.inr fun e => hc (hall.1 (hrep.symm.trans e)))]
    exact ⟨hpend, by rw [h.reported_eq, h.link], hrep⟩

end Sys2Proof.Machine

/-! PROOFS. What the drain engine's operations and the arbiter leave alone, said once each, and the rest of the soft reset (R166). -/

namespace Sys2Proof.Machine

open Sys2Proof.Safety

/-! ### The engine's operations -/

/-- `t` is `s` but for the groups, the free list, the two queues, the watches, the service list and the engine's progress and counts. -/
def EngineOnly (s t : State) : Prop :=
  ∃ gs n q e ws l d, d.current = s.drain.current ∧ d.clearanceWait = s.drain.clearanceWait ∧
    t = { s with groups := gs, freeSlots := n, releaseQueue := q, events := e, watches := ws, port := { s.port with service := l }, drain := d }

namespace EngineOnly

variable {s t u : State}

@[refl] theorem refl (s : State) : EngineOnly s s := ⟨_, _, _, _, _, _, _, rfl, rfl, rfl⟩

theorem trans (h : EngineOnly s t) (k : EngineOnly t u) : EngineOnly s u := by
  obtain ⟨_, _, _, _, _, _, _, hc, hw, rfl⟩ := h
  obtain ⟨_, _, _, _, _, _, _, kc, kw, rfl⟩ := k
  exact ⟨_, _, _, _, _, _, _, kc.trans hc, kw.trans hw, rfl⟩

theorem of_watchesOnly (h : WatchesOnly s t) : EngineOnly s t := by
  obtain ⟨_, _, _, _, _, _, rfl⟩ := h
  exact ⟨_, _, _, _, _, _, _, rfl, rfl, rfl⟩

theorem of_groupsOnly (h : GroupsOnly s t) : EngineOnly s t := of_watchesOnly h.watchesOnly

theorem of_setDrain {d : Drain} (hc : d.current = s.drain.current) (hw : d.clearanceWait = s.drain.clearanceWait) :
    EngineOnly s (s.setDrain d) := ⟨_, _, _, _, _, _, _, hc, hw, rfl⟩

theorem upstream (h : EngineOnly s t) : t.upstream = s.upstream := by
  obtain ⟨_, _, _, _, _, _, _, -, -, rfl⟩ := h
  rfl

theorem windows (h : EngineOnly s t) : t.windows = s.windows := by
  obtain ⟨_, _, _, _, _, _, _, -, -, rfl⟩ := h
  rfl

theorem link (h : EngineOnly s t) : t.link = s.link := by
  obtain ⟨_, _, _, _, _, _, _, -, -, rfl⟩ := h
  rfl

theorem mem (h : EngineOnly s t) : t.mem = s.mem := by
  obtain ⟨_, _, _, _, _, _, _, -, -, rfl⟩ := h
  rfl

theorem portCurrent (h : EngineOnly s t) : t.port.current = s.port.current := by
  obtain ⟨_, _, _, _, _, _, _, -, -, rfl⟩ := h
  rfl

theorem drainCurrent (h : EngineOnly s t) : t.drain.current = s.drain.current := by
  obtain ⟨_, _, _, _, _, _, _, hc, -, rfl⟩ := h
  exact hc

theorem clearanceWait (h : EngineOnly s t) : t.drain.clearanceWait = s.drain.clearanceWait := by
  obtain ⟨_, _, _, _, _, _, _, -, hw, rfl⟩ := h
  exact hw

end EngineOnly

theorem retire_engineOnly (s : State) (g : Fin 8) (b : Batch) : EngineOnly s (s.retire g b) :=
  .trans (.of_setDrain (by rfl) (by rfl)) (.of_watchesOnly (retire_watchesOnly s g b))

theorem completeSafe_engineOnly (s : State) (g : Fin 8) : EngineOnly s (s.completeSafe g) :=
  .trans (.of_setDrain (by rfl) (by rfl)) (.of_groupsOnly (completeSafe_groupsOnly s g))

theorem advanceSafe_engineOnly (s : State) (g : Fin 8) (n : Nat) : EngineOnly s (s.advanceSafe g n) := by
  obtain ⟨k, -, h⟩ | ⟨-, h⟩ := advanceSafe_cases s g n <;> rw [h]
  · exact .of_setDrain (by rfl) (by rfl)
  · exact completeSafe_engineOnly s g

theorem startBatch_engineOnly (s : State) (g : Fin 8) : EngineOnly s (s.startBatch g) := by
  unfold State.startBatch
  split
  · exact .refl s
  · dsimp only
    have h (x : Group) (d : Drain) (hc : d.current = s.drain.current) (hw : d.clearanceWait = s.drain.clearanceWait) :
        EngineOnly s ((s.setGroup g x).setDrain d) := .trans (.of_groupsOnly (setGroup_groupsOnly s g x)) (.of_setDrain hc hw)
    split
    · exact .trans (h _ _ (by rfl) (by rfl)) (retire_engineOnly _ _ _)
    · exact h _ _ rfl rfl

theorem entryWritten_engineOnly (s : State) (g : Fin 8) (error : Bool) : EngineOnly s (s.entryWritten g error) := by
  unfold State.entryWritten
  dsimp only
  split
  · exact .refl s
  · split
    · exact .refl s
    · have h (x : Group) (n : Nat) : EngineOnly s ((s.setGroup g x).setFreeSlots n) :=
        .of_groupsOnly ((setGroup_groupsOnly s g x).trans (setFreeSlots_groupsOnly _ n))
      split
      · exact .trans (h _ _) (retire_engineOnly _ _ _)
      · exact h _ _

theorem drainPerformed_engineOnly (s : State) (error : Bool) : EngineOnly s (s.drainPerformed error) := by
  unfold State.drainPerformed
  split
  · exact entryWritten_engineOnly s _ error
  · exact .trans (.of_setDrain (by rfl) (by rfl)) (advanceSafe_engineOnly _ _ _)
  · exact .refl s

/-- R87: what the taking of an item does, from its start on. -/
theorem takeItem_engineOnly (s : State) (it : Item) : EngineOnly ((s.makeCurrent it).holdAtStart it.group) (s.takeItem it) := by
  unfold State.takeItem
  dsimp only
  split
  · exact startBatch_engineOnly _ _
  · exact advanceSafe_engineOnly _ _ _

/-! ### The link through the other units' steps -/

theorem takeItem_link (s : State) (it : Item) : (s.takeItem it).link = s.link := by
  obtain ⟨u, hu⟩ := holdAtStart_eq (s.makeCurrent it) it.group
  rw [(takeItem_engineOnly s it).link, hu]
  rfl

theorem decideItem_link (s : State) : s.decideItem.link = s.link := by
  unfold State.decideItem
  split
  · rfl
  · split
    · exact takeItem_link s _
    · rfl

/-- R1: what the taking of a request touches. -/
theorem upstreamRequest_requestsOnly (s : State) (init tag : BitVec 2) (kind : ReqKind) (a : WordAddr) :
    RequestsOnly s (s.upstreamRequest init tag kind a) := by
  unfold State.upstreamRequest
  split
  · exact .setUpstream s _
  · split
    · exact .setUpstream s _
    · unfold State.takeRequest State.decodeTaken
      set u := ((s.setIndication .taken).setSlot (slotOf init tag) (Slot.taken kind a s.upstream.nextOrder)).setNextOrder
        (s.upstream.nextOrder + 1)
      have hu : RequestsOnly s u := .setUpstream s u.upstream
      refine hu.trans ?_
      split
      · exact .setUpstream _ _
      · dsimp only
        split
        · exact (follow_requestsOnly _ _ _).trans (.setUpstream _ _)
        · exact follow_requestsOnly _ _ _

/-- R102: a grant touches the port, the request that is granted, and a probe's watch. -/
theorem arbitrate_eq (s : State) :
    ∃ u p ws, s.arbitrate = { s with upstream := u, port := p, watches := ws } := by
  rcases arbitrate_cases s with h | ⟨-, -, ⟨-, h⟩ | ⟨-, h⟩ | ⟨-, h⟩⟩ <;> rw [h]
  · exact ⟨_, _, _, rfl⟩
  · unfold State.grantDrain
    split <;> exact ⟨_, _, _, rfl⟩
  · unfold State.grantPass
    split <;> exact ⟨_, _, _, rfl⟩
  · unfold State.grantService
    split
    · exact ⟨_, _, _, rfl⟩
    · rename_i r _
      cases r <;> exact ⟨_, _, _, rfl⟩

theorem arbitrate_link (s : State) : s.arbitrate.link = s.link := by
  obtain ⟨_, _, _, h⟩ := arbitrate_eq s
  rw [h]

/-! ### Properties of the request side and of the watches -/

/-- `t` has the upstream port, the windows, the drain engine, the memory port, the watches, the memory and the pending command of `s`. -/
structure Peripheral (s t : State) : Prop where
  upstream : t.upstream = s.upstream
  windows : t.windows = s.windows
  drain : t.drain = s.drain
  port : t.port = s.port
  watches : t.watches = s.watches
  mem : t.mem = s.mem
  linkPending : t.link.pending = s.link.pending
  reports : t.link.reports = s.link.reports

theorem GroupsOnly.peripheral {s t : State} (h : GroupsOnly s t) : Peripheral s t :=
  ⟨h.upstream, h.windows, h.drain, h.port, h.watches, h.mem, by rw [h.link], by rw [h.link]⟩

/-- The property does not depend on the groups, the queues, the bases, the lines and the link's frames and results, and is kept by what
each command does elsewhere. -/
structure CoreKept (C : Instr → Prop) (P : State → Prop) : Prop where
  peripheral : ∀ s t, Peripheral s t → P s → P t
  newCycle : ∀ s, P s → P s.newCycle
  settleMarkAt : ∀ s w, P s → P (s.settleMarkAt w)
  upstreamRequest : ∀ s init tag kind addr, P s → P (s.upstreamRequest init tag kind addr)
  issueResponse : ∀ s init tag, C (.responseIssue init tag) → P s → P (s.issueResponse init tag)
  arbitrate : ∀ s, P s → P s.arbitrate
  performed : ∀ s error rdata, C (.transactionPerformed error rdata) → P s → P (s.performed error rdata)
  decideItem : ∀ s, P s → P s.decideItem
  endItem : ∀ s, C .endReport → P s → P s.endItem
  writeWindow : ∀ n f, Takes P (fun s => s.writeWindow n f)
  writeWatch : ∀ w f, Takes P (fun s => s.writeWatch w f)
  writeMemport : ∀ b, Takes P (fun s => s.writeMemport b)
  arm : ∀ w, Takes P (fun s => s.arm w)
  disarm : ∀ w, Takes P (fun s => s.disarm w)
  newReference : ∀ r m w, Takes P (fun s => s.newReference r m w)
  startPeek : ∀ a s t, s.link.pending = none → P s → State.startPeek a s = .ok t → P t
  startPoke : ∀ a d m s t, s.link.pending = none → P s → State.startPoke a d m s = .ok t → P t
  softReset : ∀ s, s.link.pending = none → P s → P (softResetBody s)
  tryComplete : ∀ s, C .softResetComplete → P s → P s.tryComplete
  powerOn : ∀ s, C .powerOnReset → P s → P s.powerOn

/-- An immediate command that touches the groups alone. -/
def GroupCommand (f : State → CommandResult) : Prop := ∀ s data t, f s = .ok (data, t) → Peripheral s t

theorem GroupCommand.takes {C : Instr → Prop} {P : State → Prop} (h : CoreKept C P) {f : State → CommandResult} (hf : GroupCommand f) :
    Takes P f := fun s d t _ hs hok => h.peripheral s t (hf s d t hok) hs

theorem startGroup_groupCommand (g : Fin 8) : GroupCommand (fun s => s.startGroup g) := by
  intro s d t hok
  dsimp only [State.startGroup] at hok
  repeat' split at hok
  all_goals cases hok
  exact (setGroup_groupsOnly _ _ _).peripheral

theorem writeGroup_groupCommand (g : Fin 8) (f : GroupFields) : GroupCommand (fun s => s.writeGroup g f) := by
  intro s d t hok
  dsimp only [State.writeGroup, written] at hok
  repeat' split at hok
  all_goals cases hok
  exact (setGroup_groupsOnly _ _ _).peripheral

theorem writeSafe_groupCommand (n : Fin 128) (f : SafeFields) : GroupCommand (fun s => s.writeSafe n f) := by
  intro s d t hok
  dsimp only [State.writeSafe, written] at hok
  repeat' split at hok
  all_goals cases hok
  exact ⟨rfl, rfl, rfl, rfl, rfl, rfl, rfl, rfl⟩

theorem pop_groupCommand : GroupCommand State.pop := by
  intro s d t hok
  dsimp only [State.pop] at hok
  split at hok <;> cases hok
  · exact ⟨rfl, rfl, rfl, rfl, rfl, rfl, rfl, rfl⟩
  · exact (setEvents_groupsOnly _ _).peripheral

theorem stopNow_groupsOnly (s : State) (g : Fin 8) (o : StopOption) : GroupsOnly s (s.stopNow g o) :=
  (setGroup_groupsOnly _ _ _).trans (submit_groupsOnly _ _)

theorem stopDiscard_groupsOnly (s : State) (g : Fin 8) : GroupsOnly s (s.stopDiscard g) := by
  refine (discardBatches_groupsOnly s g).trans ?_
  unfold State.stopDiscard
  dsimp only
  split
  · exact setGroup_groupsOnly _ _ _
  · exact stopNow_groupsOnly _ _ _

theorem stopFlush_groupsOnly (s : State) (g : Fin 8) : GroupsOnly s (s.stopFlush g) := by
  refine (setGroup_groupsOnly s g { s.group g with state := .stopping, stopOption := .flush }).trans ?_
  unfold State.stopFlush
  dsimp only
  split
  · exact sealOpen_groupsOnly _ _ _
  · split
    · exact (setGroup_groupsOnly _ _ _).trans (queueOther_groupsOnly _ _)
    · exact setGroup_groupsOnly _ _ _

theorem groupStopDiscard_groupCommand (g : Fin 8) : GroupCommand (fun s => s.groupStopDiscard g) := by
  intro s d t hok
  dsimp only [State.groupStopDiscard] at hok
  split at hok <;> cases hok
  · exact (stopDiscard_groupsOnly s g).peripheral
  · exact (stopDiscard_groupsOnly s g).peripheral
  · exact (stopNow_groupsOnly s g _).peripheral

theorem groupStopFlush_groupCommand (g : Fin 8) : GroupCommand (fun s => s.groupStopFlush g) := by
  intro s d t hok
  dsimp only [State.groupStopFlush] at hok
  split at hok <;> cases hok
  · exact (stopFlush_groupsOnly s g).peripheral
  · exact (GroupsOnly.refl s).peripheral
  · exact (stopNow_groupsOnly s g _).peripheral

theorem sealGroup_groupCommand (g : Fin 8) : GroupCommand (fun s => s.sealGroup g) := by
  intro s d t hok
  dsimp only [State.sealGroup] at hok
  split at hok <;> cases hok
  exact (sealRequest_groupsOnly s g _).peripheral

theorem releaseGroup_groupCommand (g : Fin 8) : GroupCommand (fun s => s.releaseGroup g) := by
  intro s d t hok
  dsimp only [State.releaseGroup] at hok
  split at hok <;> cases hok
  exact (releasePoint_groupsOnly s g).peripheral

theorem forceFault_groupCommand (g : Fin 8) : GroupCommand (fun s => s.forceFault g) := by
  intro s d t hok
  dsimp only [State.forceFault] at hok
  split at hok <;> cases hok <;> exact (tripSource_groupsOnly s g _).peripheral

theorem clearFault_groupCommand (g : Fin 8) (force : Bool) : GroupCommand (fun s => s.clearFault g force) := by
  intro s d t hok
  dsimp only [State.clearFault, State.clearFaulted] at hok
  repeat' split at hok
  all_goals cases hok
  exact (clearGroup_groupsOnly s g _ _).peripheral

/-- The bases and the lines are none of its business. -/
theorem setBase_peripheral (s : State) (b : Base) (x : TimeBase) : Peripheral s (s.setBase b x) := by
  cases b <;> exact ⟨rfl, rfl, rfl, rfl, rfl, rfl, rfl, rfl⟩

theorem CoreKept.schedulerClosed {C : Instr → Prop} {P : State → Prop} (h : CoreKept C P) : SchedulerClosed P where
  setBase s b x := h.peripheral _ _ (setBase_peripheral s b x)
  setReleaseLine s n x := h.peripheral _ _ ⟨rfl, rfl, rfl, rfl, rfl, rfl, rfl, rfl⟩
  setFaultLine s n x := h.peripheral _ _ ⟨rfl, rfl, rfl, rfl, rfl, rfl, rfl, rfl⟩
  candidate s g := h.peripheral _ _ (candidate_groupsOnly s g).peripheral
  tripSource s g x := h.peripheral _ _ (tripSource_groupsOnly s g x).peripheral
  settleMarks s b hs := by
    have hfold := foldl_keeps (P := P) (f := fun s w =>
      if (s.watch w).settleBase = b && (s.watch w).marks != 0 then s.settleMarkAt w else s) (fun s w hs => by
        split
        · exact h.settleMarkAt s w hs
        · exact hs) watchNumbers s hs
    exact h.peripheral _ _ (setReleaseQueue_groupsOnly _ (inGroupOrder s.releaseQueue _)).peripheral hfold
  newCycle := h.newCycle

/-- A property of the request side and of the watches is kept by every command that its units' operations keep. -/
theorem CoreKept.kept {C : Instr → Prop} {P : State → Prop} (h : CoreKept C P) : KeptBy C P where
  pending s q := h.peripheral _ _ ⟨rfl, rfl, rfl, rfl, rfl, rfl, rfl, rfl⟩
  newCycle := h.newCycle
  setLink s l hp hr := h.peripheral _ _ ⟨rfl, rfl, rfl, rfl, rfl, rfl, hp, hr⟩
  upstreamRequest := h.upstreamRequest
  issueResponse := h.issueResponse
  arbitrate := h.arbitrate
  performed := h.performed
  decideItem := h.decideItem
  endItem := h.endItem
  tickBase _ b := h.schedulerClosed.tickBase b
  mark _ b := h.schedulerClosed.mark b
  settleMarkAt := h.settleMarkAt
  sampleReleaseLine _ n high c := h.schedulerClosed.sampleReleaseLine n high c
  sampleFaultLine _ n high c := h.schedulerClosed.sampleFaultLine n high c
  cycle _ := h.schedulerClosed.cycle
  writeWindow := h.writeWindow
  writeGroup g f := (writeGroup_groupCommand g f).takes h
  writeSafe n f := (writeSafe_groupCommand n f).takes h
  writeWatch := h.writeWatch
  writeTimebase i b f _ _ := h.schedulerClosed.writeTimebase i b f
  writeLines f := h.schedulerClosed.writeLines f
  writeMemport := h.writeMemport
  startGroup g := (startGroup_groupCommand g).takes h
  groupStopDiscard g := (groupStopDiscard_groupCommand g).takes h
  groupStopFlush g := (groupStopFlush_groupCommand g).takes h
  sealGroup g := (sealGroup_groupCommand g).takes h
  releaseGroup g := (releaseGroup_groupCommand g).takes h
  clearCounters s g := h.peripheral _ _ (setGroup_groupsOnly s g _).peripheral
  forceFault g := (forceFault_groupCommand g).takes h
  clearFault g force := (clearFault_groupCommand g force).takes h
  arm := h.arm
  disarm := h.disarm
  newReference := h.newReference
  startBase b := h.schedulerClosed.controlBases b _ _
  stopBase b := h.schedulerClosed.controlBases b _ _
  zeroBase b := h.schedulerClosed.controlBases b _ _
  pop := pop_groupCommand.takes h
  startPeek := h.startPeek
  startPoke := h.startPoke
  softReset := h.softReset
  tryComplete := h.tryComplete
  powerOn := h.powerOn
  powerOnEnd s r f hs := by
    unfold State.powerOnEnd
    split
    · exact h.peripheral s _ ⟨rfl, rfl, rfl, rfl, rfl, rfl, rfl, rfl⟩ hs
    · exact hs

/-! ### A soft reset in progress (R166) -/

/-- R166: the steps of a soft reset that may report or complete it. -/
def mayReport : Instr → Prop
  | .responseIssue _ _ => True
  | .transactionPerformed _ _ => True
  | .endReport => True
  | .softResetComplete => True
  | .powerOnReset => True
  | _ => False

/-- R166: every other step leaves the link's pending command and reports. -/
theorem resetPending_kept (r : BlockReports) :
    CoreKept (fun c => ¬ mayReport c) (fun s => s.link.pending = some .softReset ∧ s.link.reports = r) := by
  have busy {s : State} (hp : s.link.pending = none) (h : s.link.pending = some .softReset ∧ s.link.reports = r) : False := by
    simp [hp] at h
  exact {
    peripheral := fun s t ht h => by rw [ht.linkPending, ht.reports]; exact h
    newCycle := fun _ h => h
    settleMarkAt := fun s w h => by rw [(settleMarkAt_watchesOnly s w).link]; exact h
    upstreamRequest := fun s i t k a h => by rw [(upstreamRequest_requestsOnly s i t k a).link]; exact h
    issueResponse := fun _ _ _ hc => absurd trivial hc
    arbitrate := fun s h => by rw [arbitrate_link]; exact h
    performed := fun _ _ _ hc => absurd trivial hc
    decideItem := fun s h => by rw [decideItem_link]; exact h
    endItem := fun _ hc => absurd trivial hc
    writeWindow := fun _ _ _ _ _ hp h _ => (busy hp h).elim
    writeWatch := fun _ _ _ _ _ hp h _ => (busy hp h).elim
    writeMemport := fun _ _ _ _ hp h _ => (busy hp h).elim
    arm := fun _ _ _ _ hp h _ => (busy hp h).elim
    disarm := fun _ _ _ _ hp h _ => (busy hp h).elim
    newReference := fun _ _ _ _ _ _ hp h _ => (busy hp h).elim
    startPeek := fun _ _ _ hp h _ => (busy hp h).elim
    startPoke := fun _ _ _ _ _ hp h _ => (busy hp h).elim
    softReset := fun _ hp h => (busy hp h).elim
    tryComplete := fun _ hc => absurd trivial hc
    powerOn := fun _ hc => absurd trivial hc }

end Sys2Proof.Machine

/-! PROOFS. The statements about the soft reset (R165, R166). -/

namespace Sys2Proof.Machine

open Sys2Proof.Safety

/-! ### What a step of a soft reset does to its reports -/

/-- R166: the reports depend on the slots, the engine's item and the port's transaction, which making them leaves. -/
theorem reportsAt_reported (r : BlockReports) (s : State) : reportsAt r (reported s) = reportsAt r s := by
  unfold reported
  split
  · unfold reportsAt
    dsimp only
    split <;> rfl
  · rfl

theorem reported_link {s : State} (h : s.link.pending = some .softReset) :
    (reported s).link = { s.link with reports := reportsAt s.link.reports s } := by
  unfold reported
  rw [if_pos h]

theorem reportClearance_link (s : State) : s.reportClearance.link = s.link := by
  obtain ⟨_, h, -⟩ := reportClearance_spec s
  rw [h]
  rfl

theorem passPerformed_requestsOnly (s : State) (i : Fin 16) (error : Bool) (word : Word) : RequestsOnly s (s.passPerformed i error word) := by
  unfold State.passPerformed
  dsimp only
  split
  · exact .setUpstream s _
  · split <;> exact .setUpstream s _

/-- R101: an answer to a requester other than a peek or a poke leaves the link. -/
theorem toRequester_link (s : State) {r : Requester} (error : Bool) (word : Word) (hpeek : r ≠ .peek) (hpoke : r ≠ .poke) :
    (s.toRequester r error word).link = s.link := by
  cases r with
  | pass i => exact (passPerformed_requestsOnly s i error word).link
  | drain => exact (drainPerformed_engineOnly s error).link
  | probe w => exact (probeResult_watchesOnly s w error word).link
  | peek => exact absurd rfl hpeek
  | poke => exact absurd rfl hpoke

/-- The reports of a soft reset in progress are kept, or those due are added. -/
def ReportsStep (s t : State) : Prop :=
  t.link.pending = some .softReset ∧ (t.link.reports = s.link.reports ∨ t.link.reports = reportsAt s.link.reports t)

theorem ReportsStep.of_link {s t : State} (hp : s.link.pending = some .softReset) (h : t.link = s.link) : ReportsStep s t :=
  ⟨by rw [h, hp], .inl (by rw [h])⟩

theorem ReportsStep.of_reported {s u : State} (hp : s.link.pending = some .softReset) (h : u.link = s.link) :
    ReportsStep s u.reportBlocks := by
  have hu : u.link.pending = some .softReset := by rw [h, hp]
  rw [reportBlocks_eq]
  refine ⟨by rw [reported_link hu, ← hu], .inr ?_⟩
  rw [reported_link hu, reportsAt_reported, h]

theorem issueResponse_reports {s : State} (hp : s.link.pending = some .softReset) (init tag : BitVec 2) :
    ReportsStep s (s.issueResponse init tag) := by
  unfold State.issueResponse
  dsimp only
  split
  · split
    · exact .of_link hp rfl
    · exact .of_reported hp rfl
  · exact .of_link hp rfl

theorem endItem_reports {s : State} (hp : s.link.pending = some .softReset) : ReportsStep s s.endItem := by
  unfold State.endItem
  split
  · exact .of_link hp rfl
  · split
    · rename_i it _ _
      refine .of_reported hp ?_
      rw [reportClearance_link]
      exact (returnHeld_requestsOnly s it.group).link
    · exact .of_link hp rfl

theorem performed_reports {s : State} (hp : s.link.pending = some .softReset) (hk : PeekPokeOk s) (error : Bool) (rdata : Word) :
    ReportsStep s (s.performed error rdata) := by
  unfold State.performed
  split
  · exact .of_link hp rfl
  · rename_i t ht
    have hfit := hk.2.1 t ht
    have hpeek : t.requester ≠ .peek := by
      intro e
      simp [commandFits, e, hp] at hfit
    have hpoke : t.requester ≠ .poke := by
      intro e
      cases hkind : t.kind <;> simp [commandFits, e, hkind, hp] at hfit
    refine .of_reported hp ?_
    rw [reportClearance_link, toRequester_link _ error _ hpeek hpoke]
    exact (reportLanded_watchesOnly _ t error).link

/-- R166: a soft reset in progress goes on until SOFT_RESET_COMPLETE finds its four reports. -/
theorem softReset_goesOn (c : Instr) (s t : State) (hk : PeekPokeOk s) (hp : s.link.pending = some .softReset) (he : exec c s = .next t)
    (hc : c ≠ .powerOnReset) :
    (t.link.pending = some .softReset ∧ (t.link.reports = s.link.reports ∨ t.link.reports = reportsAt s.link.reports t)) ∨
      (t.link.pending = none ∧ c = .softResetComplete ∧
        s.link.reports = { upstream := true, drain := true, port := true, watches := true }) := by
  by_cases hm : mayReport c
  · have hpn : s.newCycle.link.pending = some .softReset := hp
    cases c <;> try exact absurd hm id
    case responseIssue init tag =>
      cases he
      exact .inl (issueResponse_reports hpn init tag)
    case transactionPerformed error rdata =>
      cases he
      exact .inl (performed_reports hpn hk error rdata)
    case endReport =>
      cases he
      exact .inl (endItem_reports hpn)
    case softResetComplete =>
      cases he
      by_cases hr : s.link.reports = { upstream := true, drain := true, port := true, watches := true }
      · refine .inr ⟨?_, rfl, hr⟩
        rw [tryComplete_of_done (s := s.newCycle) hp hr, completeReset_eq]
      · rw [tryComplete_of_not (s := s.newCycle) (.inr hr)]
        exact .inl ⟨hp, .inl rfl⟩
    case powerOnReset => exact absurd rfl hc
  · obtain ⟨h1, h2⟩ := (resetPending_kept s.link.reports).kept.exec c s t hm ⟨hp, rfl⟩ he
    exact .inl ⟨h1, .inl h2⟩

/-- Settles O6: the taking, block by block; the completion; and what every other step of a soft reset leaves. -/
theorem softResetTaken : Obligations.SoftResetTaken := by
  unfold Obligations.SoftResetTaken
  refine ⟨fun s hl => ?_, fun s => ⟨fun hp hr => ?_, fun h => ?_⟩, softReset_goesOn⟩
  · obtain ⟨u, h, ht⟩ := softResetBody_spec (readied s s)
    obtain ⟨t, hexec, hlink⟩ := softReset_taken s hl
    have htu : t = (reported u).tryComplete := by
      rw [exec_softReset hl, ht] at hexec
      exact (Host.Outcome.next.inj hexec).symm
    obtain ⟨hturn, hq, hup, hcur, -, hd, hg, hw⟩ := softResetTaken_fields h htu
    refine ⟨t, hexec, hlink, hturn, hq, ?_, ?_, hcur, ?_, ?_, fun i => ?_, fun g => ?_, fun w => ?_⟩
    · rw [hup, h.upstream]
    · rw [hup, h.upstream]
    · rw [hd, h.drain]
      rfl
    · rw [hd, h.drain]
      rfl
    · have hs : t.slot i = (s.slot i).softReset := by
        unfold State.slot
        rw [hup]
        exact h.slot i
      rw [hs]
      exact softResetTaken_slot (s.slot i)
    · have hu := h.group g
      have hst := softResetState_eq s g
      rcases hg g with e | e <;> rw [e] <;>
        exact ⟨by rw [hu]; rfl, by rw [hu]; rfl, by rw [hu]; rfl, by rw [hu]; exact hst⟩
    · rw [hw w]
      exact ⟨rfl, rfl⟩
  · refine congrArg Host.Outcome.next ?_
    rw [tryComplete_of_done (s := s.newCycle) hp hr, completeReset_eq]
    rfl
  · exact congrArg Host.Outcome.next (tryComplete_of_not (s := s.newCycle) h)

/-- R38: with nothing under way a group goes to OFF. -/
theorem softResetState_off {s : State} {g : Fin 8} (hd : s.drain.current = none) (hg : (s.group g).draining = false) :
    s.softResetState g = .off := by
  rw [softResetState_eq, if_neg (by simp [hg]), if_neg (by simp [hd])]

/-- Settles O5: all four blocks report in the step of the taking, so the soft reset completes in it. -/
theorem softResetAtOnce : Obligations.SoftResetAtOnce := by
  unfold Obligations.SoftResetAtOnce
  intro s hl hfree hd hp hdr
  obtain ⟨u, h, ht⟩ := softResetBody_spec (readied s s)
  have hport : (reported u).port = { u.port with turn := .drain, run := 0 } := by
    rw [h.reported_eq]
    exact if_pos ⟨hd, hp⟩
  have hpend : (reported u).link.pending = some .softReset := by rw [h.reported_eq, h.link]
  have hdone : (reported u).link.reports = { upstream := true, drain := true, port := true, watches := true } := by
    have hall := h.allReported_iff.2 ⟨hfree, hd, hp⟩
    rw [h.reports] at hall
    rw [h.reported_eq]
    exact hall
  have hr : softResetBody (readied s s) = (reported u).completeReset := by rw [ht, tryComplete_of_done hpend hdone]
  have hv : reported u = { u with link := (reported u).link, port := (reported u).port } := by
    unfold reported
    split <;> rfl
  refine ⟨_, (exec_softReset hl).trans (congrArg _ (hr.trans (completeReset_eq _))), ?_⟩
  have hg (g : Fin 8) : (reported u).group g = (readied s s).groupAtReset g := by
    rw [hv]
    exact h.group g
  have hup : (reported u).upstream = u.upstream := by rw [hv]
  refine ⟨rfl, rfl, ?_, ?_, ?_, ?_, ?_, ?_, ?_, ?_, ?_, ?_, fun i => ?_, ?_, ?_, ?_, ?_, ?_, fun b => ?_, fun g => ?_, fun w => ?_, ?_⟩
  · rw [h.reported_eq, h.link]
  · rw [hv]; exact h.windows
  · rw [hv]; exact h.safeTable
  · rw [hv]; exact h.releaseLines
  · rw [hv]; exact h.faultLines
  · rw [hv]; exact h.mem
  · rw [hv]; exact h.releaseQueue
  · rw [hup, h.upstream]
  · rw [hup, h.upstream]
  · rw [hup, h.upstream]; rfl
  · have hslot : u.slot i = (s.slot i).softReset := h.slot i
    have hkeep : (s.slot i).softReset = s.slot i := by
      unfold Slot.softReset
      rw [hfree i]
    rw [← hkeep, ← hslot]
    exact congrArg (fun v : Upstream => v.slots[i]) hup
  · rw [hport, h.port]; exact hp
  · rw [hport]
  · rw [hport]
  · rw [hport, h.port]; rfl
  · rw [hv, ← Fin.sum_univ_def]
    exact h.freeSlots
  · rw [hv]
    cases b
    · exact h.baseA
    · exact h.baseB
  · have hgg : ({ reported u with groups := (reported u).groups.map Group.softResetDone } : State).group g =
        ((reported u).group g).softResetDone := by simp [State.group]
    refine hgg.trans ?_
    rw [hg g]
    unfold State.groupAtReset
    rw [softResetState_off (s := readied s s) hd (hdr g)]
    rfl
  · rw [hv]
    exact h.watch w
  · rw [hv]
    dsimp only
    rw [h.baseA, h.events]
    rfl

end Sys2Proof.Machine

/-! PROOFS. Chapters 01 and 05: every step keeps request table, pass queue, hold list, port and clearance flags fitting together
(R3, R10, R15, R17, R19, R99, R100). First the windows and the slots, then the invariant slot by slot, then each operation. -/

namespace Sys2Proof.Machine

open Sys2Proof.Safety

/-! ### Windows (R23) -/

theorem windowOf_mem {s : State} {a : WordAddr} {w : Window} (h : s.windowOf a = some w) :
    w.covers a = true ∧ ∃ m : Fin 16, s.windows[m] = w := by
  have hmem := List.mem_of_find?_eq_some h
  have hc : w.covers a = true := List.find?_some (p := fun w : Window => w.covers a) h
  obtain ⟨i, hi, hw⟩ := List.getElem_of_mem hmem
  exact ⟨hc, ⟨i, by simpa using hi⟩, by simpa using hw⟩

/-- R4, R23: with no overlap, the window of a word is the one that covers it. -/
theorem windowOf_eq_some {s : State} (hd : WindowsDisjoint s) {a : WordAddr} {m : Fin 16} (h : s.windows[m].covers a = true) :
    s.windowOf a = some s.windows[m] := by
  cases hf : s.windowOf a with
  | none =>
    unfold State.windowOf at hf
    rw [List.find?_eq_none] at hf
    exact absurd h (hf _ (Vector.mem_toList_iff.2 (Vector.getElem_mem _)))
  | some w =>
    obtain ⟨hc, n, rfl⟩ := windowOf_mem hf
    by_cases e : n = m
    · rw [e]
    · exact absurd ⟨hc, h⟩ (hd n m e a)

theorem wordGroup_eq_some {s : State} (hd : WindowsDisjoint s) {a : WordAddr} {g : Fin 8} :
    s.wordGroup a = some g ↔ ∃ m : Fin 16, s.windows[m].covers a = true ∧ s.windows[m].group = g := by
  unfold State.wordGroup
  rw [Option.map_eq_some_iff]
  constructor
  · rintro ⟨w, hw, rfl⟩
    obtain ⟨hc, m, rfl⟩ := windowOf_mem hw
    exact ⟨m, hc, rfl⟩
  · rintro ⟨m, hc, rfl⟩
    exact ⟨_, windowOf_eq_some hd hc, rfl⟩

theorem covers_overlaps {v w : Window} {a : WordAddr} (hv : v.covers a = true) (hw : w.covers a = true) : v.overlaps w = true := by
  simp only [Window.covers, Bool.and_eq_true, decide_eq_true_eq] at hv hw
  simp only [Window.overlaps, Bool.and_eq_true, decide_eq_true_eq]
  omega

theorem covers_enabled {w : Window} {a : WordAddr} (h : w.covers a = true) : w.enabled = true := by
  simp only [Window.covers, Bool.and_eq_true] at h
  exact h.1.1

/-- R24: what a taken window write has passed. -/
theorem writeWindow_ok {s t : State} {n : Fin 16} {f : WindowFields} {data : List Byte} (h : s.writeWindow n f = .ok (data, t)) :
    t = { s with windows := s.windows.set n (windowRecord f) } ∧ s.windowBusy s.windows[n] = false ∧
      s.windowBusy (windowRecord f) = false ∧ s.overlapsOther n (windowRecord f) = false := by
  dsimp only [State.writeWindow, written] at h
  repeat' split at h
  all_goals cases h
  simp_all

theorem windowsDisjoint_writeWindow {s t : State} {n : Fin 16} {f : WindowFields} {data : List Byte} (hs : WindowsDisjoint s)
    (h : s.writeWindow n f = .ok (data, t)) : WindowsDisjoint t := by
  obtain ⟨rfl, -, -, ho⟩ := writeWindow_ok h
  have hget (m : Fin 16) : (s.windows.set n (windowRecord f))[m] = if n = m then windowRecord f else s.windows[m] := by
    simp only [Fin.getElem_fin, Vector.getElem_set, Fin.ext_iff]
  have hnew (m : Fin 16) (hm : m ≠ n) (a : WordAddr) (h1 : (windowRecord f).covers a = true) (h2 : s.windows[m].covers a = true) :
      False := by
    have := (overlapsOther_iff s n (windowRecord f)).2 ⟨covers_enabled h1, m, hm, covers_enabled h2, by
      have := covers_overlaps h2 h1
      simpa [Window.overlaps] using this⟩
    rw [ho] at this
    cases this
  intro m k hmk a
  show ¬ ((s.windows.set n (windowRecord f))[m].covers a = true ∧ (s.windows.set n (windowRecord f))[k].covers a = true)
  rw [hget, hget]
  rintro ⟨hm, hk⟩
  by_cases em : n = m <;> by_cases ek : n = k
  · exact hmk (em.symm.trans ek)
  · rw [if_pos em] at hm
    rw [if_neg ek] at hk
    exact hnew k (Ne.symm ek) a hm hk
  · rw [if_neg em] at hm
    rw [if_pos ek] at hk
    exact hnew m (Ne.symm em) a hk hm
  · rw [if_neg em] at hm
    rw [if_neg ek] at hk
    exact hs m k hmk a ⟨hm, hk⟩

/-! ### What a decode does to its slot -/

/-- R4: a route that stages is a write's. -/
theorem route_stage {s : State} {i : Fin 16} {w : Window} (h : s.route i = .stage w) : ∃ d m, (s.slot i).kind = .write d m := by
  cases hk : (s.slot i).kind with
  | write d m => exact ⟨d, m, rfl⟩
  | read =>
    exfalso
    unfold State.route at h
    split at h
    · cases h
    · split at h
      · cases h
      · unfold State.routeIn at h
        simp only [hk] at h
        split at h
        · unfold State.routeOwnRead at h
          split at h
          · cases h
          · dsimp only at h
            split at h
            · cases h
            · split at h <;> cases h
        · cases h

/-- R10: a route to memory makes the slot QUEUED. -/
theorem follow_toMemory {s : State} {i : Fin 16} {r : Route} (h : r.toMemory = true) :
    ∃ snap, s.follow i r = s.setSlot i { s.slot i with state := .queued, snapshot := snap } := by
  cases r with
  | pass => exact ⟨(s.slot i).snapshot, rfl⟩
  | forward snap => exact ⟨some snap, rfl⟩
  | covered => cases h
  | stage => cases h
  | refuse => cases h

/-- A slot that enters ANSWERING with a response prepared for it. -/
def Slot.answered (x : Slot) (p : Prepared) (snap : Option Snapshot) : Slot :=
  { x with state := .answering, prepared := some p, returnMark := none, snapshot := snap }

theorem refuse_answered (s : State) (i : Fin 16) (g : Fin 8) (c : RefusalCause) :
    GroupsOnly (s.setSlot i ((s.slot i).answered { response := .refused c, performed := false } (s.slot i).snapshot)) (s.refuse i g c) :=
  reportRefusal_groupsOnly _ g c _

/-- The groups' part of a step and a change of one slot go in either order. -/
theorem GroupsOnly.setSlot {s t : State} (h : GroupsOnly s t) (i : Fin 16) (x : Slot) : GroupsOnly (s.setSlot i x) (t.setSlot i x) := by
  obtain ⟨_, _, _, _, rfl⟩ := h
  exact ⟨_, _, _, _, rfl⟩

theorem answer_answered {s t : State} (h : GroupsOnly s t) (i : Fin 16) (r : Response) :
    GroupsOnly (s.setSlot i ((s.slot i).answered { response := r, performed := false } (s.slot i).snapshot)) (t.answer i r false) := by
  rw [← h.slot i]
  exact h.setSlot i _

theorem stageSlot_answered (s : State) (i : Fin 16) (w : Window) (d : Word) (m : Mask) :
    ∃ p, GroupsOnly (s.setSlot i ((s.slot i).answered p (s.slot i).snapshot)) (s.stageSlot i w d m) := by
  have h := stage_groupsOnly s w.group (s.slot i).addr d m (w.isSealWord (s.slot i).addr)
  unfold State.stageSlot
  split
  · rename_i t r e
    rw [e] at h
    exact ⟨_, answer_answered h i r⟩
  · rename_i t c e
    rw [e] at h
    have hr := (answer_answered h i (.refused c)).trans (reportRefusal_groupsOnly _ w.group c (slotInit i))
    dsimp only
    split
    · exact ⟨_, hr.trans (tripSource_groupsOnly _ _ _)⟩
    · exact ⟨_, hr⟩

/-- R5 to R7: any other route answers the slot. -/
theorem follow_answered {s : State} {i : Fin 16} (h : (s.route i).toMemory = false) :
    ∃ p snap, GroupsOnly (s.setSlot i ((s.slot i).answered p snap)) (s.follow i (s.route i)) := by
  cases hr : s.route i with
  | pass => rw [hr] at h; cases h
  | forward => rw [hr] at h; cases h
  | covered snap =>
    refine ⟨{ response := .data snap.value, performed := false }, some snap, ?_⟩
    have : s.follow i (.covered snap) = s.setSlot i ((s.slot i).answered { response := .data snap.value, performed := false } (some snap)) := by
      show (s.setSlot i _).answer i _ false = _
      unfold State.answer
      rw [setSlot_slot, if_pos rfl]
      simp only [State.setSlot, Vector.set_set]
      rfl
    rw [this]
  | stage w =>
    obtain ⟨d, m, hk⟩ := route_stage hr
    obtain ⟨p, hp⟩ := stageSlot_answered s i w d m
    refine ⟨p, (s.slot i).snapshot, ?_⟩
    simp only [State.follow, hk]
    exact hp
  | refuse g c => exact ⟨_, _, refuse_answered s i g c⟩

/-! ### The invariant, slot by slot -/

/-- What `RequestsOk` asks of one slot, the clearance flags only above the return marks. -/
structure SlotFits (s : State) (j : Fin 16) : Prop where
  ok : SlotOk (s.slot j)
  passed : j ∈ s.upstream.passQueue ↔ (s.slot j).state = .queued
  held : j ∈ s.upstream.holdList ↔ (s.slot j).state = .held
  performing : (s.slot j).state = .performing ↔
    s.port.current = some { requester := .pass j, kind := (s.slot j).kind, addr := (s.slot j).addr }
  apart : (s.slot j).state = .queued → ∀ it ∈ s.drain.current, s.wordGroup (s.slot j).addr ≠ some it.group
  together : (s.slot j).state = .held → ∃ it ∈ s.drain.current, s.wordGroup (s.slot j).addr = some it.group
  waits : ∀ g, (s.slot j).returnMark = some g → s.drain.clearanceWait[g] = true

/-- `RequestsOk` before return clearance is reported. -/
structure RequestsFit (s : State) : Prop where
  passNodup : s.upstream.passQueue.Nodup
  holdNodup : s.upstream.holdList.Nodup
  slots : ∀ j, SlotFits s j
  requester : ∀ t ∈ s.port.current, requesterFits s t = true

theorem requestsOk_iff (s : State) :
    RequestsOk s ↔ RequestsFit s ∧ ∀ g : Fin 8, s.drain.clearanceWait[g] = true → ∃ i : Fin 16, (s.slot i).returnMark = some g := by
  constructor
  · rintro ⟨hok, ⟨hpn, hhn, hp, hh⟩, ⟨hperf, hreq⟩, ⟨hap, hto⟩, hcl⟩
    exact ⟨⟨hpn, hhn, fun j => ⟨hok j, hp j, hh j, hperf j, fun hq it hit => hap it hit j ((hp j).2 hq), fun hq => hto j ((hh j).2 hq),
      fun g hg => (hcl g).2 ⟨j, hg⟩⟩, hreq⟩, fun g => (hcl g).1⟩
  · rintro ⟨⟨hpn, hhn, hs, hreq⟩, hcl⟩
    exact ⟨fun j => (hs j).ok, ⟨hpn, hhn, fun j => (hs j).passed, fun j => (hs j).held⟩, ⟨fun j => (hs j).performing, hreq⟩,
      ⟨fun it hit i hi => (hs i).apart ((hs i).passed.1 hi) it hit, fun i hi => (hs i).together ((hs i).held.1 hi)⟩,
      fun g => ⟨hcl g, fun ⟨i, hi⟩ => (hs i).waits g hi⟩⟩

theorem SlotFits.congr {s t : State} {j : Fin 16} (h : SlotFits s j) (hslot : t.slot j = s.slot j)
    (hpq : j ∈ t.upstream.passQueue ↔ j ∈ s.upstream.passQueue) (hhl : j ∈ t.upstream.holdList ↔ j ∈ s.upstream.holdList)
    (hw : t.windows = s.windows) (hcur : t.port.current = s.port.current) (hit : t.drain.current = s.drain.current)
    (hcw : ∀ g, (s.slot j).returnMark = some g → s.drain.clearanceWait[g] = true → t.drain.clearanceWait[g] = true) : SlotFits t j := by
  refine ⟨?_, ?_, ?_, ?_, ?_, ?_, ?_⟩ <;> rw [hslot]
  · exact h.ok
  · rw [hpq]; exact h.passed
  · rw [hhl]; exact h.held
  · rw [hcur]; exact h.performing
  · rw [hit, wordGroup_congr s hw]; exact h.apart
  · rw [hit, wordGroup_congr s hw]; exact h.together
  · exact fun g hg => hcw g hg (h.waits g hg)

theorem RequestsFit.congr {s t : State} (h : RequestsFit s) (hslots : t.upstream.slots = s.upstream.slots)
    (hpq : t.upstream.passQueue = s.upstream.passQueue) (hhl : t.upstream.holdList = s.upstream.holdList) (hw : t.windows = s.windows)
    (hcur : t.port.current = s.port.current) (hit : t.drain.current = s.drain.current)
    (hcw : t.drain.clearanceWait = s.drain.clearanceWait) : RequestsFit t := by
  have hslot (j : Fin 16) : t.slot j = s.slot j := by simp only [State.slot, hslots]
  refine ⟨hpq ▸ h.passNodup, hhl ▸ h.holdNodup, fun j => (h.slots j).congr (hslot j) (by rw [hpq]) (by rw [hhl]) hw hcur hit
    (fun g _ => by rw [hcw]; exact id), fun x hx => ?_⟩
  rw [hcur] at hx
  have := h.requester x hx
  unfold requesterFits at this ⊢
  simp only [hslot]
  exact this

theorem requestsOk_congr {s t : State} (h : RequestsOk s) (hslots : t.upstream.slots = s.upstream.slots)
    (hpq : t.upstream.passQueue = s.upstream.passQueue) (hhl : t.upstream.holdList = s.upstream.holdList) (hw : t.windows = s.windows)
    (hcur : t.port.current = s.port.current) (hit : t.drain.current = s.drain.current)
    (hcw : t.drain.clearanceWait = s.drain.clearanceWait) : RequestsOk t := by
  obtain ⟨hf, hc⟩ := (requestsOk_iff s).1 h
  refine (requestsOk_iff t).2 ⟨hf.congr hslots hpq hhl hw hcur hit hcw, fun g hg => ?_⟩
  rw [hcw] at hg
  simp only [State.slot, hslots]
  exact hc g hg

/-- R19: the report of return clearance lowers the flags that no mark keeps up. -/
theorem RequestsFit.reportClearance {s : State} (h : RequestsFit s) : RequestsOk s.reportClearance := by
  obtain ⟨v, hv, hw⟩ := reportClearance_spec s
  have hun (g : Fin 8) : s.unmarked g = true ↔ ∀ i : Fin 16, (s.slot i).returnMark ≠ some g := by
    simp [State.unmarked, mem_slotNumbers]
  rw [hv]
  refine (requestsOk_iff _).2 ⟨⟨h.passNodup, h.holdNodup, fun j => (h.slots j).congr rfl Iff.rfl Iff.rfl rfl rfl rfl fun g hm hc => ?_,
    h.requester⟩, fun g hg => ?_⟩
  · show v[g] = true
    rw [hw g, hc, Bool.true_and, Bool.not_eq_true', ← Bool.not_eq_true, hun]
    exact fun hall => hall j hm
  · have hg' : v[g] = true := hg
    rw [hw g, Bool.and_eq_true, Bool.not_eq_true', ← Bool.not_eq_true, hun] at hg'
    by_contra hne
    exact hg'.2 fun i hi => hne ⟨i, hi⟩

theorem requestsOk_reportBlocks {s : State} (h : RequestsOk s) : RequestsOk s.reportBlocks := by
  obtain ⟨_, _, _, hb⟩ := reportBlocks_spec s
  rw [hb]
  exact requestsOk_congr h rfl rfl rfl rfl rfl rfl rfl

theorem requestsOk_engineOnly {s t : State} (h : RequestsOk s) (he : EngineOnly s t) : RequestsOk t :=
  requestsOk_congr h (by rw [he.upstream]) (by rw [he.upstream]) (by rw [he.upstream]) he.windows he.portCurrent he.drainCurrent
    he.clearanceWait

theorem RequestsFit.engineOnly {s t : State} (h : RequestsFit s) (he : EngineOnly s t) : RequestsFit t :=
  h.congr (by rw [he.upstream]) (by rw [he.upstream]) (by rw [he.upstream]) he.windows he.portCurrent he.drainCurrent he.clearanceWait

end Sys2Proof.Machine

/-! PROOFS. Chapters 01 and 05: the operations of the upstream port and of the memory port keep the request invariant. -/

namespace Sys2Proof.Machine

open Sys2Proof.Safety

theorem requesterFits_mono {s t : State} {x : Transaction} (h : requesterFits s x = true)
    (hp : ∀ i, (s.slot i).state = .performing → (t.slot i).state = .performing) : requesterFits t x = true := by
  unfold requesterFits at h ⊢
  split at h <;> simp_all

/-! ### One slot that stands in no list -/

/-- A slot that is FREE or ANSWERING is rewritten, and joins at most one list. -/
theorem requestsOk_place {s t : State} {i : Fin 16} (y : Slot) (h : RequestsOk s) (hslot : ∀ j, t.slot j = if i = j then y else s.slot j)
    (hidle : (s.slot i).state = .free ∨ (s.slot i).state = .answering) (hy : y.state ≠ .performing) (hok : SlotOk y)
    (hmark : y.returnMark = none)
    (hpq : ∀ j, j ∈ t.upstream.passQueue ↔ j ∈ s.upstream.passQueue ∨ (j = i ∧ y.state = .queued)) (hpn : t.upstream.passQueue.Nodup)
    (hhl : ∀ j, j ∈ t.upstream.holdList ↔ j ∈ s.upstream.holdList ∨ (j = i ∧ y.state = .held)) (hhn : t.upstream.holdList.Nodup)
    (hw : t.windows = s.windows) (hp : t.port = s.port) (hd : t.drain = s.drain)
    (hap : y.state = .queued → ∀ it ∈ s.drain.current, s.wordGroup y.addr ≠ some it.group)
    (hto : y.state = .held → ∃ it ∈ s.drain.current, s.wordGroup y.addr = some it.group) : RequestsOk t := by
  obtain ⟨hf, hc⟩ := (requestsOk_iff s).1 h
  have hnone : (s.slot i).returnMark = none := by
    by_contra hne
    have := (hf.slots i).ok.2.1 (Option.isSome_iff_ne_none.2 hne)
    rcases hidle with e | e <;> simp [e] at this
  have hnp : (s.slot i).state ≠ .performing := by rcases hidle with e | e <;> simp [e]
  have hnq : i ∉ s.upstream.passQueue := by
    rw [(hf.slots i).passed]
    rcases hidle with e | e <;> simp [e]
  have hnh : i ∉ s.upstream.holdList := by
    rw [(hf.slots i).held]
    rcases hidle with e | e <;> simp [e]
  have hcur (k : ReqKind) (a : WordAddr) : s.port.current ≠ some { requester := .pass i, kind := k, addr := a } := by
    intro e
    have := hf.requester _ e
    simp only [requesterFits, beq_iff_eq] at this
    exact hnp this
  refine (requestsOk_iff t).2 ⟨⟨hpn, hhn, fun j => ?_, fun x hx => ?_⟩, fun g hg => ?_⟩
  · by_cases e : i = j
    · subst e
      have hi : t.slot i = y := by rw [hslot, if_pos rfl]
      refine ⟨?_, ?_, ?_, ?_, ?_, ?_, ?_⟩ <;> rw [hi]
      · exact hok
      · rw [hpq]; simp [hnq]
      · rw [hhl]; simp [hnh]
      · rw [hp]; exact ⟨fun e => absurd e hy, fun e => absurd e (hcur _ _)⟩
      · rw [hd, wordGroup_congr s hw]; exact hap
      · rw [hd, wordGroup_congr s hw]; exact hto
      · simp [hmark]
    · exact (hf.slots j).congr (by rw [hslot, if_neg e]) (by rw [hpq]; simp [Ne.symm e]) (by rw [hhl]; simp [Ne.symm e]) hw
        (by rw [hp]) (by rw [hd]) fun g _ => by rw [hd]; exact id
  · rw [hp] at hx
    refine requesterFits_mono (hf.requester x hx) fun k hk => ?_
    rw [hslot, if_neg]
    · exact hk
    · rintro rfl
      exact hnp hk
  · rw [hd] at hg
    obtain ⟨j, hj⟩ := hc g hg
    have e : i ≠ j := by
      rintro rfl
      rw [hnone] at hj
      cases hj
    exact ⟨j, by rw [hslot, if_neg e]; exact hj⟩

/-! ### UPSTREAM_REQUEST -/

/-- R4: a request is held only for the item that is current: an earlier-taken one of its word is held for it too. -/
theorem holds_together {s : State} {i : Fin 16} (h : ∀ j, (s.slot j).state = .held → ∃ it ∈ s.drain.current, s.wordGroup (s.slot j).addr = some it.group)
    (hh : s.holds i = true) : ∃ it ∈ s.drain.current, s.wordGroup (s.slot i).addr = some it.group := by
  unfold State.holds at hh
  split at hh
  · cases hh
  · rename_i w hw
    rw [Bool.or_eq_true] at hh
    rcases hh with hh | hh
    · unfold State.itemCurrent at hh
      split at hh
      · rename_i it hit
        refine ⟨it, hit, ?_⟩
        rw [State.wordGroup, hw, Option.map_some, beq_iff_eq.1 hh]
      · cases hh
    · simp only [State.earlierHeld, List.any_eq_true, Bool.and_eq_true, beq_iff_eq] at hh
      obtain ⟨j, -, ⟨hst, ha⟩, -⟩ := hh
      rw [← ha]
      exact h j hst

/-- R4: a request that is not held is of no word of the current item's group. -/
theorem not_holds_apart {s : State} {i : Fin 16} (hh : s.holds i = false) : ∀ it ∈ s.drain.current, s.wordGroup (s.slot i).addr ≠ some it.group := by
  intro it hit
  unfold State.holds at hh
  unfold State.wordGroup
  split at hh
  · rename_i hw
    rw [hw]
    simp
  · rename_i w hw
    rw [Bool.or_eq_false_iff, State.itemCurrent, hit] at hh
    rw [hw, Option.map_some]
    intro e
    have hg := Option.some.inj e
    simp [hg] at hh

/-- R1: the state in which a taken request is decoded. -/
def State.taking (s : State) (i : Fin 16) (kind : ReqKind) (addr : WordAddr) : State :=
  ((s.setIndication .taken).setSlot i (Slot.taken kind addr s.upstream.nextOrder)).setNextOrder (s.upstream.nextOrder + 1)

theorem taking_slot (s : State) (i j : Fin 16) (kind : ReqKind) (addr : WordAddr) :
    (s.taking i kind addr).slot j = if i = j then Slot.taken kind addr s.upstream.nextOrder else s.slot j :=
  setSlot_slot (s.setIndication .taken) i j _

theorem requestsOk_takeRequest {s : State} (h : RequestsOk s) {i : Fin 16} (hfree : (s.slot i).state = .free) (kind : ReqKind)
    (addr : WordAddr) : RequestsOk (s.takeRequest i kind addr) := by
  obtain ⟨hf, -⟩ := (requestsOk_iff s).1 h
  set u := s.taking i kind addr with hu
  have hui : u.slot i = Slot.taken kind addr s.upstream.nextOrder := by rw [taking_slot, if_pos rfl]
  have hset (y : Slot) (j : Fin 16) : (u.setSlot i y).slot j = if i = j then y else s.slot j := by
    rw [setSlot_slot, taking_slot]
    split <;> rfl
  have hnq : i ∉ s.upstream.passQueue := by rw [(hf.slots i).passed, hfree]; simp
  have hnh : i ∉ s.upstream.holdList := by rw [(hf.slots i).held, hfree]; simp
  show RequestsOk (u.decodeTaken i)
  unfold State.decodeTaken
  split
  · rename_i hh
    have hto := holds_together (fun j hj => ?_) hh
    · refine requestsOk_place (i := i) { u.slot i with state := .held } h (hset _) (.inl hfree) (by simp) (by simp [SlotOk, hui, Slot.taken])
        (by rw [hui]; rfl) (fun j => ?_) hf.passNodup (fun j => ?_) (hf.holdNodup.append (by simp) (by simpa using hnh)) rfl rfl rfl (by simp)
        fun _ => hto
      · show j ∈ s.upstream.passQueue ↔ _
        simp
      · show j ∈ s.upstream.holdList ++ [i] ↔ _
        simp
    · by_cases e : i = j
      · rw [taking_slot, if_pos e] at hj
        cases hj
      · rw [taking_slot, if_neg e] at hj ⊢
        exact (hf.slots j).together hj
  · rename_i hh
    have hap := not_holds_apart (by simpa using hh)
    cases hr : (u.route i).toMemory with
    | true =>
      obtain ⟨snap, hfol⟩ := follow_toMemory (s := u) (i := i) hr
      dsimp only
      rw [if_pos hr, hfol]
      refine requestsOk_place (i := i) { u.slot i with state := .queued, snapshot := snap } h (hset _) (.inl hfree) (by simp)
        (by simp [SlotOk, hui, Slot.taken]) (by rw [hui]; rfl) (fun j => ?_) (hf.passNodup.append (by simp) (by simpa using hnq)) (fun j => ?_)
        hf.holdNodup rfl rfl rfl (fun _ => hap) (by simp)
      · show j ∈ s.upstream.passQueue ++ [i] ↔ _
        simp
      · show j ∈ s.upstream.holdList ↔ _
        simp
    | false =>
      obtain ⟨p, snap, hg⟩ := follow_answered hr
      dsimp only
      rw [if_neg (by simp [hr])]
      refine requestsOk_place (i := i) ((u.slot i).answered p snap) h (fun j => by rw [hg.slot, hset]) (.inl hfree) (by simp [Slot.answered])
        (by simp [SlotOk, Slot.answered]) rfl (fun j => ?_) ?_ (fun j => ?_) ?_ hg.windows hg.port hg.drain (by simp [Slot.answered])
        (by simp [Slot.answered])
      · rw [hg.upstream]
        show j ∈ s.upstream.passQueue ↔ _
        simp [Slot.answered]
      · rw [hg.upstream]
        exact hf.passNodup
      · rw [hg.upstream]
        show j ∈ s.upstream.holdList ↔ _
        simp [Slot.answered]
      · rw [hg.upstream]
        exact hf.holdNodup

theorem requestsOk_upstreamRequest {s : State} (h : RequestsOk s) (init tag : BitVec 2) (kind : ReqKind) (a : WordAddr) :
    RequestsOk (s.upstreamRequest init tag kind a) := by
  unfold State.upstreamRequest
  split
  · exact requestsOk_congr h rfl rfl rfl rfl rfl rfl rfl
  · split
    · exact requestsOk_congr h rfl rfl rfl rfl rfl rfl rfl
    · rename_i hfree
      exact requestsOk_takeRequest h (not_not.1 hfree) kind a

/-! ### RESPONSE_ISSUE -/

theorem requestsOk_issueResponse {s : State} (h : RequestsOk s) (init tag : BitVec 2) : RequestsOk (s.issueResponse init tag) := by
  obtain ⟨hf, -⟩ := (requestsOk_iff s).1 h
  unfold State.issueResponse
  dsimp only
  split
  · rename_i p hst hpr
    split
    · exact h
    · refine requestsOk_reportBlocks ?_
      refine requestsOk_place (i := slotOf init tag) (s.slot (slotOf init tag)).freed h (fun j => ?_) (.inr hst) (by simp [Slot.freed])
        (by simp [SlotOk, Slot.freed]) rfl (fun j => ?_) hf.passNodup (fun j => ?_) hf.holdNodup rfl rfl rfl (by simp [Slot.freed])
        (by simp [Slot.freed])
      · rw [setSlot_slot]
        rfl
      · show j ∈ s.upstream.passQueue ↔ _
        simp [Slot.freed]
      · show j ∈ s.upstream.holdList ↔ _
        simp [Slot.freed]
  · exact h

/-! ### MEMORY_GRANT -/

/-- R100: a grant to another requester than the pass queue. -/
theorem requestsOk_grantOther {s t : State} (h : RequestsOk s) (hidle : s.port.current = none) (hup : t.upstream = s.upstream)
    (hw : t.windows = s.windows) (hd : t.drain = s.drain) {x : Transaction} (hx : t.port.current = some x)
    (hreq : ∀ i, x.requester ≠ .pass i) (hfit : requesterFits t x = true) : RequestsOk t := by
  obtain ⟨hf, hc⟩ := (requestsOk_iff s).1 h
  have hslot (j : Fin 16) : t.slot j = s.slot j := by simp only [State.slot, hup]
  refine (requestsOk_iff t).2 ⟨⟨hup ▸ hf.passNodup, hup ▸ hf.holdNodup, fun j => ?_, fun y hy => ?_⟩, fun g hg => ?_⟩
  · obtain ⟨hok, hpq, hhl, hperf, hap, hto, hwt⟩ := hf.slots j
    refine ⟨?_, ?_, ?_, ?_, ?_, ?_, ?_⟩ <;> rw [hslot]
    · exact hok
    · rw [hup]; exact hpq
    · rw [hup]; exact hhl
    · rw [hx, hperf, hidle]
      refine iff_of_false (by simp) fun e => hreq j ?_
      rw [Option.some.inj e]
    · rw [hd, wordGroup_congr s hw]; exact hap
    · rw [hd, wordGroup_congr s hw]; exact hto
    · rw [hd]; exact hwt
  · rw [hx] at hy
    obtain rfl := Option.some.inj hy
    exact hfit
  · rw [hd] at hg
    obtain ⟨i, hi⟩ := hc g hg
    exact ⟨i, by rw [hslot]; exact hi⟩

theorem requestsOk_grantDrain {s : State} (h : RequestsOk s) (hidle : s.port.current = none) : RequestsOk s.grantDrain := by
  unfold State.grantDrain
  split
  · exact h
  · exact requestsOk_grantOther h hidle rfl rfl rfl (x := { requester := .drain, kind := .write _ _, addr := _ }) rfl (by simp)
      (by simp [requesterFits])

/-- R10: the head of the pass queue is granted. -/
theorem requestsOk_grantPass {s : State} (h : RequestsOk s) (hidle : s.port.current = none) : RequestsOk s.grantPass := by
  obtain ⟨hf, hc⟩ := (requestsOk_iff s).1 h
  unfold State.grantPass
  split
  · exact h
  · rename_i i rest hq
    have hnd : i ∉ rest ∧ rest.Nodup := List.nodup_cons.1 (hq ▸ hf.passNodup)
    have hi : (s.slot i).state = .queued := (hf.slots i).passed.1 (by rw [hq]; simp)
    dsimp only
    set x : Transaction := { requester := .pass i, kind := (s.slot i).kind, addr := (s.slot i).addr }
    set t := ((s.grant .pass x).setPassQueue rest).setSlot i { s.slot i with state := .performing }
    have hslot (j : Fin 16) : t.slot j = if i = j then { s.slot i with state := .performing } else s.slot j :=
      setSlot_slot ((s.grant .pass x).setPassQueue rest) i j _
    have hcur : t.port.current = some x := rfl
    refine (requestsOk_iff t).2 ⟨⟨hnd.2, hf.holdNodup, fun j => ?_, fun y hy => ?_⟩, fun g hg => ?_⟩
    · obtain ⟨hok, hpq, hhl, hperf, hap, hto, hwt⟩ := hf.slots j
      by_cases e : i = j
      · subst e
        have hti : t.slot i = { s.slot i with state := .performing } := by rw [hslot, if_pos rfl]
        refine ⟨?_, ?_, ?_, ?_, ?_, ?_, ?_⟩ <;> rw [hti]
        · have : (s.slot i).prepared = none := by simpa [hi] using hok.1
          simp [SlotOk, this]
        · show i ∈ rest ↔ _
          simp [hnd.1]
        · show i ∈ s.upstream.holdList ↔ _
          rw [hhl, hi]
          simp
        · rw [hcur]
          simp [x]
        · simp
        · simp
        · exact hwt
      · have htj : t.slot j = s.slot j := by rw [hslot, if_neg e]
        refine ⟨?_, ?_, ?_, ?_, ?_, ?_, ?_⟩ <;> rw [htj]
        · exact hok
        · rw [← hpq, hq]
          show j ∈ rest ↔ _
          simp [Ne.symm e]
        · exact hhl
        · rw [hperf, hcur, hidle]
          refine iff_of_false (by simp) fun h => e ?_
          have := congrArg Transaction.requester (Option.some.inj h)
          simpa [x] using this
        · exact hap
        · exact hto
        · exact hwt
    · rw [hcur] at hy
      obtain rfl := Option.some.inj hy
      simp [requesterFits, x, hslot]
    · obtain ⟨j, hj⟩ := hc g hg
      refine ⟨j, ?_⟩
      rw [hslot]
      split
      · rename_i e
        rw [e]
        exact hj
      · exact hj

theorem requestsOk_grantService {s : State} (h : RequestsOk s) (hidle : s.port.current = none) : RequestsOk s.grantService := by
  unfold State.grantService
  split
  · exact h
  · rename_i r _
    cases r with
    | probe w => exact requestsOk_grantOther h hidle rfl rfl rfl rfl (by simp [State.serviceTransaction]) rfl
    | peek a => exact requestsOk_grantOther h hidle rfl rfl rfl rfl (by simp [State.serviceTransaction]) rfl
    | poke a d m =>
      exact requestsOk_grantOther h hidle rfl rfl rfl rfl (by simp [State.serviceTransaction]) (by simp [requesterFits, State.serviceTransaction])

theorem requestsOk_arbitrate {s : State} (h : RequestsOk s) : RequestsOk s.arbitrate := by
  rcases arbitrate_cases s with e | ⟨-, hidle, ⟨-, e⟩ | ⟨-, e⟩ | ⟨-, e⟩⟩ <;> rw [e]
  · exact h
  · exact requestsOk_grantDrain h hidle
  · exact requestsOk_grantPass h hidle
  · exact requestsOk_grantService h hidle

/-! ### TRANSACTION_PERFORMED -/

/-- R100: a transaction of another requester than the pass queue leaves the port. -/
theorem requestsFit_idle {s : State} (h : RequestsOk s) {x : Transaction} (hx : s.port.current = some x) (hreq : ∀ i, x.requester ≠ .pass i)
    (m : List Host.Cell) : RequestsFit ((s.setPort { s.port with current := none }).setMem m) := by
  obtain ⟨hf, -⟩ := (requestsOk_iff s).1 h
  refine ⟨hf.passNodup, hf.holdNodup, fun j => ?_, fun y hy => by cases hy⟩
  obtain ⟨hok, hpq, hhl, hperf, hap, hto, hwt⟩ := hf.slots j
  refine ⟨hok, hpq, hhl, ?_, hap, hto, hwt⟩
  refine hperf.trans (iff_of_false (fun e => hreq j ?_) (by simp))
  rw [hx] at e
  rw [Option.some.inj e]

/-- R11: the slot of a PASS transaction that is performed is answered. -/
theorem passPerformed_answered (s : State) (i : Fin 16) (error : Bool) (word : Word) :
    ∃ p snap, s.passPerformed i error word = s.setSlot i ((s.slot i).answered p snap) := by
  have hans (r : Response) : s.answer i r true = s.setSlot i ((s.slot i).answered { response := r, performed := true } (s.slot i).snapshot) := rfl
  unfold State.passPerformed
  dsimp only
  split
  · refine ⟨{ response := .error .memory, performed := true }, none, ?_⟩
    unfold State.answer
    rw [setSlot_slot, if_pos rfl]
    simp only [State.setSlot, Vector.set_set]
    rfl
  · split
    · exact ⟨_, _, hans _⟩
    · exact ⟨_, _, hans _⟩

theorem requestsFit_passPerformed {s u : State} (h : RequestsOk s) {x : Transaction} (hx : s.port.current = some x) {i : Fin 16}
    (hi : x.requester = .pass i) (hup : u.upstream = s.upstream) (hw : u.windows = s.windows) (hd : u.drain = s.drain)
    (hcur : u.port.current = none) (error : Bool) (word : Word) : RequestsFit (u.passPerformed i error word) := by
  obtain ⟨hf, -⟩ := (requestsOk_iff s).1 h
  obtain ⟨p, snap, he⟩ := passPerformed_answered u i error word
  have hui (j : Fin 16) : u.slot j = s.slot j := by simp only [State.slot, hup]
  have hperf : (s.slot i).state = .performing := by
    have := hf.requester x hx
    simpa [requesterFits, hi] using this
  rw [he]
  have hslot (j : Fin 16) : (u.setSlot i ((u.slot i).answered p snap)).slot j = if i = j then (s.slot i).answered p snap else s.slot j := by
    rw [setSlot_slot, hui, hui]
  refine ⟨by rw [setSlot_passQueue, hup]; exact hf.passNodup, by rw [setSlot_holdList, hup]; exact hf.holdNodup, fun j => ?_, fun y hy => ?_⟩
  · obtain ⟨hok, hpq, hhl, hp, hap, hto, hwt⟩ := hf.slots j
    by_cases e : i = j
    · subst e
      have hti := hslot i
      rw [if_pos rfl] at hti
      refine ⟨?_, ?_, ?_, ?_, ?_, ?_, ?_⟩ <;> rw [hti]
      · simp [SlotOk, Slot.answered]
      · rw [setSlot_passQueue, hup, hpq, hperf]
        simp [Slot.answered]
      · rw [setSlot_holdList, hup, hhl, hperf]
        simp [Slot.answered]
      · rw [setSlot_port, hcur]
        simp [Slot.answered]
      · simp [Slot.answered]
      · simp [Slot.answered]
      · simp [Slot.answered]
    · have hti := hslot j
      rw [if_neg e] at hti
      refine ⟨?_, ?_, ?_, ?_, ?_, ?_, ?_⟩ <;> rw [hti]
      · exact hok
      · rw [setSlot_passQueue, hup]; exact hpq
      · rw [setSlot_holdList, hup]; exact hhl
      · rw [setSlot_port, hcur, hp, hx]
        refine iff_of_false (fun h => e ?_) (by simp)
        have := congrArg Transaction.requester (Option.some.inj h)
        rw [hi] at this
        exact Requester.pass.inj this
      · rw [setSlot_drain, hd, wordGroup_congr u (t := u.setSlot i _) rfl, wordGroup_congr s hw]; exact hap
      · rw [setSlot_drain, hd, wordGroup_congr u (t := u.setSlot i _) rfl, wordGroup_congr s hw]; exact hto
      · rw [setSlot_drain, hd]; exact hwt
  · rw [setSlot_port, hcur] at hy
    cases hy

theorem requestsOk_performed {s : State} (h : RequestsOk s) (error : Bool) (rdata : Word) : RequestsOk (s.performed error rdata) := by
  unfold State.performed
  split
  · exact h
  · rename_i x hx
    unfold State.perform
    dsimp only
    set v := (s.setPort { s.port with current := none }).setMem (memoryAfter s.mem x error rdata)
    have hl := reportLanded_watchesOnly v x error
    refine requestsOk_reportBlocks (RequestsFit.reportClearance ?_)
    cases hr : x.requester with
    | pass i =>
      exact requestsFit_passPerformed h hx hr hl.upstream hl.windows hl.drain (by rw [hl.port]; rfl) error _
    | drain =>
      exact (requestsFit_idle h hx (by simp [hr]) _).engineOnly ((EngineOnly.of_watchesOnly hl).trans (drainPerformed_engineOnly _ _))
    | probe w =>
      exact (requestsFit_idle h hx (by simp [hr]) _).engineOnly
        (.of_watchesOnly (hl.trans (probeResult_watchesOnly _ _ _ _)))
    | peek =>
      have hv := (requestsFit_idle h hx (by simp [hr]) (memoryAfter s.mem x error rdata)).engineOnly (.of_watchesOnly hl)
      show RequestsFit (State.peekPerformed _ _ _)
      unfold State.peekPerformed
      split <;> exact hv.congr rfl rfl rfl rfl rfl rfl rfl
    | poke =>
      have hv := (requestsFit_idle h hx (by simp [hr]) (memoryAfter s.mem x error rdata)).engineOnly (.of_watchesOnly hl)
      show RequestsFit (State.pokePerformed _ _)
      unfold State.pokePerformed
      split <;> exact hv.congr rfl rfl rfl rfl rfl rfl rfl

end Sys2Proof.Machine

/-! PROOFS. Chapters 01 and 05: the drain engine's items, the window table and the resets keep the request invariant. -/

namespace Sys2Proof.Machine

open Sys2Proof.Safety

/-! ### DRAIN_TAKE_ITEM (R15) -/

theorem slotIn_iff (s : State) (g : Fin 8) (i : Fin 16) : s.slotIn g i = true ↔ s.wordGroup (s.slot i).addr = some g := by
  simp [State.slotIn]

/-- R15: from an IDLE engine, the item's start moves the group's queued requests to the empty hold list. -/
theorem requestsOk_holdAtStart {s : State} (h : RequestsOk s) (hidle : s.drain.current = none) (it : Item) :
    RequestsOk ((s.makeCurrent it).holdAtStart it.group) := by
  obtain ⟨hf, hc⟩ := (requestsOk_iff s).1 h
  obtain ⟨v, he, hv⟩ := holdAtStart_spec (s.makeCurrent it) it.group hf.passNodup
  rw [he]
  set t : State := { s.makeCurrent it with upstream := _ } with ht
  have hnone (j : Fin 16) : (s.slot j).state ≠ .held := fun e => by
    obtain ⟨x, hx, -⟩ := (hf.slots j).together e
    rw [hidle] at hx
    cases hx
  have hempty : s.upstream.holdList = [] :=
    List.eq_nil_iff_forall_not_mem.2 fun j hj => hnone j ((hf.slots j).held.1 hj)
  have hslot (j : Fin 16) : t.slot j = if j ∈ s.upstream.passQueue ∧ s.wordGroup (s.slot j).addr = some it.group
      then { s.slot j with state := .held } else s.slot j := by
    have := hv j
    simp only [slotIn_iff] at this
    exact this
  have hpass (j : Fin 16) : j ∈ t.upstream.passQueue ↔ j ∈ s.upstream.passQueue ∧ ¬ s.wordGroup (s.slot j).addr = some it.group := by
    show j ∈ s.upstream.passQueue.filter _ ↔ _
    rw [List.mem_filter, Bool.not_eq_true', ← Bool.not_eq_true, slotIn_iff]
    rfl
  have hhold (j : Fin 16) : j ∈ t.upstream.holdList ↔ j ∈ s.upstream.passQueue ∧ s.wordGroup (s.slot j).addr = some it.group := by
    show j ∈ s.upstream.holdList ++ s.upstream.passQueue.filter _ ↔ _
    rw [hempty, List.nil_append, List.mem_filter, slotIn_iff]
    rfl
  have hcur : t.drain.current = some it := rfl
  refine (requestsOk_iff t).2 ⟨⟨hf.passNodup.filter _, ?_, fun j => ?_, fun x hx => ?_⟩, fun g hg => ?_⟩
  · show (s.upstream.holdList ++ _).Nodup
    rw [hempty, List.nil_append]
    exact hf.passNodup.filter _
  · obtain ⟨hok, hpq, hhl, hperf, -, -, hwt⟩ := hf.slots j
    by_cases e : j ∈ s.upstream.passQueue ∧ s.wordGroup (s.slot j).addr = some it.group
    · have hq := hpq.1 e.1
      have hj := hslot j
      rw [if_pos e] at hj
      refine ⟨?_, ?_, ?_, ?_, ?_, ?_, ?_⟩ <;> rw [hj]
      · have : (s.slot j).prepared = none := by simpa [hq] using hok.1
        simp [SlotOk, this]
      · simp [hpass, e]
      · simp [hhold, e]
      · refine iff_of_false (by simp) fun hp => ?_
        rw [hperf.2 hp] at hq
        cases hq
      · simp
      · exact fun _ => ⟨it, hcur, e.2⟩
      · exact hwt
    · have hj := hslot j
      rw [if_neg e] at hj
      refine ⟨?_, ?_, ?_, ?_, ?_, ?_, ?_⟩ <;> rw [hj]
      · exact hok
      · rw [hpass, ← hpq]
        tauto
      · rw [hhold]
        exact iff_of_false e (hnone j)
      · exact hperf
      · rintro hq x hx hw
        obtain rfl := Option.some.inj (hcur.symm.trans hx)
        exact e ⟨hpq.2 hq, hw⟩
      · exact fun hh => absurd hh (hnone j)
      · exact hwt
  · refine requesterFits_mono (hf.requester x hx) fun i hi => ?_
    rw [hslot, if_neg]
    · exact hi
    · rintro ⟨hq, -⟩
      rw [(hf.slots i).passed, hi] at hq
      cases hq
  · obtain ⟨i, hi⟩ := hc g hg
    refine ⟨i, ?_⟩
    rw [hslot]
    split <;> exact hi

theorem requestsOk_decideItem {s : State} (h : RequestsOk s) : RequestsOk s.decideItem := by
  unfold State.decideItem
  split
  · exact h
  · rename_i hc
    split
    · have hidle : s.drain.current = none := by simp_all
      exact requestsOk_engineOnly (requestsOk_holdAtStart h hidle _) (takeItem_engineOnly s _)
    · exact h

/-! ### END_REPORT (R18, R19) -/

/-- R18: from `s`, the slots of `done` have been decided again, and those of `out` return to the pass queue. -/
structure Decided (s u : State) (done out : List (Fin 16)) : Prop where
  frame : RequestsOnly s u
  passQueue : u.upstream.passQueue = s.upstream.passQueue
  holdList : u.upstream.holdList = s.upstream.holdList
  sub : ∀ j ∈ out, j ∈ done
  nodup : out.Nodup
  kept : ∀ j, j ∉ done → u.slot j = s.slot j
  back : ∀ j ∈ out, ∃ snap, u.slot j = { s.slot j with state := .queued, snapshot := snap }
  rest : ∀ j ∈ done, j ∉ out → ∃ p snap, u.slot j = (s.slot j).answered p snap

theorem Decided.refl (s : State) : Decided s s [] [] :=
  ⟨.refl s, rfl, rfl, by simp, .nil, fun _ _ => rfl, by simp, by simp⟩

theorem Decided.step {s u : State} {done out : List (Fin 16)} (h : Decided s u done out) {i : Fin 16} (hi : i ∉ done) :
    Decided s (reDecode (u, out) i).1 (done ++ [i]) (reDecode (u, out) i).2 := by
  have hui := h.kept i hi
  have hout : i ∉ out := fun hm => hi (h.sub i hm)
  unfold reDecode
  dsimp only
  cases hr : (u.route i).toMemory with
  | true =>
    obtain ⟨snap, he⟩ := follow_toMemory (s := u) (i := i) hr
    rw [he, if_pos rfl]
    have hslot (j : Fin 16) := setSlot_slot u i j { u.slot i with state := .queued, snapshot := snap }
    refine ⟨h.frame.trans (setSlot_requestsOnly u i _), h.passQueue, h.holdList, ?_, h.nodup.append (by simp) (by simpa using hout), fun j hj => ?_,
      fun j hj => ?_, fun j hj hjo => ?_⟩
    · intro j hj
      rcases List.mem_append.1 hj with hj | hj
      · exact List.mem_append_left _ (h.sub j hj)
      · exact List.mem_append_right _ hj
    · rw [hslot, if_neg (by rintro rfl; simp at hj)]
      exact h.kept j fun hm => hj (List.mem_append_left _ hm)
    · rw [hslot]
      split
      · rename_i e
        subst e
        exact ⟨snap, by rw [hui]⟩
      · rename_i e
        exact h.back j ((List.mem_append.1 hj).resolve_right (by simp [Ne.symm e]))
    · have e : i ≠ j := by rintro rfl; simp at hjo
      rw [hslot, if_neg e]
      exact h.rest j ((List.mem_append.1 hj).resolve_right (by simp [Ne.symm e])) fun hm => hjo (List.mem_append_left _ hm)
  | false =>
    obtain ⟨p, snap, hg⟩ := follow_answered hr
    rw [if_neg (by simp)]
    have hslot (j : Fin 16) : (u.follow i (u.route i)).slot j = if i = j then (u.slot i).answered p snap else u.slot j := by
      rw [hg.slot, setSlot_slot]
    refine ⟨h.frame.trans (follow_requestsOnly u i _), ?_, ?_, fun j hj => List.mem_append_left _ (h.sub j hj), h.nodup, fun j hj => ?_,
      fun j hj => ?_, fun j hj hjo => ?_⟩
    · rw [hg.upstream]
      exact h.passQueue
    · rw [hg.upstream]
      exact h.holdList
    · rw [hslot, if_neg (by rintro rfl; simp at hj)]
      exact h.kept j fun hm => hj (List.mem_append_left _ hm)
    · rw [hslot, if_neg (by rintro rfl; exact hout hj)]
      exact h.back j hj
    · rw [hslot]
      split
      · rename_i e
        subst e
        exact ⟨p, snap, by rw [hui]⟩
      · rename_i e
        exact h.rest j ((List.mem_append.1 hj).resolve_right (by simp [Ne.symm e])) hjo

theorem Decided.foldl {s : State} (l : List (Fin 16)) {done : List (Fin 16)} (hl : (done ++ l).Nodup) {acc : State × List (Fin 16)}
    (h : Decided s acc.1 done acc.2) : Decided s (l.foldl reDecode acc).1 (done ++ l) (l.foldl reDecode acc).2 := by
  induction l generalizing done acc with
  | nil => simpa using h
  | cons i l ih =>
    have hi : i ∉ done := fun hm => (List.nodup_append.1 hl).2.2 i hm i (by simp) rfl
    have := ih (done := done ++ [i]) (by simpa using hl) (acc := reDecode acc i) (h.step hi)
    simpa using this

/-- R15: every held request is of the current item's group, so its end releases them all. -/
theorem released_eq {s : State} (h : RequestsFit s) {it : Item} (hit : s.drain.current = some it) :
    s.upstream.holdList.filter (s.slotIn it.group) = s.upstream.holdList ∧
      s.upstream.holdList.filter (fun i => !s.slotIn it.group i) = [] := by
  have hall : ∀ j ∈ s.upstream.holdList, s.slotIn it.group j = true := fun j hj => by
    obtain ⟨x, hx, hw⟩ := (h.slots j).together ((h.slots j).held.1 hj)
    rw [hit] at hx
    obtain rfl := Option.some.inj hx
    exact (slotIn_iff s _ j).2 hw
  exact ⟨List.filter_eq_self.2 hall, List.filter_eq_nil_iff.2 fun j hj => by simp [hall j hj]⟩

/-- R18, R19: what the return of the held requests leaves. -/
theorem returnHeld_spec {s : State} (h : RequestsFit s) {it : Item} (hit : s.drain.current = some it) :
    ∃ u out v, Decided (s.setHoldList []) u s.upstream.holdList out ∧
      (u, out) = s.upstream.holdList.foldl reDecode (s.setHoldList [], []) ∧
      s.returnHeld it.group = { u with upstream := { u.upstream with slots := v, passQueue := out ++ s.upstream.passQueue } } ∧
      ∀ j : Fin 16, v[j] = if j ∈ out then { u.slot j with returnMark := some it.group } else u.slot j := by
  obtain ⟨hall, hno⟩ := released_eq h hit
  have hd := Decided.foldl (s := s.setHoldList []) s.upstream.holdList (done := []) (by simpa using h.holdNodup) (acc := (s.setHoldList [], []))
    (.refl _)
  rw [List.nil_append] at hd
  set r := s.upstream.holdList.foldl reDecode (s.setHoldList [], []) with hr
  obtain ⟨v, hv, hj⟩ := foldl_setSlot (fun x => { x with returnMark := some it.group }) r.2 hd.nodup
    (r.1.setPassQueue (r.2 ++ r.1.upstream.passQueue))
  refine ⟨r.1, r.2, v, hd, rfl, ?_, hj⟩
  have hq : r.1.upstream.passQueue = s.upstream.passQueue := hd.passQueue
  unfold State.returnHeld
  dsimp only
  rw [hall, hno, ← hr, hv, hq]
  rfl

/-- R96: the state at an end report before clearance and blocks report. -/
def State.itemEnded (s : State) (g : Fin 8) : State :=
  (s.returnHeld g).setDrain { (s.returnHeld g).drain with
    current := none, clearanceWait := (s.returnHeld g).drain.clearanceWait.set g true }

theorem reportEnd_eq (s : State) (g : Fin 8) : s.reportEnd g = (s.itemEnded g).reportClearance.reportBlocks := rfl

/-- R18, R19: the engine is IDLE, the held requests are answered or wait at the head of the pass queue with the group's mark. -/
theorem requestsFit_itemEnded {s : State} (h : RequestsFit s) {it : Item} (hit : s.drain.current = some it) :
    RequestsFit (s.itemEnded it.group) := by
  unfold State.itemEnded
  obtain ⟨u, out, v, hd, -, he, hv⟩ := returnHeld_spec h hit
  rw [he]
  dsimp only
  have hdrain : u.drain = s.drain := hd.frame.drain
  have hport : u.port = s.port := hd.frame.port
  rw [hdrain]
  set t : State := State.setDrain _ _ with ht
  have hslot (j : Fin 16) : t.slot j = if j ∈ out then { u.slot j with returnMark := some it.group } else u.slot j := hv j
  have hpq : t.upstream.passQueue = out ++ s.upstream.passQueue := rfl
  have hhl : t.upstream.holdList = [] := hd.holdList
  have hcur : t.port.current = s.port.current := congrArg Port.current hport
  have hidle : t.drain.current = none := rfl
  have hcw (g : Fin 8) : t.drain.clearanceWait[g] = true ↔ it.group = g ∨ s.drain.clearanceWait[g] = true := by
    show (s.drain.clearanceWait.set it.group true)[g] = true ↔ _
    simp only [Fin.getElem_fin, Vector.getElem_set, Fin.val_inj]
    split <;> simp_all
  refine ⟨?_, by rw [hhl]; exact .nil, fun j => ?_, fun x hx => ?_⟩
  · rw [hpq]
    refine hd.nodup.append h.passNodup fun j hj hjq => ?_
    have hheld := (h.slots j).held.1 (hd.sub j hj)
    rw [(h.slots j).passed.1 hjq] at hheld
    cases hheld
  · obtain ⟨hok, hp, hh, hperf, -, -, hwt⟩ := h.slots j
    by_cases ho : j ∈ out
    · have hheld := hh.1 (hd.sub j ho)
      have hj := hslot j
      obtain ⟨snap, hb⟩ := hd.back j ho
      rw [if_pos ho, hb] at hj
      replace hj : t.slot j = { s.slot j with state := .queued, snapshot := snap, returnMark := some it.group } := hj
      refine ⟨?_, ?_, ?_, ?_, ?_, ?_, ?_⟩ <;> rw [hj]
      · have : (s.slot j).prepared = none := by simpa [hheld] using hok.1
        simp [SlotOk, this]
      · simp [hpq, ho]
      · simp [hhl]
      · rw [hcur]
        refine iff_of_false (by simp) fun hx => ?_
        rw [hperf.2 hx] at hheld
        cases hheld
      · simp [hidle]
      · simp
      · exact fun g hg => (hcw g).2 (.inl (Option.some.inj hg))
    · by_cases hl : j ∈ s.upstream.holdList
      · have hheld := hh.1 hl
        have hj := hslot j
        obtain ⟨p, snap, hb⟩ := hd.rest j hl ho
        rw [if_neg ho, hb] at hj
        replace hj : t.slot j = (s.slot j).answered p snap := hj
        have hnp : j ∉ s.upstream.passQueue := by rw [hp, hheld]; simp
        refine ⟨?_, ?_, ?_, ?_, ?_, ?_, ?_⟩ <;> rw [hj]
        · simp [SlotOk, Slot.answered]
        · simp [hpq, ho, hnp, Slot.answered]
        · simp [hhl, Slot.answered]
        · rw [hcur]
          refine iff_of_false (by simp [Slot.answered]) fun hx => ?_
          rw [hperf.2 hx] at hheld
          cases hheld
        · simp [Slot.answered]
        · simp [Slot.answered]
        · simp [Slot.answered]
      · have hj := hslot j
        rw [if_neg ho, hd.kept j hl] at hj
        replace hj : t.slot j = s.slot j := hj
        refine ⟨?_, ?_, ?_, ?_, ?_, ?_, ?_⟩ <;> rw [hj]
        · exact hok
        · simp [hpq, ho, hp]
        · rw [hhl, ← hh]
          simp [hl]
        · rw [hcur]; exact hperf
        · simp [hidle]
        · exact fun e => absurd (hh.2 e) hl
        · exact fun g hg => (hcw g).2 (.inr (hwt g hg))
  · rw [hcur] at hx
    refine requesterFits_mono (h.requester x hx) fun i hi => ?_
    have hnl : i ∉ s.upstream.holdList := by rw [(h.slots i).held, hi]; simp
    rw [hslot, if_neg fun ho => hnl (hd.sub i ho), hd.kept i hnl]
    exact hi

theorem requestsOk_endItem {s : State} (h : RequestsOk s) : RequestsOk s.endItem := by
  unfold State.endItem
  split
  · exact h
  · rename_i it hit
    split
    · rw [reportEnd_eq]
      exact requestsOk_reportBlocks (requestsFit_itemEnded ((requestsOk_iff s).1 h).1 hit).reportClearance
    · exact h

/-! ### The window table (R24) -/

/-- R24: a taken write moves no word into or out of the current item's group. -/
theorem wordGroup_writeWindow {s t : State} {n : Fin 16} {f : WindowFields} {data : List Byte} (hs : WindowsDisjoint s)
    (h : s.writeWindow n f = .ok (data, t)) {it : Item} (hit : s.drain.current = some it) (a : WordAddr) :
    t.wordGroup a = some it.group ↔ s.wordGroup a = some it.group := by
  have ht := windowsDisjoint_writeWindow hs h
  obtain ⟨rfl, hold, hnew, -⟩ := writeWindow_ok h
  have hbusy {w : Window} (hw : s.windowBusy w = false) (hc : w.covers a = true) : w.group ≠ it.group := fun e => by
    simp [State.windowBusy, covers_enabled hc, State.itemCurrent, hit, e] at hw
  have hget (m : Fin 16) : (s.windows.set n (windowRecord f))[m] = if n = m then windowRecord f else s.windows[m] := by
    simp only [Fin.getElem_fin, Vector.getElem_set, Fin.ext_iff]
  rw [wordGroup_eq_some ht, wordGroup_eq_some hs]
  refine exists_congr fun m => ?_
  show (s.windows.set n (windowRecord f))[m].covers a = true ∧ (s.windows.set n (windowRecord f))[m].group = it.group ↔ _
  rw [hget]
  by_cases e : n = m
  · subst e
    rw [if_pos rfl]
    exact iff_of_false (fun hc => hbusy hnew hc.1 hc.2) (fun hc => hbusy hold hc.1 hc.2)
  · rw [if_neg e]

theorem requestsOk_writeWindow {s t : State} {n : Fin 16} {f : WindowFields} {data : List Byte} (hs : WindowsDisjoint s)
    (hok : RequestsOk s) (h : s.writeWindow n f = .ok (data, t)) : RequestsOk t := by
  have hw {it : Item} (hit : s.drain.current = some it) (a : WordAddr) := wordGroup_writeWindow hs h hit a
  obtain ⟨rfl, -⟩ := writeWindow_ok h
  obtain ⟨hf, hc⟩ := (requestsOk_iff s).1 hok
  refine (requestsOk_iff _).2 ⟨⟨hf.passNodup, hf.holdNodup, fun j => ?_, hf.requester⟩, hc⟩
  obtain ⟨h1, h2, h3, h4, hap, hto, h7⟩ := hf.slots j
  refine ⟨h1, h2, h3, h4, fun hq it hit e => ?_, fun hh => ?_, h7⟩
  · exact hap hq it hit ((hw hit (s.slot j).addr).1 e)
  · obtain ⟨it, hit, e⟩ := hto hh
    exact ⟨it, hit, (hw hit (s.slot j).addr).2 e⟩

/-! ### The resets (R20, R21, R165) -/

/-- R21: the soft reset leaves no request queued or held. -/
theorem requestsFit_softResetBlocks {s u : State} (h : RequestsFit s) (hu : u.upstream = { s.upstream with
      slots := s.upstream.slots.map Slot.softReset, passQueue := [], holdList := [] })
    (hcur : u.port.current = s.port.current) (hcw : u.drain.clearanceWait = s.drain.clearanceWait) : RequestsFit u := by
  have hslot (j : Fin 16) : u.slot j = (s.slot j).softReset := by simp [State.slot, hu]
  have hperf (j : Fin 16) : (u.slot j).state = .performing ↔ (s.slot j).state = .performing := by
    rw [hslot]
    obtain ⟨state, _, _, _, _, prepared, _⟩ := s.slot j
    rcases prepared with - | ⟨r, - | -⟩ <;> cases state <;> simp [Slot.softReset]
  have hword (j : Fin 16) : (u.slot j).kind = (s.slot j).kind ∧ (u.slot j).addr = (s.slot j).addr := by
    rw [hslot]
    obtain ⟨state, _, _, _, _, prepared, _⟩ := s.slot j
    rcases prepared with - | ⟨r, - | -⟩ <;> cases state <;> exact ⟨rfl, rfl⟩
  have hgone (j : Fin 16) : (u.slot j).state ≠ .queued ∧ (u.slot j).state ≠ .held := by
    rw [hslot]
    obtain ⟨state, _, _, _, _, prepared, _⟩ := s.slot j
    rcases prepared with - | ⟨r, - | -⟩ <;> cases state <;> simp [Slot.softReset]
  have hmark (j : Fin 16) (g : Fin 8) : (u.slot j).returnMark = some g → (s.slot j).returnMark = some g := by
    rw [hslot]
    obtain ⟨state, _, _, _, _, prepared, _⟩ := s.slot j
    rcases prepared with - | ⟨r, - | -⟩ <;> cases state <;> simp [Slot.softReset]
  have hok (j : Fin 16) : SlotOk (u.slot j) := by
    have := (h.slots j).ok
    rw [hslot]
    revert this
    obtain ⟨state, _, _, _, _, prepared, _⟩ := s.slot j
    rcases prepared with - | ⟨r, - | -⟩ <;> cases state <;> simp [Slot.softReset, SlotOk]
  refine ⟨by rw [hu]; exact .nil, by rw [hu]; exact .nil, fun j => ?_, fun x hx => ?_⟩
  · exact {
      ok := hok j
      passed := by rw [hu]; simpa using (hgone j).1
      held := by rw [hu]; simpa using (hgone j).2
      performing := by rw [hperf, hcur, (hword j).1, (hword j).2]; exact (h.slots j).performing
      apart := fun e => absurd e (hgone j).1
      together := fun e => absurd e (hgone j).2
      waits := fun g hg => by rw [hcw]; exact (h.slots j).waits g (hmark j g hg) }
  · rw [hcur] at hx
    exact requesterFits_mono (h.requester x hx) fun i hi => (hperf i).2 hi

theorem requestsOk_tryComplete {s : State} (h : RequestsOk s) : RequestsOk s.tryComplete := by
  obtain ⟨gs, e, l, ht, -⟩ := tryComplete_frame s
  rw [ht]
  exact requestsOk_congr h rfl rfl rfl rfl rfl rfl rfl

/-- What SOFT_RESET leaves of the upstream port, the memory port's transaction and the clearance flags before its reports. -/
theorem softResetBlocks_upstream (s : State) :
    s.softResetBlocks.upstream = s.softResetSlots.upstream ∧ s.softResetBlocks.port.current = s.port.current ∧
      s.softResetBlocks.drain = s.drain ∧ s.softResetBlocks.windows = s.windows := by
  obtain ⟨gs, n, hb, -, -⟩ := softResetBlocks_spec s
  obtain ⟨ws, q, hw, -⟩ := foldl_softResetWatch watchNumbers watchNumbers_nodup { s.softResetSlots with
    groups := gs, freeSlots := n, releaseQueue := [], baseA := s.baseA.softReset, baseB := s.baseB.softReset }
  rw [hb, hw]
  exact ⟨rfl, rfl, rfl, rfl⟩

theorem requestsOk_softReset {s : State} (h : RequestsOk s) : RequestsOk (softResetBody s) := by
  unfold softResetBody
  dsimp only
  set v := (s.makePending .softReset).setLink { (s.makePending .softReset).link with reports := BlockReports.reset }
  have hv : RequestsOk v := requestsOk_congr h rfl rfl rfl rfl rfl rfl rfl
  obtain ⟨hup, hp, hd, -⟩ := softResetBlocks_upstream v
  exact requestsOk_tryComplete (requestsOk_reportBlocks
    (requestsFit_softResetBlocks ((requestsOk_iff v).1 hv).1 hup hp (by rw [hd])).reportClearance)

/-- R20: every slot is FREE and the port IDLE. -/
theorem requestsOk_powerOn (s : State) : RequestsOk s.powerOn := by
  have hslot (j : Fin 16) : s.powerOn.slot j = Slot.reset := by simp [State.slot, State.powerOn, State.reset, Upstream.reset]
  refine (requestsOk_iff _).2 ⟨⟨.nil, .nil, fun j => ?_, fun x hx => by cases hx⟩, fun g hg => ?_⟩
  · refine ⟨?_, ?_, ?_, ?_, ?_, ?_, ?_⟩ <;> rw [hslot]
    · simp [SlotOk, Slot.reset]
    · exact iff_of_false (by simp [State.powerOn, State.reset, Upstream.reset]) (by simp [Slot.reset])
    · exact iff_of_false (by simp [State.powerOn, State.reset, Upstream.reset]) (by simp [Slot.reset])
    · exact iff_of_false (by simp [Slot.reset]) (by simp [State.powerOn, State.reset, Port.reset])
    · simp [Slot.reset]
    · simp [Slot.reset]
    · simp [Slot.reset]
  · revert hg
    simp [State.powerOn, State.reset, Drain.reset]

/-! ### The window table through the other operations -/

theorem reportBlocks_windows (s : State) : s.reportBlocks.windows = s.windows := by
  obtain ⟨_, _, _, h⟩ := reportBlocks_spec s
  rw [h]

theorem reportClearance_windows (s : State) : s.reportClearance.windows = s.windows := by
  obtain ⟨_, h, -⟩ := reportClearance_spec s
  rw [h]
  rfl

theorem issueResponse_windows (s : State) (i t : BitVec 2) : (s.issueResponse i t).windows = s.windows := by
  unfold State.issueResponse
  dsimp only
  split
  · split
    · rfl
    · exact reportBlocks_windows _
  · rfl

theorem arbitrate_windows (s : State) : s.arbitrate.windows = s.windows := by
  obtain ⟨u, p, ws, h⟩ := arbitrate_eq s
  rw [h]

theorem decideItem_windows (s : State) : s.decideItem.windows = s.windows := by
  unfold State.decideItem
  split
  · rfl
  · split
    · rename_i it _
      obtain ⟨u, hu⟩ := holdAtStart_eq (s.makeCurrent it) it.group
      rw [(takeItem_engineOnly s it).windows, hu]
      rfl
    · rfl

theorem endItem_windows (s : State) : s.endItem.windows = s.windows := by
  unfold State.endItem
  split
  · rfl
  · split
    · unfold State.reportEnd
      dsimp only
      rw [reportBlocks_windows, reportClearance_windows]
      exact (returnHeld_requestsOnly s _).windows
    · rfl

theorem toRequester_windows (s : State) (r : Requester) (error : Bool) (word : Word) : (s.toRequester r error word).windows = s.windows := by
  cases r with
  | pass i => exact (passPerformed_requestsOnly s i error word).windows
  | drain => exact (drainPerformed_engineOnly s error).windows
  | probe w => exact (probeResult_watchesOnly s w error word).windows
  | peek =>
    show (s.peekPerformed error word).windows = _
    unfold State.peekPerformed
    split <;> rfl
  | poke =>
    show (s.pokePerformed error).windows = _
    unfold State.pokePerformed
    split <;> rfl

theorem performed_windows (s : State) (error : Bool) (rdata : Word) : (s.performed error rdata).windows = s.windows := by
  unfold State.performed
  split
  · rfl
  · unfold State.perform
    dsimp only
    rw [reportBlocks_windows, reportClearance_windows, toRequester_windows, (reportLanded_watchesOnly _ _ _).windows]
    rfl

theorem softResetBody_windows (s : State) : (softResetBody s).windows = s.windows := by
  obtain ⟨u, hu, h⟩ := softResetBody_spec s
  obtain ⟨gs, e, l, ht, -⟩ := tryComplete_frame (reported u)
  rw [h, ht, hu.reported_eq]
  exact hu.windows

theorem windowsDisjoint_powerOn (s : State) : WindowsDisjoint s.powerOn := by
  intro m k _ a
  simp [State.powerOn, State.reset, Window.reset, Window.covers]

/-! ### Every step -/

/-- R23: where the windows are as before, none overlaps. -/
theorem windowsDisjoint_congr {s t : State} (h : WindowsDisjoint s) (hw : t.windows = s.windows) : WindowsDisjoint t := by
  intro m k hmk a
  rw [hw]
  exact h m k hmk a

theorem requestsOk_kept : CoreKept (fun _ => True) (fun s => WindowsDisjoint s ∧ RequestsOk s) where
  peripheral s t ht h :=
    ⟨windowsDisjoint_congr h.1 ht.windows, requestsOk_congr h.2 (by rw [ht.upstream]) (by rw [ht.upstream]) (by rw [ht.upstream]) ht.windows
      (by rw [ht.port]) (by rw [ht.drain]) (by rw [ht.drain])⟩
  newCycle s h := ⟨h.1, requestsOk_congr h.2 rfl rfl rfl rfl rfl rfl rfl⟩
  settleMarkAt s w h := by
    have he := EngineOnly.of_watchesOnly (settleMarkAt_watchesOnly s w)
    exact ⟨windowsDisjoint_congr h.1 he.windows, requestsOk_engineOnly h.2 he⟩
  upstreamRequest s i g k a h :=
    ⟨windowsDisjoint_congr h.1 (upstreamRequest_requestsOnly s i g k a).windows, requestsOk_upstreamRequest h.2 i g k a⟩
  issueResponse s i g _ h := ⟨windowsDisjoint_congr h.1 (issueResponse_windows s i g), requestsOk_issueResponse h.2 i g⟩
  arbitrate s h := ⟨windowsDisjoint_congr h.1 (arbitrate_windows s), requestsOk_arbitrate h.2⟩
  performed s e r _ h := ⟨windowsDisjoint_congr h.1 (performed_windows s e r), requestsOk_performed h.2 e r⟩
  decideItem s h := ⟨windowsDisjoint_congr h.1 (decideItem_windows s), requestsOk_decideItem h.2⟩
  endItem s _ h := ⟨windowsDisjoint_congr h.1 (endItem_windows s), requestsOk_endItem h.2⟩
  writeWindow n f s d t _ h hok := ⟨windowsDisjoint_writeWindow h.1 hok, requestsOk_writeWindow h.1 h.2 hok⟩
  writeWatch w f s d t _ h hok := by
    dsimp only [State.writeWatch, written] at hok
    repeat' split at hok
    all_goals cases hok
    exact ⟨h.1, requestsOk_congr h.2 rfl rfl rfl rfl rfl rfl rfl⟩
  writeMemport b s d t _ h hok := by
    dsimp only [State.writeMemport, written] at hok
    split at hok <;> cases hok
    exact ⟨h.1, requestsOk_congr h.2 rfl rfl rfl rfl rfl rfl rfl⟩
  arm w s d t _ h hok := by
    dsimp only [State.arm] at hok
    split at hok <;> cases hok
    exact ⟨h.1, requestsOk_congr h.2 rfl rfl rfl rfl rfl rfl rfl⟩
  disarm w s d t _ h hok := by
    dsimp only [State.disarm] at hok
    split at hok <;> cases hok
    have he := EngineOnly.of_watchesOnly (disarmWatch_watchesOnly s w)
    exact ⟨windowsDisjoint_congr h.1 he.windows, requestsOk_engineOnly h.2 he⟩
  newReference r m w s d t _ h hok := by
    cases hok
    have he := EngineOnly.of_watchesOnly (setReference_watchesOnly s w r m)
    exact ⟨windowsDisjoint_congr h.1 he.windows, requestsOk_engineOnly h.2 he⟩
  startPeek a s t _ h hok := by
    unfold State.startPeek at hok
    split at hok <;> cases hok
    exact ⟨h.1, requestsOk_congr h.2 rfl rfl rfl rfl rfl rfl rfl⟩
  startPoke a d m s t _ h hok := by
    unfold State.startPoke at hok
    split at hok
    · cases hok
    · split at hok <;> cases hok
      exact ⟨h.1, requestsOk_congr h.2 rfl rfl rfl rfl rfl rfl rfl⟩
  softReset s _ h := ⟨windowsDisjoint_congr h.1 (softResetBody_windows s), requestsOk_softReset h.2⟩
  tryComplete s _ h := by
    obtain ⟨gs, e, l, ht, -⟩ := tryComplete_frame s
    exact ⟨windowsDisjoint_congr h.1 (by rw [ht]), requestsOk_tryComplete h.2⟩
  powerOn s _ _ := ⟨windowsDisjoint_powerOn s, requestsOk_powerOn s⟩

/-- Settles O59: request table, lists, port and clearance flags are kept by what every command does there (`requestsOk_kept`). -/
theorem requestsKept : Obligations.RequestsKept := fun s t hd hs h =>
  (Kept.step requestsOk_kept.kept s t ⟨hd, hs⟩ h).2

end Sys2Proof.Machine

/-! PROOFS. Chapter 07: what each event does to the watches one by one, and to the service list: a landed write (R137, R138), a
period mark (R145), a retirement (R144). -/

namespace Sys2Proof.Machine

open Sys2Proof.Safety

/-! ### One watch's record and the service list -/

/-- The state with one watch's record and the service list replaced. -/
def State.watchAt (s : State) (w : Fin 12) (x : Watch) (q : List ServiceRequest) : State :=
  { s with watches := s.watches.set w x, port := { s.port with service := q } }

theorem setWatch_self (s : State) (w : Fin 12) : s.setWatch w (s.watch w) = s := by
  have : s.watches.set w (s.watch w) = s.watches := by simp [State.watch]
  unfold State.setWatch
  rw [this]

theorem setWatch_eq_watchAt (s : State) (w : Fin 12) (x : Watch) : s.setWatch w x = s.watchAt w x s.port.service := rfl

theorem watchAt_watch (s : State) (w v : Fin 12) (x : Watch) (q : List ServiceRequest) :
    (s.watchAt w x q).watch v = if w = v then x else s.watch v := setWatch_watch s w v x

/-- The groups' part of a step and a change of one watch go in either order. -/
theorem GroupsOnly.setWatch {s t : State} (h : GroupsOnly s t) (w : Fin 12) (x : Watch) : GroupsOnly (s.setWatch w x) (t.setWatch w x) := by
  obtain ⟨_, _, _, _, rfl⟩ := h
  exact ⟨_, _, _, _, rfl⟩

/-! ### An event dealt with at every watch (R83) -/

/-- The service requests that an event's step at each watch adds, in the order of the watches. -/
def joining (add : Watch → Bool) (s : State) (l : List (Fin 12)) : List ServiceRequest :=
  (l.filter fun w => add (s.watch w)).map ServiceRequest.probe

/-- Where a step changes its watch by `x`, and raises its probe where `add` says so, the fold does so at every watch. -/
theorem foldl_watchStep {f : State → Fin 12 → State} {x : Watch → Watch} {add : Watch → Bool}
    (hf : ∀ s w, GroupsOnly (s.watchAt w (x (s.watch w)) (s.port.service ++ joining add s [w])) (f s w)) (l : List (Fin 12)) (hl : l.Nodup)
    (s : State) :
    ∃ ws, GroupsOnly { s with watches := ws, port := { s.port with service := s.port.service ++ joining add s l } } (l.foldl f s) ∧
      ∀ w : Fin 12, ws[w] = if w ∈ l then x (s.watch w) else s.watch w := by
  induction l generalizing s with
  | nil => exact ⟨s.watches, by simpa [joining] using GroupsOnly.refl s, fun w => by simp [State.watch]⟩
  | cons a l ih =>
    obtain ⟨ha, hl⟩ := List.nodup_cons.1 hl
    obtain ⟨gs, n, q, e, hfa⟩ := hf s a
    have hwa (w : Fin 12) : (f s a).watch w = if a = w then x (s.watch a) else s.watch w := by
      rw [hfa]
      exact watchAt_watch s a w _ (s.port.service ++ joining add s [a])
    obtain ⟨ws, hg, hw⟩ := ih hl (f s a)
    have hjoin : joining add (f s a) l = joining add s l := by
      unfold joining
      rw [List.filter_congr fun w hw => by rw [hwa, if_neg (by rintro rfl; exact ha hw)]]
    have hcons : joining add s (a :: l) = joining add s [a] ++ joining add s l := by
      simp [joining, List.filter_cons]
      split <;> simp
    refine ⟨ws, ?_, fun w => ?_⟩
    · rw [List.foldl_cons]
      refine GroupsOnly.trans ?_ hg
      rw [hjoin, hcons, hfa]
      exact ⟨gs, n, q, e, by simp only [State.watchAt, List.append_assoc]⟩
    · rw [hw w, hwa]
      by_cases h : a = w
      · subst h; simp [ha]
      · simp [h, Ne.symm h]

/-- R83: the same for an event dealt with at every watch. -/
theorem eachWatch_step {f : State → Fin 12 → State} {x : Watch → Watch} {add : Watch → Bool}
    (hf : ∀ s w, GroupsOnly (s.watchAt w (x (s.watch w)) (s.port.service ++ joining add s [w])) (f s w)) (s : State) :
    GroupsOnly { s with
      watches := s.watches.map x
      port := { s.port with service := s.port.service ++ joining add s watchNumbers } } (s.eachWatch f) := by
  obtain ⟨ws, hg, hw⟩ := foldl_watchStep hf watchNumbers watchNumbers_nodup s
  have : ws = s.watches.map x := by
    apply Vector.ext
    intro i hi
    have := hw ⟨i, hi⟩
    rw [if_pos (mem_watchNumbers _)] at this
    simpa [State.watch] using this
  rw [← this]
  exact hg.trans (setReleaseQueue_groupsOnly _ _)

/-! ### Transitions (R137, R141, R142) -/

/-- R141, R142: a watch's record after a transition. -/
def Watch.transit (x : Watch) (f h : Found) : Watch :=
  { x with
    state := .compared h
    deferred := match f, h with
      | .agrees, .differs => x.deferred || decide (x.marks ≠ 0)
      | .differs, .agrees => false
      | .agrees, .agrees => x.deferred
      | .differs, .differs => x.deferred }

theorem Watch.transit_self {x : Watch} {f : Found} (h : x.state = .compared f) : x.transit f f = x := by
  obtain ⟨⟩ := x
  simp only at h
  subst h
  cases f <;> rfl

theorem toMismatch_step (s : State) (w : Fin 12) :
    GroupsOnly (s.setWatch w ((s.watch w).transit .agrees .differs)) (s.toMismatch w) := by
  unfold State.toMismatch Watch.transit
  dsimp only
  split
  · rename_i hm
    simp only [hm, ne_eq, not_true, decide_false, Bool.or_false]
    exact reportMismatch_groupsOnly _ _ _
  · rename_i hm
    simp only [ne_eq, hm, not_false_eq_true, decide_true, Bool.or_true]
    exact .refl _

theorem toMatch_step (s : State) (w : Fin 12) : GroupsOnly (s.setWatch w ((s.watch w).transit .differs .agrees)) (s.toMatch w) := by
  unfold State.toMatch Watch.transit
  dsimp only
  split
  · exact .refl _
  · split
    · exact submit_groupsOnly _ _
    · exact .refl _

theorem transition_step {s : State} {w : Fin 12} {f : Found} (h : Found) (hs : (s.watch w).state = .compared f) :
    GroupsOnly (s.setWatch w ((s.watch w).transit f h)) (s.transition w f h) := by
  cases f <;> cases h
  · rw [Watch.transit_self hs, setWatch_self]
    exact .refl s
  · exact toMismatch_step s w
  · exact toMatch_step s w
  · rw [Watch.transit_self hs, setWatch_self]
    exact .refl s

/-! ### A landed write (R137, R138) -/

/-- R137, R138: a watch's record after a landed write. -/
def Watch.landed (addr : WordAddr) (data : Word) (mask : Mask) (error : Bool) (x : Watch) : Watch :=
  match x.state with
  | .compared f =>
    if x.addr = addr then
      (if error then { x with state := .arming (.reArm f), probe := .raised }
       else { x with shadow := mergeLanes mask x.shadow data }.transit f (x.compare (mergeLanes mask x.shadow data)))
    else x
  | .disarmed => x
  | .arming _ => x

/-- R138: the watches that a failed write re-arms. -/
def Watch.rearmedBy (addr : WordAddr) (error : Bool) (x : Watch) : Bool :=
  error && decide (x.addr = addr) && (foundOf x.state).isSome

theorem Watch.landed_uncompared {x : Watch} (h : ∀ f, x.state ≠ .compared f) (a : WordAddr) (d : Word) (k : Mask) (e : Bool) :
    x.landed a d k e = x := by
  unfold Watch.landed
  split
  · rename_i f hf
    exact absurd hf (h f)
  · rfl
  · rfl

theorem Watch.landed_far {x : Watch} {a : WordAddr} (h : x.addr ≠ a) (d : Word) (k : Mask) (e : Bool) : x.landed a d k e = x := by
  unfold Watch.landed
  split
  · exact if_neg h
  · rfl
  · rfl

theorem Watch.landed_failed {x : Watch} {f : Found} (h : x.state = .compared f) (d : Word) (k : Mask) :
    x.landed x.addr d k true = { x with state := .arming (.reArm f), probe := .raised } := by
  unfold Watch.landed
  simp [h]

theorem Watch.landed_written {x : Watch} {f : Found} (h : x.state = .compared f) (d : Word) (k : Mask) :
    x.landed x.addr d k false =
      { x with shadow := mergeLanes k x.shadow d }.transit f (x.compare (mergeLanes k x.shadow d)) := by
  unfold Watch.landed
  simp [h]

/-- R138: who is re-armed. -/
theorem Watch.rearmedBy_iff (a : WordAddr) (e : Bool) (x : Watch) :
    x.rearmedBy a e = true ↔ e = true ∧ x.addr = a ∧ ∃ f, x.state = .compared f := by
  unfold Watch.rearmedBy foundOf
  cases x.state <;> simp [and_assoc]

theorem landedAt_step (addr : WordAddr) (data : Word) (mask : Mask) (error : Bool) (s : State) (w : Fin 12) :
    GroupsOnly (s.watchAt w ((s.watch w).landed addr data mask error)
      (s.port.service ++ joining (Watch.rearmedBy addr error) s [w])) (s.landedAt addr data mask error w) := by
  have hnone (hr : ¬ Watch.rearmedBy addr error (s.watch w) = true) : joining (Watch.rearmedBy addr error) s [w] = [] := by
    simp [joining, hr]
  have hstay (hr : ¬ Watch.rearmedBy addr error (s.watch w) = true) (hl : (s.watch w).landed addr data mask error = s.watch w)
      (he : s.landedAt addr data mask error w = s) :
      GroupsOnly (s.watchAt w ((s.watch w).landed addr data mask error) (s.port.service ++ joining (Watch.rearmedBy addr error) s [w]))
        (s.landedAt addr data mask error w) := by
    rw [hnone hr, List.append_nil, ← setWatch_eq_watchAt, hl, setWatch_self, he]
  rw [Watch.rearmedBy_iff] at hstay hnone
  by_cases hc : ∃ f, (s.watch w).state = .compared f
  · obtain ⟨f, hf⟩ := hc
    by_cases ha : (s.watch w).addr = addr
    · subst ha
      cases error with
      | true =>
        have hj : joining (Watch.rearmedBy (s.watch w).addr true) s [w] = [.probe w] := by simp [joining, Watch.rearmedBy, hf, foundOf]
        have he : s.landedAt (s.watch w).addr data mask true w = s.reArm w f := by simp [State.landedAt, hf]
        rw [hj, Watch.landed_failed hf, he]
        exact .refl _
      | false =>
        have he : s.landedAt (s.watch w).addr data mask false w = s.shadowWrite w data mask f := by simp [State.landedAt, hf]
        have h := transition_step (s := s.setWatch w { s.watch w with shadow := mergeLanes mask (s.watch w).shadow data }) (w := w) (f := f)
          ((s.watch w).compare (mergeLanes mask (s.watch w).shadow data)) (by rw [setWatch_watch, if_pos rfl]; exact hf)
        rw [setWatch_watch, if_pos rfl, setWatch_setWatch] at h
        rw [hnone (by simp), List.append_nil, ← setWatch_eq_watchAt, Watch.landed_written hf, he]
        exact h
    · exact hstay (by simp [ha]) (Watch.landed_far ha _ _ _) (by simp [State.landedAt, hf, ha])
  · rw [not_exists] at hc
    refine hstay (by simp [hc]) (Watch.landed_uncompared hc _ _ _ _) ?_
    unfold State.landedAt
    split
    · rename_i f hf
      exact absurd hf (hc f)
    · rfl
    · rfl

/-- R140: a landed write at every watch. -/
theorem landedWrite_step (s : State) (addr : WordAddr) (data : Word) (mask : Mask) (error : Bool) :
    GroupsOnly { s with
      watches := s.watches.map (Watch.landed addr data mask error)
      port := { s.port with service := s.port.service ++ joining (Watch.rearmedBy addr error) s watchNumbers } }
      (s.landedWrite addr data mask error) := eachWatch_step (landedAt_step addr data mask error) s

/-! ### Period marks and settle windows (R144, R145) -/

/-- R145: a watch's record after one period mark of its settle base. -/
def Watch.marked (x : Watch) : Watch :=
  { x with marks := x.marks - 1, deferred := x.deferred && !(decide (x.marks = 1) && decide (x.state = .compared .differs)) }

theorem settleMarkAt_step (s : State) (w : Fin 12) : GroupsOnly (s.setWatch w (s.watch w).marked) (s.settleMarkAt w) := by
  unfold State.settleMarkAt Watch.marked
  dsimp only
  split
  · rename_i hm
    unfold State.windowEnd
    rw [setWatch_watch, if_pos rfl]
    dsimp only
    split
    · rename_i hd
      simp only [Bool.and_eq_true, decide_eq_true_eq] at hd
      have hoff : ((s.watch w).deferred && !(decide ((s.watch w).marks = 1) && decide ((s.watch w).state = .compared .differs))) = false := by
        simp [hm, hd.1]
      rw [hoff]
      unfold State.settleReport
      rw [setWatch_setWatch, setWatch_watch, if_pos rfl]
      exact reportMismatch_groupsOnly _ _ _
    · rename_i hd
      have : ((s.watch w).deferred && !(decide ((s.watch w).marks = 1) && decide ((s.watch w).state = .compared .differs))) = (s.watch w).deferred := by
        cases hf : (s.watch w).deferred with
        | false => rfl
        | true =>
          have hne : (s.watch w).state ≠ .compared .differs := fun e => hd (by simp [e, hf])
          simp [hne]
      rw [this]
  · rename_i hm
    simp only [hm, decide_false, Bool.false_and, Bool.not_false, Bool.and_true]
    exact .refl _

/-- R145: a watch's record after a period mark of a base. -/
def Watch.atMark (b : Base) (x : Watch) : Watch := if x.settleBase = b && x.marks != 0 then x.marked else x

theorem settleMarks_step (s : State) (b : Base) : GroupsOnly { s with watches := s.watches.map (Watch.atMark b) } (s.settleMarks b) := by
  have h := eachWatch_step (f := fun s w => if (s.watch w).settleBase = b && (s.watch w).marks != 0 then s.settleMarkAt w else s)
    (x := Watch.atMark b) (add := fun _ => false) (fun s w => by
      have hj : joining (fun _ => false) s [w] = [] := by simp [joining]
      rw [hj, List.append_nil, ← setWatch_eq_watchAt]
      unfold Watch.atMark
      split
      · exact settleMarkAt_step s w
      · rw [setWatch_self]) s
  have hj : joining (fun _ => false) s watchNumbers = [] := by simp [joining]
  rw [hj, List.append_nil] at h
  exact h

theorem openWindows_eq (s : State) (g : Fin 8) : s.openWindows g = { s with watches := s.watches.map fun x => x.openWindow g } := by
  obtain ⟨v, h, hv⟩ := openWindows_spec s g
  rw [h]
  congr 1
  apply Vector.ext
  intro i hi
  simpa [State.watch] using hv ⟨i, hi⟩

/-- R93, R144: a retirement opens the settle windows of the group's watches. -/
theorem retire_step (s : State) (g : Fin 8) (b : Batch) :
    GroupsOnly { s with watches := s.watches.map (fun x => x.openWindow g), drain := { s.drain with progress := .ending } }
      (s.retire g b) := by
  have h1 (x y : Group) (e : EventBody) : GroupsOnly s ((((s.setGroup g x).submit e).setGroup g y).followUp g) :=
    (setGroup_groupsOnly _ _ _).trans ((submit_groupsOnly _ _).trans ((setGroup_groupsOnly _ _ _).trans (followUp_groupsOnly _ _)))
  have h2 {u : State} (h : GroupsOnly s u) :
      GroupsOnly { s with watches := s.watches.map (fun x => x.openWindow g), drain := { s.drain with progress := .ending } }
        ((u.openWindows g).setDrain { (u.openWindows g).drain with progress := .ending }) := by
    rw [openWindows_eq]
    obtain ⟨_, _, _, _, rfl⟩ := h
    exact ⟨_, _, _, _, rfl⟩
  unfold State.retire
  dsimp only
  split
  · exact (h2 (h1 _ _ _)).trans (tripSource_groupsOnly _ _ _)
  · exact h2 (h1 _ _ _)

/-! ### The engine's operations at the watches -/

/-- Of the watches and the service list, only settle marks remaining differ. -/
structure MarksOnly (s t : State) : Prop where
  watch : ∀ w, t.watch w = { s.watch w with marks := (t.watch w).marks }
  marks : ∀ w, (t.watch w).marks = (s.watch w).marks ∨ (t.watch w).marks = (s.watch w).settleLength
  service : t.port.service = s.port.service

theorem MarksOnly.trans {s t u : State} (h : MarksOnly s t) (k : MarksOnly t u) : MarksOnly s u :=
  ⟨fun w => by rw [k.watch, h.watch], fun w => by
    have hl : (t.watch w).settleLength = (s.watch w).settleLength := by rw [h.watch]
    rcases k.marks w with e | e
    · rw [e]
      exact h.marks w
    · exact .inr (e.trans hl), k.service.trans h.service⟩

theorem MarksOnly.of_eq {s t : State} (hw : t.watches = s.watches) (hp : t.port = s.port) : MarksOnly s t :=
  ⟨fun w => by simp only [State.watch, hw], fun w => .inl (by simp only [State.watch, hw]), by rw [hp]⟩

theorem GroupsOnly.marksOnly {s t : State} (h : GroupsOnly s t) : MarksOnly s t := .of_eq h.watches h.port

theorem retire_marksOnly (s : State) (g : Fin 8) (b : Batch) : MarksOnly s (s.retire g b) := by
  have h : MarksOnly s { s with watches := s.watches.map (fun x => x.openWindow g), drain := { s.drain with progress := .ending } } := by
    refine ⟨fun w => ?_, fun w => ?_, rfl⟩
    · simp only [State.watch, Fin.getElem_fin, Vector.getElem_map, Watch.openWindow]
      split <;> rfl
    · simp only [State.watch, Fin.getElem_fin, Vector.getElem_map, Watch.openWindow]
      split
      · exact .inr rfl
      · exact .inl rfl
  exact h.trans (retire_step s g b).marksOnly

theorem completeSafe_marksOnly (s : State) (g : Fin 8) : MarksOnly s (s.completeSafe g) :=
  .trans (.of_eq (by rfl) (by rfl)) (completeSafe_groupsOnly s g).marksOnly

theorem advanceSafe_marksOnly (s : State) (g : Fin 8) (n : Nat) : MarksOnly s (s.advanceSafe g n) := by
  obtain ⟨k, -, h⟩ | ⟨-, h⟩ := advanceSafe_cases s g n <;> rw [h]
  · exact .of_eq rfl rfl
  · exact completeSafe_marksOnly s g

theorem startBatch_marksOnly (s : State) (g : Fin 8) : MarksOnly s (s.startBatch g) := by
  unfold State.startBatch
  split
  · exact .of_eq rfl rfl
  · dsimp only
    split
    · exact .trans (.of_eq (by rfl) (by rfl)) (retire_marksOnly _ _ _)
    · exact .of_eq rfl rfl

theorem entryWritten_marksOnly (s : State) (g : Fin 8) (error : Bool) : MarksOnly s (s.entryWritten g error) := by
  unfold State.entryWritten
  dsimp only
  split
  · exact .of_eq rfl rfl
  · split
    · exact .of_eq rfl rfl
    · split
      · exact .trans (.of_eq (by rfl) (by rfl)) (retire_marksOnly _ _ _)
      · exact .of_eq rfl rfl

theorem drainPerformed_marksOnly (s : State) (error : Bool) : MarksOnly s (s.drainPerformed error) := by
  unfold State.drainPerformed
  split
  · exact entryWritten_marksOnly s _ error
  · exact .trans (.of_eq (by rfl) (by rfl)) (advanceSafe_marksOnly _ _ _)
  · exact .of_eq rfl rfl

theorem takeItem_marksOnly (s : State) (it : Item) : MarksOnly s (s.takeItem it) := by
  obtain ⟨u, hu⟩ := holdAtStart_eq (s.makeCurrent it) it.group
  have h : MarksOnly s ((s.makeCurrent it).holdAtStart it.group) := by
    rw [hu]
    exact .of_eq rfl rfl
  unfold State.takeItem
  dsimp only
  split
  · exact h.trans (startBatch_marksOnly _ _)
  · exact h.trans (advanceSafe_marksOnly _ _ _)

end Sys2Proof.Machine

/-! PROOFS. Chapters 05, 07 and 08: every step keeps the memory in canonical form, the shadows equal to their words, and the service
list in step with the probes and the pending command (R104, R131, R136, R152). -/

namespace Sys2Proof.Machine

open Sys2Proof.Safety

/-! ### The invariant, watch by watch -/

/-- What `ObservationOk` asks of watch `w`'s record, with the memory, the service list and the port's transaction. -/
structure WatchFits (m : List Host.Cell) (q : List ServiceRequest) (cur : Option Transaction) (w : Fin 12) (x : Watch) : Prop where
  known : ∀ f, x.state = .compared f → knownWord m x.addr = some x.shadow ∧ x.compare x.shadow = f
  raised : ServiceRequest.probe w ∈ q ↔ x.probe = .raised
  arming : isArming x.state = true ↔ x.probe = .raised ∨ x.probe = .inFlight
  inFlight : x.probe = .inFlight → cur = some { requester := .probe w, kind := .read, addr := x.addr }
  orphaned : x.probe = .orphaned → ∃ t ∈ cur, t.requester = .probe w
  deferred : x.deferred = true → x.state = .compared .differs ∨ x.state = .arming (.reArm .differs)

theorem mem_foundOf (f : Found) (x : WatchState) : f ∈ foundOf x ↔ x = .compared f := by
  cases x <;> simp [foundOf, eq_comm]

theorem observationOk_iff (s : State) :
    ObservationOk s ↔ memoryWf s.mem = true ∧ s.port.service.Nodup ∧
      (∀ w : Fin 12, WatchFits s.mem s.port.service s.port.current w (s.watch w)) ∧ PeekPokeOk s := by
  constructor
  · rintro ⟨hm, hs, ⟨hn, hp⟩, hk⟩
    exact ⟨hm, hn, fun w => ⟨fun f hf => hs w f ((mem_foundOf f _).2 hf), (hp w).1, (hp w).2.1, (hp w).2.2.1, (hp w).2.2.2.1, (hp w).2.2.2.2⟩,
      hk⟩
  · rintro ⟨hm, hn, hw, hk⟩
    exact ⟨hm, fun w f hf => (hw w).known f ((mem_foundOf f _).1 hf),
      ⟨hn, fun w => ⟨(hw w).raised, (hw w).arming, (hw w).inFlight, (hw w).orphaned, (hw w).deferred⟩⟩, hk⟩

namespace WatchFits

variable {m m' : List Host.Cell} {q q' : List ServiceRequest} {cur cur' : Option Transaction} {w : Fin 12} {x y : Watch}

/-- The service list matters only by this watch's probe. -/
theorem service (h : WatchFits m q cur w x) (hq : ServiceRequest.probe w ∈ q' ↔ ServiceRequest.probe w ∈ q) : WatchFits m q' cur w x :=
  ⟨h.known, hq.trans h.raised, h.arming, h.inFlight, h.orphaned, h.deferred⟩

theorem marks (h : WatchFits m q cur w x) (n : Nat) : WatchFits m q cur w { x with marks := n } :=
  ⟨h.known, h.raised, h.arming, h.inFlight, h.orphaned, h.deferred⟩

/-- With the port IDLE, no probe is in flight or orphaned, so any grant may follow. -/
theorem granted (h : WatchFits m q none w x) (cur : Option Transaction) : WatchFits m q cur w x :=
  ⟨h.known, h.raised, h.arming, fun e => absurd (h.inFlight e) (by simp), fun e => absurd (h.orphaned e) (by simp), h.deferred⟩

/-- A transaction that is not this watch's probe may leave the port. -/
theorem released (h : WatchFits m q cur w x) (hr : ∀ t ∈ cur, t.requester ≠ .probe w) : WatchFits m q none w x :=
  ⟨h.known, h.raised, h.arming, fun e => absurd rfl (hr _ (h.inFlight e)), fun e => by
    obtain ⟨t, ht, hw⟩ := h.orphaned e
    exact absurd hw (hr t ht), h.deferred⟩

theorem uncompared (h : WatchFits m q cur w x) (hx : ∀ f, x.state ≠ .compared f) : WatchFits m' q cur w x :=
  ⟨fun f hf => absurd hf (hx f), h.raised, h.arming, h.inFlight, h.orphaned, h.deferred⟩

/-- The memory matters only by the watch's word. -/
theorem memory (h : WatchFits m q cur w x) (hk : knownWord m x.addr = some x.shadow → knownWord m' x.addr = some x.shadow) :
    WatchFits m' q cur w x :=
  ⟨fun f hf => ⟨hk (h.known f hf).1, (h.known f hf).2⟩, h.raised, h.arming, h.inFlight, h.orphaned, h.deferred⟩

end WatchFits

/-- What the invariant reads. -/
theorem observationOk_congr {s t : State} (h : ObservationOk s) (hw : ∀ w, t.watch w = s.watch w) (hq : t.port.service = s.port.service)
    (hc : t.port.current = s.port.current) (hm : t.mem = s.mem) (hp : t.link.pending = s.link.pending) : ObservationOk t := by
  obtain ⟨h1, h2, h3, h4, h5, h6⟩ := (observationOk_iff s).1 h
  have hs (r : ServiceRequest) : serviceFits t r = serviceFits s r := by
    unfold serviceFits
    rw [hp]
  have hf (x : Transaction) : commandFits t x = commandFits s x := by
    unfold commandFits
    rw [hp]
  refine (observationOk_iff t).2 ⟨hm ▸ h1, hq ▸ h2, fun w => ?_, ?_⟩
  · rw [hm, hq, hc, hw]
    exact h3 w
  · unfold PeekPokeOk
    simp only [hq, hc, hs, hf]
    exact ⟨h4, h5, h6⟩

theorem observationOk_marksOnly {s t : State} (h : ObservationOk s) (hw : MarksOnly s t) (hc : t.port.current = s.port.current)
    (hm : t.mem = s.mem) (hl : t.link.pending = s.link.pending) : ObservationOk t := by
  have hs : ObservationOk { s with watches := t.watches } := by
    obtain ⟨h1, h2, h3, h4⟩ := (observationOk_iff s).1 h
    refine (observationOk_iff _).2 ⟨h1, h2, fun w => ?_, h4⟩
    have : State.watch { s with watches := t.watches } w = { s.watch w with marks := (t.watch w).marks } := hw.watch w
    rw [this]
    exact (h3 w).marks _
  exact observationOk_congr hs (fun _ => rfl) hw.service hc hm hl

/-- One watch's record is replaced. -/
theorem observationOk_setWatch {s : State} (h : ObservationOk s) (w : Fin 12) {x : Watch}
    (hx : WatchFits s.mem s.port.service s.port.current w x) : ObservationOk (s.setWatch w x) := by
  obtain ⟨h1, h2, h3, h4⟩ := (observationOk_iff s).1 h
  refine (observationOk_iff _).2 ⟨h1, h2, fun v => ?_, h4⟩
  rw [setWatch_watch]
  split
  · rename_i e
    exact e ▸ hx
  · exact h3 v

/-! ### The pending command's requests (R152) -/

/-- No peek or poke is in the service list or at the port. -/
structure NoPeekPoke (s : State) : Prop where
  service : ∀ r ∈ s.port.service, isPeekPoke r = false
  port : ∀ t ∈ s.port.current, t.requester ≠ .peek ∧ t.requester ≠ .poke

theorem noPeekPoke_of_pending {s : State} (h : PeekPokeOk s)
    (hp : (∀ a, s.link.pending ≠ some (.peek a)) ∧ ∀ a d k, s.link.pending ≠ some (.poke a d k)) : NoPeekPoke s := by
  obtain ⟨h1, h2, -⟩ := h
  refine ⟨fun r hr => ?_, fun t ht => ?_⟩
  · have := h1 r hr
    cases r with
    | probe w => rfl
    | peek a => simp [serviceFits, hp.1] at this
    | poke a d k => simp [serviceFits, hp.2] at this
  · have := h2 t ht
    refine ⟨fun e => ?_, fun e => ?_⟩
    · simp [commandFits, e, hp.1] at this
    · cases hk : t.kind <;> simp [commandFits, e, hk, hp.2] at this

theorem NoPeekPoke.ok {s : State} (h : NoPeekPoke s) : PeekPokeOk s := by
  refine ⟨fun r hr => ?_, fun t ht => ?_, fun r hr hk => ?_⟩
  · have := h.service r hr
    cases r with
    | probe w => rfl
    | peek a => cases this
    | poke a d k => cases this
  · obtain ⟨h1, h2⟩ := h.port t ht
    unfold commandFits
    split <;> simp_all
  · rw [h.service r hr] at hk
    cases hk

/-- R157: a command without a peek or poke becomes pending, or such a one completes. -/
theorem observationOk_setPending {s t : State} (h : ObservationOk s) (hw : ∀ w, t.watch w = s.watch w)
    (hq : t.port.service = s.port.service) (hc : t.port.current = s.port.current) (hm : t.mem = s.mem)
    (hp : (∀ a, s.link.pending ≠ some (.peek a)) ∧ ∀ a d k, s.link.pending ≠ some (.poke a d k)) : ObservationOk t := by
  obtain ⟨h1, h2, h3, h4⟩ := (observationOk_iff s).1 h
  obtain ⟨hs, hn⟩ := noPeekPoke_of_pending h4 hp
  refine (observationOk_iff t).2 ⟨hm ▸ h1, hq ▸ h2, fun w => ?_, NoPeekPoke.ok ⟨hq ▸ hs, hc ▸ hn⟩⟩
  rw [hm, hq, hc, hw]
  exact h3 w

/-! ### Commands to a watch -/

theorem isArming_disarmed : isArming .disarmed = false := rfl

/-- R133. -/
theorem observationOk_armWatch {s : State} (h : ObservationOk s) {w : Fin 12} (hd : (s.watch w).state = .disarmed) :
    ObservationOk (s.armWatch w) := by
  obtain ⟨h1, h2, h3, h4, h5, h6⟩ := (observationOk_iff s).1 h
  have hw := h3 w
  have hnot : ¬ ((s.watch w).probe = .raised ∨ (s.watch w).probe = .inFlight) := by
    rw [← hw.arming, hd, isArming_disarmed]
    simp
  have hnew : ServiceRequest.probe w ∉ s.port.service := fun e => hnot (.inl (hw.raised.1 e))
  have hmem (r : ServiceRequest) : r ∈ s.port.service ++ [.probe w] → r ∈ s.port.service ∨ r = .probe w := by simp
  refine (observationOk_iff _).2 ⟨h1, h2.append (by simp) (by simpa using hnew), fun v => ?_, fun r hr => ?_, h5, fun r hr hk => ?_⟩
  · show WatchFits s.mem (s.port.service ++ [.probe w]) s.port.current v ((s.setWatch w _).watch v)
    rw [setWatch_watch]
    by_cases e : w = v
    · subst e
      rw [if_pos rfl]
      exact ⟨by simp, by simp, by simp [isArming], by simp, by simp, by simp⟩
    · rw [if_neg e]
      exact (h3 v).service (by simp [Ne.symm e])
  · rcases hmem r hr with hr | rfl
    · exact h4 r hr
    · rfl
  · rcases hmem r hr with hr | rfl
    · exact h6 r hr hk
    · cases hk

/-- R136. -/
theorem observationOk_disarmWatch {s : State} (h : ObservationOk s) (w : Fin 12) : ObservationOk (s.disarmWatch w) := by
  obtain ⟨h1, h2, h3, h4, h5, h6⟩ := (observationOk_iff s).1 h
  have hw := h3 w
  unfold State.disarmWatch
  dsimp only
  split
  · rename_i hr
    have hsub (r : ServiceRequest) (hm : r ∈ s.port.service.filter (fun r => r != .probe w)) : r ∈ s.port.service :=
      (List.mem_filter.1 hm).1
    refine (observationOk_iff _).2 ⟨h1, h2.filter _, fun v => ?_, fun r hm => h4 r (hsub r hm), h5, fun r hm => h6 r (hsub r hm)⟩
    show WatchFits s.mem (s.port.service.filter _) s.port.current v ((s.setWatch w _).watch v)
    rw [setWatch_watch]
    by_cases e : w = v
    · subst e
      rw [if_pos rfl, hr]
      exact ⟨by simp [Watch.disarm], by simp [Probe.afterDisarm], by simp [Watch.disarm, Probe.afterDisarm, isArming],
        by simp [Probe.afterDisarm], by simp [Probe.afterDisarm], by simp [Watch.disarm]⟩
    · rw [if_neg e]
      exact (h3 v).service (by simp [Ne.symm e])
  · rename_i hr
    refine observationOk_setWatch h w ?_
    have hnr : (s.watch w).probe.afterDisarm ≠ .raised := by cases (s.watch w).probe <;> simp [Probe.afterDisarm]
    have hnf : (s.watch w).probe.afterDisarm ≠ .inFlight := by cases (s.watch w).probe <;> simp [Probe.afterDisarm]
    refine ⟨by simp [Watch.disarm], ?_, ?_, fun e => absurd e hnf, fun e => ?_, by simp [Watch.disarm]⟩
    · rw [hw.raised]
      exact iff_of_false hr hnr
    · exact iff_of_false (by simp [Watch.disarm, isArming]) (by simp [hnr, hnf])
    · cases hp : (s.watch w).probe with
      | none => simp [hp, Probe.afterDisarm] at e
      | raised => exact absurd hp hr
      | inFlight => exact ⟨_, hw.inFlight hp, rfl⟩
      | orphaned => exact hw.orphaned hp

/-- R137: the record after a comparison of the shadow. -/
theorem WatchFits.transit {m m' : List Host.Cell} {q : List ServiceRequest} {cur : Option Transaction} {w : Fin 12} {x : Watch}
    {f : Found} (hs : x.state = .compared f) (h : WatchFits m q cur w x) {y : Watch} (hst : y.state = x.state) (hp : y.probe = x.probe)
    (ha : y.addr = x.addr) (hd : y.deferred = x.deferred) (hk : knownWord m' y.addr = some y.shadow) :
    WatchFits m' q cur w (y.transit f (y.compare y.shadow)) := by
  refine ⟨fun k hk' => ⟨hk, ?_⟩, ?_, ?_, ?_, ?_, ?_⟩
  · have : y.compare y.shadow = k := by simpa [Watch.transit] using hk'
    exact this
  · show _ ↔ y.probe = .raised
    rw [hp]
    exact h.raised
  · show isArming (.compared _) = true ↔ y.probe = .raised ∨ y.probe = .inFlight
    rw [hp, ← h.arming, hs]
    simp [isArming]
  · show y.probe = .inFlight → cur = some { requester := .probe w, kind := .read, addr := y.addr }
    rw [hp, ha]
    exact h.inFlight
  · show y.probe = .orphaned → _
    rw [hp]
    exact h.orphaned
  · intro hdef
    have hx := h.deferred
    rw [← hd, hs] at hx
    show WatchState.compared (y.compare y.shadow) = _ ∨ _
    cases hc : y.compare y.shadow with
    | differs => exact .inl rfl
    | agrees =>
      exfalso
      revert hdef
      rw [hc]
      cases f with
      | agrees =>
        intro hdef
        have := hx hdef
        simp at this
      | differs => simp [Watch.transit]

/-- R143: the new reference and compare mask. -/
def Watch.referenced (x : Watch) (r k : Word) : Watch := { x with reference := r, compareMask := k }

theorem setReference_same {s : State} {w : Fin 12} {r k : Word}
    (h : ∀ f, (s.watch w).state = .compared f → ((s.watch w).referenced r k).compare (s.watch w).shadow = f) :
    s.setReference w r k = s.setWatch w ((s.watch w).referenced r k) := by
  unfold State.setReference
  dsimp only
  split
  · rename_i hst
    have := h _ hst
    exact if_neg (fun e => by cases this.symm.trans e)
  · rename_i hst
    have := h _ hst
    exact if_neg (fun e => by cases this.symm.trans e)
  · rfl
  · rfl

theorem setReference_differs {s : State} {w : Fin 12} {r k : Word} (hs : (s.watch w).state = .compared .agrees)
    (h : ((s.watch w).referenced r k).compare (s.watch w).shadow = .differs) :
    s.setReference w r k = (s.setWatch w { (s.watch w).referenced r k with state := .compared .differs }).reportMismatch w .reference := by
  unfold State.setReference
  dsimp only
  split <;> rename_i hst <;> cases hst.symm.trans hs
  rw [setWatch_setWatch]
  exact if_pos h

theorem setReference_agrees {s : State} {w : Fin 12} {r k : Word} (hs : (s.watch w).state = .compared .differs)
    (h : ((s.watch w).referenced r k).compare (s.watch w).shadow = .agrees) :
    s.setReference w r k = (s.setWatch w ((s.watch w).referenced r k)).toMatch w := by
  unfold State.setReference
  dsimp only
  split <;> rename_i hst <;> cases hst.symm.trans hs
  exact if_pos h

theorem observationOk_groupsOnly {s t : State} (h : ObservationOk s) (hg : GroupsOnly s t) : ObservationOk t :=
  observationOk_congr h hg.watch (by rw [hg.port]) (by rw [hg.port]) hg.mem (by rw [hg.link])

/-- R143. -/
theorem observationOk_setReference {s : State} (h : ObservationOk s) (w : Fin 12) (r k : Word) : ObservationOk (s.setReference w r k) := by
  obtain ⟨-, -, h3, -⟩ := (observationOk_iff s).1 h
  have hw := h3 w
  have fits {f : Found} (hs : (s.watch w).state = .compared f) (d : Bool) (hd : d = true → ((s.watch w).referenced r k).compare (s.watch w).shadow = .differs) :
      WatchFits s.mem s.port.service s.port.current w { (s.watch w).referenced r k with
        state := .compared (((s.watch w).referenced r k).compare (s.watch w).shadow), deferred := d } := by
    refine ⟨fun g hg => ⟨(hw.known f hs).1, WatchState.compared.inj hg⟩, hw.raised, ?_, hw.inFlight, hw.orphaned, fun e => .inl ?_⟩
    · refine Iff.trans ?_ hw.arming
      rw [hs]
      exact Iff.rfl
    · rw [← hd e]
  have plain (hn : ∀ f, (s.watch w).state ≠ .compared f) : ObservationOk (s.setReference w r k) := by
    rw [setReference_same fun f e => absurd e (hn f)]
    exact observationOk_setWatch h w ⟨fun f e => absurd e (hn f), hw.raised, hw.arming, hw.inFlight, hw.orphaned, hw.deferred⟩
  cases hs : (s.watch w).state with
  | disarmed => exact plain (by simp [hs])
  | arming o => exact plain (by simp [hs])
  | compared f =>
    have hdef : (s.watch w).deferred = true → f = .differs := fun e => by
      have := hw.deferred e
      rw [hs] at this
      simpa using this
    by_cases hc : ((s.watch w).referenced r k).compare (s.watch w).shadow = f
    · have hfit := fits hs (s.watch w).deferred fun e => hc.trans (hdef e)
      rw [hc, ← hs] at hfit
      rw [setReference_same fun g hg => by rw [hs] at hg; exact hc.trans (WatchState.compared.inj hg)]
      exact observationOk_setWatch h w hfit
    · cases f with
      | agrees =>
        have hd : ((s.watch w).referenced r k).compare (s.watch w).shadow = .differs := by
          revert hc
          cases ((s.watch w).referenced r k).compare (s.watch w).shadow <;> simp
        have hfit := fits hs (s.watch w).deferred fun _ => hd
        rw [hd] at hfit
        rw [setReference_differs hs hd]
        exact observationOk_groupsOnly (observationOk_setWatch h w hfit) (reportMismatch_groupsOnly _ _ _)
      | differs =>
        have hd : ((s.watch w).referenced r k).compare (s.watch w).shadow = .agrees := by
          revert hc
          cases ((s.watch w).referenced r k).compare (s.watch w).shadow <;> simp
        have hfit := fits hs false fun e => by cases e
        rw [hd] at hfit
        rw [setReference_agrees hs hd]
        refine observationOk_groupsOnly ?_ (toMatch_step _ w)
        rw [setWatch_setWatch, setWatch_watch, if_pos rfl]
        exact observationOk_setWatch h w hfit

end Sys2Proof.Machine

/-! PROOFS. Chapters 05 and 07: the memory port's grants and answers, and the resets, keep the memory, the shadows and the service list in
step. -/

namespace Sys2Proof.Machine

open Sys2Proof.Safety

/-! ### MEMORY_GRANT -/

/-- R100: a grant to DRAIN or PASS. -/
theorem observationOk_grantOther {s t : State} (h : ObservationOk s) (hidle : s.port.current = none) (hw : t.watches = s.watches)
    (hq : t.port.service = s.port.service) (hm : t.mem = s.mem) (hl : t.link = s.link) {x : Transaction} (hx : t.port.current = some x)
    (hr : x.requester ≠ .peek ∧ x.requester ≠ .poke) : ObservationOk t := by
  obtain ⟨h1, h2, h3, h4, -, -⟩ := (observationOk_iff s).1 h
  refine (observationOk_iff t).2 ⟨hm ▸ h1, hq ▸ h2, fun w => ?_, fun r hr => ?_, fun y hy => ?_, fun r _ _ y hy => ?_⟩
  · have := h3 w
    rw [hidle] at this
    have hw' : t.watch w = s.watch w := by simp only [State.watch, hw]
    rw [hm, hq, hw']
    exact this.granted _
  · rw [hq] at hr
    have := h4 r hr
    unfold serviceFits at this ⊢
    rw [hl]
    exact this
  · rw [hx] at hy
    obtain rfl := Option.some.inj hy
    unfold commandFits
    split <;> simp_all
  · rw [hx] at hy
    obtain rfl := Option.some.inj hy
    exact hr

/-- R104: the foremost request of the service list that is not held is granted. -/
theorem observationOk_grantService {s : State} (h : ObservationOk s) (hidle : s.port.current = none) : ObservationOk s.grantService := by
  obtain ⟨h1, h2, h3, h4, -, -⟩ := (observationOk_iff s).1 h
  unfold State.grantService
  split
  · exact h
  · rename_i r hr
    have hmem : r ∈ s.port.service := List.mem_of_find?_eq_some hr
    have hgone : r ∉ s.port.service.erase r := h2.not_mem_erase
    have hsub {x : ServiceRequest} (hx : x ∈ s.port.service.erase r) : x ∈ s.port.service := List.mem_of_mem_erase hx
    have hother (x : ServiceRequest) (hx : x ≠ r) : x ∈ s.port.service.erase r ↔ x ∈ s.port.service := by
      rw [h2.mem_erase_iff]
      simp [hx]
    have hw (v : Fin 12) := h3 v
    simp only [hidle] at hw
    have hpend : isPeekPoke r = true → ∀ x ∈ s.port.service.erase r, isPeekPoke x = false := fun hk x hx => by
      have hr := h4 r hmem
      have hxx := h4 x (hsub hx)
      cases r with
      | probe w => cases hk
      | peek a =>
        cases x with
        | probe w => rfl
        | peek b =>
          simp only [serviceFits, beq_iff_eq] at hr hxx
          rw [hr] at hxx
          cases hxx
          exact absurd hx hgone
        | poke b d k =>
          simp only [serviceFits, beq_iff_eq] at hr hxx
          rw [hr] at hxx
          cases hxx
      | poke a d k =>
        cases x with
        | probe w => rfl
        | peek b =>
          simp only [serviceFits, beq_iff_eq] at hr hxx
          rw [hr] at hxx
          cases hxx
        | poke b d' k' =>
          simp only [serviceFits, beq_iff_eq] at hr hxx
          rw [hr] at hxx
          cases hxx
          exact absurd hx hgone
    refine (observationOk_iff _).2 ?_
    cases r with
    | probe w =>
      refine ⟨h1, h2.erase _, fun v => ?_, fun r hr => h4 r (hsub hr), fun t ht => ?_, fun r _ _ t ht => ?_⟩
      · show WatchFits s.mem (s.port.service.erase (.probe w)) _ v ((s.setWatch w { s.watch w with probe := .inFlight }).watch v)
        rw [setWatch_watch]
        by_cases e : w = v
        · subst e
          rw [if_pos rfl]
          have harm := (hw w).arming.2 (.inl ((hw w).raised.1 hmem))
          exact ⟨(hw w).known, by simp [hgone], by simp [harm], fun _ => rfl, by simp, (hw w).deferred⟩
        · rw [if_neg e]
          exact ((hw v).service (hother _ (by simpa using Ne.symm e))).granted _
      · obtain rfl := Option.some.inj ht
        rfl
      · obtain rfl := Option.some.inj ht
        simp [State.serviceTransaction]
    | peek a =>
      refine ⟨h1, h2.erase _, fun v => ((hw v).service (hother _ (by simp))).granted _, fun r hr => h4 r (hsub hr), fun t ht => ?_,
        fun r hr hk => ?_⟩
      · obtain rfl := Option.some.inj ht
        exact h4 _ hmem
      · rw [hpend rfl r hr] at hk
        cases hk
    | poke a d k =>
      refine ⟨h1, h2.erase _, fun v => ((hw v).service (hother _ (by simp))).granted _, fun r hr => h4 r (hsub hr), fun t ht => ?_,
        fun r hr hk => ?_⟩
      · obtain rfl := Option.some.inj ht
        exact h4 _ hmem
      · rw [hpend rfl r hr] at hk
        cases hk

theorem observationOk_arbitrate {s : State} (h : ObservationOk s) : ObservationOk s.arbitrate := by
  rcases arbitrate_cases s with e | ⟨-, hidle, ⟨-, e⟩ | ⟨-, e⟩ | ⟨-, e⟩⟩ <;> rw [e]
  · exact h
  · unfold State.grantDrain
    split
    · exact h
    · exact observationOk_grantOther h hidle rfl rfl rfl rfl rfl (by simp)
  · unfold State.grantPass
    split
    · exact h
    · exact observationOk_grantOther h hidle rfl rfl rfl rfl rfl (by simp)
  · exact observationOk_grantService h hidle

/-! ### TRANSACTION_PERFORMED: the memory and the landed write (R100, R137, R138) -/

/-- The state at an answer of transaction `x`, after its landed-write report: the port is IDLE, the watches' probes still fit `x`. -/
structure Answering (x : Transaction) (s v : State) : Prop where
  mem : memoryWf v.mem = true
  nodup : v.port.service.Nodup
  idle : v.port.current = none
  link : v.link = s.link
  watches : ∀ w : Fin 12, WatchFits v.mem v.port.service (some x) w (v.watch w)
  service : ∀ r ∈ v.port.service, r ∈ s.port.service ∨ ∃ w, r = .probe w

/-- R100: a successful read tells its word, and leaves every known word. -/
theorem knownWord_learned {m : List Host.Cell} {a b : WordAddr} {w : Word} (rd : Word) (h : knownWord m b = some w) :
    knownWord (writeWord m a (readWord m a rd) 0xF#4) b = some w := by
  by_cases e : a = b
  · subst e
    rw [knownWord_read, readWord_of_known _ _ _ _ h]
  · rw [knownWord_writeWord_ne _ _ _ _ _ e, h]

/-- R137, R138: a watch after a landed write, with the memory as the write leaves it. -/
theorem WatchFits.landed {m : List Host.Cell} {q q' : List ServiceRequest} {cur : Option Transaction} {w : Fin 12} {x : Watch}
    (h : WatchFits m q cur w x) (a : WordAddr) (d : Word) (k : Mask) (e : Bool)
    (hq : ServiceRequest.probe w ∈ q' ↔ ServiceRequest.probe w ∈ q ∨ x.rearmedBy a e = true) :
    WatchFits (if e then forgetWord m a else writeWord m a d k) q' cur w (x.landed a d k e) := by
  rw [Watch.rearmedBy_iff] at hq
  by_cases hc : ∃ f, x.state = .compared f
  · obtain ⟨f, hf⟩ := hc
    by_cases ha : x.addr = a
    · subst ha
      cases e with
      | true =>
        rw [Watch.landed_failed hf]
        refine ⟨fun g hg => by simp at hg, by simp [hq, hf], by simp [isArming], by simp, by simp, fun hd => .inr ?_⟩
        have := h.deferred hd
        rw [hf] at this
        simpa using this
      | false =>
        rw [Watch.landed_written hf]
        exact (h.service (by simp [hq])).transit hf (y := { x with shadow := mergeLanes k x.shadow d }) rfl rfl rfl rfl
          (knownWord_writeWord _ _ _ _ _ (h.known f hf).1)
    · rw [Watch.landed_far ha]
      refine (h.service (by simp [hq, ha])).memory fun hk => ?_
      split
      · rw [knownWord_forgetWord_ne _ _ _ (Ne.symm ha), hk]
      · rw [knownWord_writeWord_ne _ _ _ _ _ (Ne.symm ha), hk]
  · rw [not_exists] at hc
    rw [Watch.landed_uncompared hc]
    exact (h.service (by simp [hq, hc])).uncompared hc

theorem mem_joining (add : Watch → Bool) (s : State) (w : Fin 12) :
    ServiceRequest.probe w ∈ joining add s watchNumbers ↔ add (s.watch w) = true := by
  simp [joining, mem_watchNumbers]

theorem joining_nodup (add : Watch → Bool) (s : State) : (joining add s watchNumbers).Nodup :=
  (watchNumbers_nodup.filter _).map (fun _ _ h => ServiceRequest.probe.inj h)

theorem answering_landed {s : State} (h : ObservationOk s) {x : Transaction} (hx : s.port.current = some x) (e : Bool) (rd : Word) :
    Answering x s (((s.setPort { s.port with current := none }).setMem (memoryAfter s.mem x e rd)).reportLanded x e) := by
  obtain ⟨h1, h2, h3, -⟩ := (observationOk_iff s).1 h
  rw [hx] at h3
  have hm := memoryWf_memoryAfter s.mem x e rd h1
  set v := (s.setPort { s.port with current := none }).setMem (memoryAfter s.mem x e rd) with hv
  unfold State.reportLanded
  split
  · rename_i d k hk
    have hg := landedWrite_step v x.addr d k e
    have hmem : v.mem = if e then forgetWord s.mem x.addr else writeWord s.mem x.addr d k := by
      show memoryAfter s.mem x e rd = _
      unfold memoryAfter
      rw [hk]
      cases e <;> rfl
    have hq : (v.landedWrite x.addr d k e).port.service = s.port.service ++ joining (Watch.rearmedBy x.addr e) v watchNumbers := by
      rw [hg.port]
      rfl
    refine ⟨by rw [hg.mem]; exact hm, ?_, by rw [hg.port]; rfl, by rw [hg.link]; rfl, fun w => ?_, fun r hr => ?_⟩
    · rw [hq]
      refine h2.append (joining_nodup _ _) fun r hr hj => ?_
      simp only [joining, List.mem_map, List.mem_filter] at hj
      obtain ⟨w, ⟨-, hw⟩, rfl⟩ := hj
      obtain ⟨-, -, f, hf⟩ := (Watch.rearmedBy_iff _ _ _).1 hw
      have hfit := h3 w
      have := hfit.arming.2 (.inl (hfit.raised.1 hr))
      rw [show (s.watch w).state = _ from hf] at this
      cases this
    · have hw : (v.landedWrite x.addr d k e).watch w = (s.watch w).landed x.addr d k e := by
        rw [hg.watch]
        simp [State.watch, hv]
      rw [hg.mem, hw]
      show WatchFits v.mem _ _ _ _
      rw [hmem]
      refine (h3 w).landed x.addr d k e ?_
      rw [hq, List.mem_append, mem_joining]
      rfl
    · rw [hq, List.mem_append] at hr
      refine hr.imp_right fun hj => ?_
      simp only [joining, List.mem_map] at hj
      obtain ⟨w, -, rfl⟩ := hj
      exact ⟨w, rfl⟩
  · rename_i hk
    refine ⟨hm, h2, rfl, rfl, fun w => (h3 w).memory fun hknown => ?_, fun r hr => .inl hr⟩
    show knownWord (memoryAfter s.mem x e rd) _ = _
    unfold memoryAfter
    rw [hk]
    cases e with
    | true => exact hknown
    | false => exact knownWord_learned rd hknown

/-! ### TRANSACTION_PERFORMED: the requester (R134 to R136, R139) -/

/-- R139: a watch's record after the read of a re-arm. -/
def Watch.reArmed (x : Watch) (word : Word) (prior found : Found) : Watch :=
  { x with
    shadow := word, state := .compared found, probe := .none
    deferred := match prior, found with
      | .agrees, .agrees => x.deferred
      | .agrees, .differs => x.deferred || decide (x.marks ≠ 0)
      | .differs, .agrees => false
      | .differs, .differs => x.deferred && decide (x.marks ≠ 0) }

theorem reArmed_step {s : State} {w : Fin 12} {word : Word} {found : Found} (prior : Found) (hc : (s.watch w).compare word = found) :
    GroupsOnly (s.setWatch w ((s.watch w).reArmed word prior found)) (s.reArmed w word prior) := by
  set y : Watch := { s.watch w with shadow := word, state := .compared found, probe := .none } with hy
  set u := (s.setWatch w y).submit (.watchArmed w found true) with hu
  have hsub : GroupsOnly (s.setWatch w y) u := submit_groupsOnly _ _
  have huw : u.watch w = y := by rw [hsub.watch, setWatch_watch, if_pos rfl]
  have hset (z : Watch) : GroupsOnly (s.setWatch w z) (u.setWatch w z) := by
    have := hsub.setWatch w z
    rwa [setWatch_setWatch] at this
  have hmis : GroupsOnly (s.setWatch w (y.transit .agrees .differs)) (u.toMismatch w) := by
    have := toMismatch_step u w
    rw [huw] at this
    exact (hset _).trans this
  have hmatch : GroupsOnly (s.setWatch w (y.transit .differs .agrees)) (u.toMatch w) := by
    have := toMatch_step u w
    rw [huw] at this
    exact (hset _).trans this
  unfold State.reArmed Watch.reArmed
  dsimp only
  rw [hc, ← hu]
  cases prior with
  | agrees =>
    cases found with
    | agrees => exact hsub
    | differs => exact hmis
  | differs =>
    cases found with
    | agrees => exact hmatch
    | differs =>
      dsimp only
      split
      · rename_i hd
        simp only [Bool.and_eq_true, beq_iff_eq] at hd
        have hoff : ((s.watch w).deferred && decide ((s.watch w).marks ≠ 0)) = false := by simp [hd.2]
        rw [hoff]
        unfold State.settleReport
        rw [huw]
        exact (hset _).trans (reportMismatch_groupsOnly _ _ _)
      · rename_i hd
        have hkeep : ((s.watch w).deferred && decide ((s.watch w).marks ≠ 0)) = (s.watch w).deferred := by
          revert hd
          cases (s.watch w).deferred <;> simp
        rw [hkeep]
        exact hsub

/-- R134, R135, R136, R139: a probe's result keeps its watch in step. -/
theorem observationOk_probeResult {s v : State} {x : Transaction} {w : Fin 12} (hv : Answering x s v) (hp : PeekPokeOk v)
    (hx : x.requester = .probe w) {e : Bool} {word : Word} (hk : x.kind = .read → e = false → knownWord v.mem x.addr = some word) :
    ObservationOk (v.probeResult w e word) := by
  have hw := hv.watches w
  have put (y : Watch) (hy : WatchFits v.mem v.port.service none w y) : ObservationOk (v.setWatch w y) := by
    refine (observationOk_iff _).2 ⟨hv.mem, hv.nodup, fun u => ?_, hp⟩
    rw [setWatch_watch]
    show WatchFits v.mem v.port.service v.port.current u _
    rw [hv.idle]
    by_cases eu : w = u
    · subst eu
      rw [if_pos rfl]
      exact hy
    · rw [if_neg eu]
      refine (hv.watches u).released fun t ht => ?_
      obtain rfl := Option.some.inj ht
      rw [hx]
      simpa using eu
  have put' {y : Watch} {t : State} (hy : WatchFits v.mem v.port.service none w y) (ht : GroupsOnly (v.setWatch w y) t) : ObservationOk t :=
    observationOk_groupsOnly (put y hy) ht
  have hnq (hi : (v.watch w).probe = .inFlight) : ServiceRequest.probe w ∉ v.port.service := fun hm => by
    have := hw.raised.1 hm
    rw [hi] at this
    cases this
  have hfail (hi : (v.watch w).probe = .inFlight) (re : Bool) : ObservationOk (v.armFailed w re) := by
    refine put' ⟨by simp [Watch.disarm], ?_, ?_, by simp, by simp, by simp [Watch.disarm]⟩ (submit_groupsOnly _ _)
    · exact iff_of_false (hnq hi) (by simp)
    · simp [Watch.disarm, isArming]
  have hread (hi : (v.watch w).probe = .inFlight) (he : e = false) : knownWord v.mem (v.watch w).addr = some word := by
    have hxx := Option.some.inj (hw.inFlight hi)
    have ha : x.addr = (v.watch w).addr := congrArg Transaction.addr hxx
    rw [← ha]
    exact hk (by rw [hxx]) he
  unfold State.probeResult
  dsimp only
  split
  · rename_i hi hst
    split
    · exact hfail hi false
    · rename_i he
      refine put' ⟨fun f hf => ⟨hread hi (by simpa using he), WatchState.compared.inj hf⟩, ?_, ?_, by simp, by simp, fun hd => ?_⟩
        (submit_groupsOnly _ _)
      · exact iff_of_false (hnq hi) (by simp)
      · simp [isArming]
      · have := hw.deferred hd
        rw [hst] at this
        simp at this
  · rename_i prior hi hst
    split
    · exact hfail hi true
    · rename_i he
      refine put' ⟨fun f hf => ⟨hread hi (by simpa using he), WatchState.compared.inj hf⟩, ?_, ?_, by simp [Watch.reArmed],
        by simp [Watch.reArmed], fun hd => ?_⟩ (reArmed_step prior rfl)
      · exact iff_of_false (hnq hi) (by simp [Watch.reArmed])
      · simp [Watch.reArmed, isArming]
      · have hdef := hw.deferred
        rw [hst] at hdef
        revert hd
        unfold Watch.reArmed
        dsimp only
        cases (v.watch w).compare word with
        | differs => simp
        | agrees =>
          cases prior with
          | agrees =>
            intro hd
            have := hdef hd
            simp at this
          | differs => simp
  · rename_i hi hst
    have := hw.arming.2 (.inr hi)
    rw [hst] at this
    cases this
  · rename_i f hi hst
    have := hw.arming.2 (.inr hi)
    rw [hst] at this
    cases this
  · rename_i hi
    have hna : ¬ isArming (v.watch w).state = true := by
      rw [hw.arming, hi]
      simp
    refine put _ ⟨hw.known, iff_of_false (fun hm => ?_) (by simp), iff_of_false hna (by simp), by simp, by simp, hw.deferred⟩
    have := hw.raised.1 hm
    rw [hi] at this
    cases this
  · rename_i hi
    have := put (v.watch w) ⟨hw.known, hw.raised, hw.arming, fun h => (by rw [hi] at h; cases h), fun h => (by rw [hi] at h; cases h), hw.deferred⟩
    rwa [setWatch_self] at this
  · rename_i hi
    have := put (v.watch w) ⟨hw.known, hw.raised, hw.arming, fun h => (by rw [hi] at h; cases h), fun h => (by rw [hi] at h; cases h), hw.deferred⟩
    rwa [setWatch_self] at this

end Sys2Proof.Machine

/-! PROOFS. Chapters 05, 07 and 08: the answers of the memory port, the commands and the resets keep `ObservationOk`. -/

namespace Sys2Proof.Machine

open Sys2Proof.Safety

/-! ### TRANSACTION_PERFORMED -/

theorem Answering.peekPokeOk {s v : State} {x : Transaction} (hv : Answering x s v) (h : PeekPokeOk s) : PeekPokeOk v := by
  obtain ⟨h1, -, -⟩ := h
  refine ⟨fun r hr => ?_, fun t ht => ?_, fun r _ _ t ht => ?_⟩
  · rcases hv.service r hr with hs | ⟨w, rfl⟩
    · have := h1 r hs
      unfold serviceFits at this ⊢
      rw [hv.link]
      exact this
    · rfl
  · rw [hv.idle] at ht
    cases ht
  · rw [hv.idle] at ht
    cases ht

/-- The transaction leaves the port, and was no probe. -/
theorem Answering.idled {s v : State} {x : Transaction} (hv : Answering x s v) (hr : ∀ w, x.requester ≠ .probe w) (w : Fin 12) :
    WatchFits v.mem v.port.service v.port.current w (v.watch w) := by
  rw [hv.idle]
  refine (hv.watches w).released fun t ht => ?_
  obtain rfl := Option.some.inj ht
  exact hr w

/-- R157: the pending peek or poke has been performed and its command completes. -/
theorem Answering.completed {s v t : State} {x : Transaction} (hv : Answering x s v) (h : PeekPokeOk s) (hx : s.port.current = some x)
    (hr : x.requester = .peek ∨ x.requester = .poke) (ht : ∃ l, t = { v with link := l }) : ObservationOk t := by
  obtain ⟨l, rfl⟩ := ht
  have hno : NoPeekPoke v := by
    refine ⟨fun r hm => ?_, fun y hy => ?_⟩
    · rcases hv.service r hm with hs | ⟨w, rfl⟩
      · by_contra hk
        have := h.2.2 r hs (by simpa using hk) x hx
        rcases hr with e | e <;> simp [e] at this
      · rfl
    · rw [hv.idle] at hy
      cases hy
  refine (observationOk_iff _).2 ⟨hv.mem, hv.nodup, hv.idled fun w e => ?_, NoPeekPoke.ok ⟨hno.service, hno.port⟩⟩
  rcases hr with e' | e' <;> rw [e] at e' <;> cases e'

theorem observationOk_reportClearance {s : State} (h : ObservationOk s) : ObservationOk s.reportClearance := by
  obtain ⟨v, hv, -⟩ := reportClearance_spec s
  rw [hv]
  exact observationOk_congr h (fun _ => rfl) rfl rfl rfl rfl

theorem observationOk_reportBlocks {s : State} (h : ObservationOk s) : ObservationOk s.reportBlocks := by
  rw [reportBlocks_eq]
  unfold reported
  split
  · refine observationOk_congr h (fun _ => rfl) ?_ ?_ rfl rfl
    · dsimp only
      split <;> rfl
    · dsimp only
      split <;> rfl
  · exact h

theorem observationOk_requestsOnly {s t : State} (h : ObservationOk s) (hr : RequestsOnly s t) : ObservationOk t :=
  observationOk_congr h (fun w => by simp only [State.watch, hr.watches]) (by rw [hr.port]) (by rw [hr.port]) hr.mem (by rw [hr.link])

theorem observationOk_performed {s : State} (h : ObservationOk s) (e : Bool) (rd : Word) : ObservationOk (s.performed e rd) := by
  have hpp : PeekPokeOk s := ((observationOk_iff s).1 h).2.2.2
  unfold State.performed
  split
  · exact h
  · rename_i x hx
    have hv := answering_landed h hx e rd
    unfold State.perform
    dsimp only
    refine observationOk_reportBlocks (observationOk_reportClearance ?_)
    set v := ((s.setPort { s.port with current := none }).setMem (memoryAfter s.mem x e rd)).reportLanded x e with hdef
    have hok (hr : ∀ w, x.requester ≠ .probe w) : ObservationOk v :=
      (observationOk_iff v).2 ⟨hv.mem, hv.nodup, hv.idled hr, hv.peekPokeOk hpp⟩
    cases hr : x.requester with
    | pass i =>
      have hp := passPerformed_requestsOnly v i e (readWord s.mem x.addr rd)
      exact observationOk_requestsOnly (hok (by simp [hr])) hp
    | drain =>
      have hd := drainPerformed_engineOnly v e
      exact observationOk_marksOnly (hok (by simp [hr])) (drainPerformed_marksOnly v e) hd.portCurrent hd.mem
        (by exact congrArg Link.pending hd.link)
    | probe w =>
      refine observationOk_probeResult hv (hv.peekPokeOk hpp) hr fun hk he => ?_
      subst he
      have : v.mem = writeWord s.mem x.addr (readWord s.mem x.addr rd) 0xF#4 := by
        have hl := (reportLanded_watchesOnly ((s.setPort { s.port with current := none }).setMem (memoryAfter s.mem x false rd)) x false).mem
        rw [hdef, hl]
        show memoryAfter s.mem x false rd = _
        unfold memoryAfter
        rw [hk]
      rw [this]
      exact knownWord_read _ _ _
    | peek =>
      refine hv.completed hpp hx (.inl hr) ?_
      show ∃ l, State.peekPerformed _ _ _ = _
      unfold State.peekPerformed
      split <;> exact ⟨_, rfl⟩
    | poke =>
      refine hv.completed hpp hx (.inr hr) ?_
      show ∃ l, State.pokePerformed _ _ = _
      unfold State.pokePerformed
      split <;> exact ⟨_, rfl⟩

/-! ### Period marks (R145) -/

theorem observationOk_settleMarkAt {s : State} (h : ObservationOk s) (w : Fin 12) : ObservationOk (s.settleMarkAt w) := by
  have hw := ((observationOk_iff s).1 h).2.2.1 w
  refine observationOk_groupsOnly (observationOk_setWatch h w ?_) (settleMarkAt_step s w)
  refine ⟨hw.known, hw.raised, hw.arming, hw.inFlight, hw.orphaned, fun hd => hw.deferred ?_⟩
  simp only [Watch.marked, Bool.and_eq_true] at hd
  exact hd.1

/-! ### PEEK and POKE (R163, R164) -/

theorem observationOk_raiseService {s : State} (h : ObservationOk s) (hp : s.link.pending = none) {c : PendingCommand} {r : ServiceRequest}
    (hr : isPeekPoke r = true) (hf : serviceFits (s.makePending c) r = true) : ObservationOk ((s.makePending c).raiseService r) := by
  obtain ⟨h1, h2, h3, h4⟩ := (observationOk_iff s).1 h
  obtain ⟨hs, hn⟩ := noPeekPoke_of_pending h4 (by simp [hp])
  have hmem (x : ServiceRequest) : x ∈ s.port.service ++ [r] → x ∈ s.port.service ∨ x = r := by simp
  refine (observationOk_iff _).2 ⟨h1, h2.append (by simp) ?_, fun w => (h3 w).service ?_, fun x hx => ?_, fun t ht => ?_, fun x _ _ t ht => hn t ht⟩
  · simp only [List.disjoint_singleton]
    intro hm
    rw [hs r hm] at hr
    cases hr
  · show _ ∈ s.port.service ++ [r] ↔ _
    rw [List.mem_append, List.mem_singleton, or_iff_left]
    rintro rfl
    cases hr
  · rcases hmem x hx with hx | rfl
    · have := hs x hx
      cases x with
      | probe w => rfl
      | peek a => cases this
      | poke a d k => cases this
    · exact hf
  · obtain ⟨hn1, hn2⟩ := hn t ht
    unfold commandFits
    split <;> simp_all

theorem observationOk_startPeek {s t : State} (h : ObservationOk s) (hp : s.link.pending = none) {a : Addr24}
    (hok : State.startPeek a s = .ok t) : ObservationOk t := by
  unfold State.startPeek at hok
  split at hok <;> cases hok
  exact observationOk_raiseService h hp rfl (by simp [serviceFits, State.makePending])

theorem observationOk_startPoke {s t : State} (h : ObservationOk s) (hp : s.link.pending = none) {a : Addr24} {d : Word} {m : Mask}
    (hok : State.startPoke a d m s = .ok t) : ObservationOk t := by
  unfold State.startPoke at hok
  split at hok
  · cases hok
  · split at hok <;> cases hok
    exact observationOk_raiseService h hp rfl (by simp [serviceFits, State.makePending])

/-! ### The resets (R105, R147, R165) -/

theorem observationOk_softResetWatch {s : State} (h : ObservationOk s) (w : Fin 12) : ObservationOk (s.softResetWatch w) := by
  have hd := observationOk_disarmWatch h w
  have hw := ((observationOk_iff _).1 hd).2.2.1 w
  have hst : ((s.disarmWatch w).watch w).state = .disarmed := by
    unfold State.disarmWatch
    dsimp only
    split
    · show ((s.setWatch w _).watch w).state = _
      rw [setWatch_watch, if_pos rfl]
      rfl
    · rw [setWatch_watch, if_pos rfl]
      rfl
  refine observationOk_setWatch hd w ⟨fun f hf => ?_, hw.raised, hw.arming, hw.inFlight, hw.orphaned, hw.deferred⟩
  rw [show ((s.disarmWatch w).watch w).state = _ from hf] at hst
  cases hst

theorem observationOk_tryComplete {s : State} (h : ObservationOk s) : ObservationOk s.tryComplete := by
  unfold State.tryComplete
  split
  · rename_i hc
    rw [Bool.and_eq_true, softResetting_iff] at hc
    rw [completeReset_eq]
    exact observationOk_setPending h (fun _ => rfl) rfl rfl rfl (by simp [hc.1])
  · exact h

theorem observationOk_softReset {s : State} (h : ObservationOk s) (hp : s.link.pending = none) : ObservationOk (softResetBody s) := by
  unfold softResetBody
  dsimp only
  set v := (s.makePending .softReset).setLink { (s.makePending .softReset).link with reports := BlockReports.reset } with hv
  have hvok : ObservationOk v := observationOk_setPending h (fun _ => rfl) rfl rfl rfl (by simp [hp])
  refine observationOk_tryComplete (observationOk_reportBlocks (observationOk_reportClearance ?_))
  obtain ⟨gs, n, hb, -, -⟩ := softResetBlocks_spec v
  rw [hb]
  exact foldl_keeps (P := ObservationOk) (fun s w hs => observationOk_softResetWatch hs w) watchNumbers _
    (observationOk_congr hvok (fun _ => rfl) rfl rfl rfl rfl)

theorem observationOk_powerOn {s : State} (hm : memoryWf s.mem = true) : ObservationOk s.powerOn := by
  have hw (w : Fin 12) : s.powerOn.watch w = Watch.reset := by simp [State.watch, State.powerOn, State.reset]
  refine (observationOk_iff _).2 ⟨?_, List.nodup_nil, fun w => ?_, NoPeekPoke.ok ⟨fun r hr => ?_, fun t ht => ?_⟩⟩
  · show memoryWf s.memoryAbandoned = true
    unfold State.memoryAbandoned
    split
    · exact memoryWf_forgetWord _ _ hm
    · exact hm
  · rw [hw]
    exact ⟨by simp [Watch.reset], by simp [Watch.reset, State.powerOn, State.reset, Port.reset], by simp [Watch.reset, isArming],
      by simp [Watch.reset], by simp [Watch.reset], by simp [Watch.reset]⟩
  · cases hr
  · cases ht

/-! ### Every step -/

/-- R132: the configuration of a DISARMED watch is replaced. -/
theorem observationOk_writeWatch {s t : State} (h : ObservationOk s) {w : Fin 12} {f : WatchFields} {data : List Byte}
    (hok : s.writeWatch w f = .ok (data, t)) : ObservationOk t := by
  have hw := ((observationOk_iff s).1 h).2.2.1 w
  dsimp only [State.writeWatch, written] at hok
  split at hok
  · cases hok
  · split at hok <;> cases hok
    rename_i hst
    have hd : (s.watch w).state = .disarmed := by simpa using hst
    refine observationOk_setWatch h w ⟨fun g hg => ?_, hw.raised, hw.arming, fun hi => ?_, hw.orphaned, hw.deferred⟩
    · rw [show (s.watch w).state = _ from hg] at hd
      cases hd
    · have := hw.arming.2 (.inr hi)
      rw [hd] at this
      cases this

theorem observationOk_endItem {s : State} (h : ObservationOk s) : ObservationOk s.endItem := by
  unfold State.endItem
  split
  · exact h
  · rename_i it _
    split
    · have hr := observationOk_requestsOnly h (returnHeld_requestsOnly s it.group)
      rw [reportEnd_eq]
      refine observationOk_reportBlocks (observationOk_reportClearance ?_)
      exact observationOk_congr hr (fun _ => rfl) rfl rfl rfl rfl
    · exact h

theorem observationOk_decideItem {s : State} (h : ObservationOk s) : ObservationOk s.decideItem := by
  unfold State.decideItem
  split
  · exact h
  · split
    · rename_i it _
      obtain ⟨u, hu⟩ := holdAtStart_eq (s.makeCurrent it) it.group
      have he := takeItem_engineOnly s it
      rw [hu] at he
      exact observationOk_marksOnly h (takeItem_marksOnly s it) he.portCurrent he.mem (by rw [he.link]; rfl)
    · exact h

theorem observationOk_kept : CoreKept (fun _ => True) ObservationOk where
  peripheral s t ht h := observationOk_congr h (fun w => by simp only [State.watch, ht.watches]) (by rw [ht.port]) (by rw [ht.port]) ht.mem
    ht.linkPending
  newCycle s h := observationOk_congr h (fun _ => rfl) rfl rfl rfl rfl
  settleMarkAt s w h := observationOk_settleMarkAt h w
  upstreamRequest s i g k a h := observationOk_requestsOnly h (upstreamRequest_requestsOnly s i g k a)
  issueResponse s i g _ h := by
    unfold State.issueResponse
    dsimp only
    split
    · split
      · exact h
      · exact observationOk_reportBlocks (observationOk_congr h (fun _ => rfl) rfl rfl rfl rfl)
    · exact h
  arbitrate s h := observationOk_arbitrate h
  performed s e r _ h := observationOk_performed h e r
  decideItem s h := observationOk_decideItem h
  endItem s _ h := observationOk_endItem h
  writeWindow n f s d t _ h hok := by
    obtain ⟨rfl, -⟩ := writeWindow_ok hok
    exact observationOk_congr h (fun _ => rfl) rfl rfl rfl rfl
  writeWatch w f s d t _ h hok := observationOk_writeWatch h hok
  writeMemport b s d t _ h hok := by
    dsimp only [State.writeMemport, written] at hok
    split at hok <;> cases hok
    exact observationOk_congr h (fun _ => rfl) rfl rfl rfl rfl
  arm w s d t _ h hok := by
    dsimp only [State.arm] at hok
    split at hok
    · cases hok
    · rename_i hd
      cases hok
      exact observationOk_armWatch h (by simpa using hd)
  disarm w s d t _ h hok := by
    dsimp only [State.disarm] at hok
    split at hok <;> cases hok
    exact observationOk_disarmWatch h w
  newReference r m w s d t _ h hok := by
    cases hok
    exact observationOk_setReference h w r m
  startPeek a s t hp h hok := observationOk_startPeek h hp hok
  startPoke a d m s t hp h hok := observationOk_startPoke h hp hok
  softReset s hp h := observationOk_softReset h hp
  tryComplete s _ h := observationOk_tryComplete h
  powerOn s _ h := observationOk_powerOn ((observationOk_iff s).1 h).1

/-- Settles O60: memory, shadows, probes and service list are kept by what every command does there (`observationOk_kept`). -/
theorem shadowsKept : Obligations.ShadowsKept := fun s t hs h => Kept.step observationOk_kept.kept s t hs h

end Sys2Proof.Machine

/-! PROOFS. Chapters 02, 03, 05 and 09: the ranges of a group's fields and batches, of the event queue and of the drain engine's counts
(R27, R30, R40 to R43, R76, R86, R94, R172), operation by operation. -/

namespace Sys2Proof.Machine

open Sys2Proof.Safety

/-! ### One group's record -/

/-- The ranges of one group's fields, of its batches and of its retirement record. -/
structure GroupInRange (gr : Group) : Prop where
  config : ConfigOk gr.config
  counters : CountersOk gr
  opened : ∀ b ∈ gr.opened, b.errorsSeen = 0 ∧ BatchRange b
  other : ∀ b ∈ gr.other, BatchRange b
  held : gr.held ≤ 512
  retirement : gr.retirement.entries ≤ 512 ∧ gr.retirement.errors ≤ 512

theorem bump_le (n : Nat) : bump n ≤ 65535 := Nat.min_le_right _ _

theorem batchRange_fresh (n : Seq) :
    BatchRange { seq := n, state := .opened, entries := [], sealCause := none, errorsSeen := 0 } := by
  simp [BatchRange]

/-- R54: the batch that is closed has seen no errors. -/
theorem batchRange_close {b : Batch} (h : b.errorsSeen = 0 ∧ BatchRange b) (c : SealCause) : BatchRange (b.close c) := by
  obtain ⟨h0, hl, hp⟩ := h
  exact ⟨by rw [h0] at hl; exact hl, hp⟩

namespace GroupInRange

variable {gr : Group} (h : GroupInRange gr)
include h

theorem openBatch : GroupInRange gr.openBatch where
  config := h.config
  counters := h.counters
  opened b hb := by
    obtain rfl := Option.some.inj hb
    exact ⟨rfl, batchRange_fresh _⟩
  other := h.other
  held := h.held
  retirement := h.retirement

theorem withConsecutive {n : Nat} (hn : n ≤ 15) : GroupInRange { gr with consecutive := n } :=
  ⟨h.config, ⟨hn, h.counters.2⟩, h.opened, h.other, h.held, h.retirement⟩

theorem enterActive : GroupInRange gr.enterActive :=
  GroupInRange.openBatch (gr := { gr with state := .active, consecutive := 0 })
    ⟨h.config, ⟨Nat.zero_le _, h.counters.2⟩, h.opened, h.other, h.held, h.retirement⟩

theorem discard : GroupInRange gr.discard where
  config := h.config
  counters := h.counters
  opened b hb := by cases hb
  other b hb := by
    simp only [Group.discard] at hb
    split at hb
    · exact h.other b hb
    · cases hb
  held := le_trans (Nat.sub_le _ _) h.held
  retirement := h.retirement

theorem firstTrip (t : TripSource) : GroupInRange (gr.firstTrip t) := by
  have hd := h.discard
  obtain ⟨h1, h2, h3, h4, h5, -, h7⟩ := h.counters
  exact ⟨hd.config, ⟨h1, h2, h3, h4, h5, bump_le _, h7⟩, hd.opened, hd.other, hd.held, hd.retirement⟩

/-- R54: a batch is sealed. -/
theorem closed {b : Batch} (ho : gr.opened = some b) (c : SealCause) :
    GroupInRange { gr with opened := none, other := some (b.close c) } where
  config := h.config
  counters := h.counters
  opened b hb := by cases hb
  other b' hb := by
    obtain rfl := Option.some.inj hb
    exact batchRange_close (h.opened b ho) c
  held := h.held
  retirement := h.retirement

/-- R78, R87: the other batch changes its state. -/
theorem otherState {b : Batch} (ho : gr.other = some b) (x : BatchState) : GroupInRange { gr with other := some { b with state := x } } where
  config := h.config
  counters := h.counters
  opened := h.opened
  other b' hb := by
    obtain rfl := Option.some.inj hb
    exact h.other b ho
  held := h.held
  retirement := h.retirement

/-- R93: the other batch retires. -/
theorem retired {r : Retirement} (hr : r.entries ≤ 512 ∧ r.errors ≤ 512) : GroupInRange { gr with retirement := r, other := none } where
  config := h.config
  counters := h.counters
  opened := h.opened
  other b hb := by cases hb
  held := h.held
  retirement := hr

end GroupInRange

/-! ### The groups and the event queue -/

/-- Every group's record and the event queue stand in range. -/
structure GroupsInRange (s : State) : Prop where
  group : ∀ g, GroupInRange (s.group g)
  events : EventsOk s

namespace GroupsInRange

variable {s t : State} (h : GroupsInRange s)
include h

theorem congr (hg : t.groups = s.groups) (he : t.events = s.events) : GroupsInRange t := by
  refine ⟨fun g => ?_, ?_⟩
  · have := h.group g
    simp only [State.group, hg] at this ⊢
    exact this
  · unfold EventsOk
    rw [he]
    exact h.events

theorem setGroup {g : Fin 8} {x : Group} (hx : GroupInRange x) : GroupsInRange (s.setGroup g x) := by
  refine ⟨fun k => ?_, h.events⟩
  rw [setGroup_group]
  split
  · exact hx
  · exact h.group k

theorem store (b : EventBody) : GroupsInRange (s.store b) := by
  obtain ⟨h1, h2, h3⟩ := h.events
  unfold State.store
  split
  · rename_i hl
    refine ⟨h.group, ?_, Nat.zero_le _, fun r hr => ?_⟩
    · show (s.events.records ++ [s.stamped b]).length ≤ 32
      rw [List.length_append]
      exact hl
    · rcases List.mem_append.1 hr with hr | hr
      · exact h3 r hr
      · obtain rfl := List.mem_singleton.1 hr
        exact h2
  · exact ⟨h.group, h1, Nat.min_le_right _ _, h3⟩

theorem submit (b : EventBody) : GroupsInRange (s.submit b) := by
  unfold State.submit
  split
  · exact h.store b
  · exact h

/-! ### Faults -/

theorem discardBatches (g : Fin 8) : GroupsInRange (s.discardBatches g) := by
  refine (h.setGroup (g := g) (h.group g).discard).congr (t := s.discardBatches g) rfl rfl

theorem firstTrip (g : Fin 8) (x : TripSource) : GroupsInRange (s.firstTrip g x) := by
  refine GroupsInRange.submit ?_ _
  exact ((h.discardBatches g).setGroup (g := g) ((h.group g).firstTrip x)).congr rfl rfl

theorem secondFault (g : Fin 8) (x : TripSource) : GroupsInRange (s.secondFault g x) := by
  have hg := h.group g
  obtain ⟨h1, h2, h3, h4, h5, -, h7⟩ := hg.counters
  exact h.setGroup ⟨hg.config, ⟨h1, h2, h3, h4, h5, bump_le _, h7⟩, hg.opened, hg.other, hg.held, hg.retirement⟩

theorem tripSource (g : Fin 8) (x : TripSource) : GroupsInRange (s.tripSource g x) := by
  unfold State.tripSource
  split
  · exact h
  · split
    · exact h
    · exact h.firstTrip g x
    · exact h.firstTrip g x
    · exact h.secondFault g x
    · exact h.secondFault g x

theorem clearGroup (g : Fin 8) (c : ClearCause) (f : Bool) : GroupsInRange (s.clearGroup g c f) := by
  have hg := h.group g
  refine (h.setGroup (GroupInRange.enterActive ?_)).submit _
  exact ⟨hg.config, hg.counters, hg.opened, hg.other, hg.held, hg.retirement⟩

/-! ### Sealing and staging -/

theorem queueOther (g : Fin 8) : GroupsInRange (s.queueOther g) := by
  unfold State.queueOther
  split
  · rename_i b ho
    exact (h.setGroup (g := g) ((h.group g).otherState ho .queued)).congr rfl rfl
  · exact h

theorem sealOpen (g : Fin 8) (c : SealCause) : GroupsInRange (s.sealOpen g c) := by
  unfold State.sealOpen
  dsimp only
  split
  · exact h
  · rename_i b ho
    have hc := (h.group g).closed ho c
    split
    · split
      · exact (h.setGroup hc.openBatch).queueOther g
      · exact h.setGroup hc.openBatch
    · exact (h.setGroup hc).queueOther g

theorem setSealPending (g : Fin 8) (v : Bool) : GroupsInRange (s.setGroup g { s.group g with sealPending := v }) := by
  have hg := h.group g
  exact h.setGroup ⟨hg.config, hg.counters, hg.opened, hg.other, hg.held, hg.retirement⟩

theorem sealRequest (g : Fin 8) (c : SealCause) : GroupsInRange (s.sealRequest g c).1 := by
  unfold State.sealRequest
  dsimp only
  split
  · split
    · exact h.sealOpen g c
    · split
      · exact h
      · exact h.setSealPending g true
  · split <;> exact h
  · exact h

/-- R47, R48: the quota bounds the entries of the OPEN batch. -/
theorem stageEntry {g : Fin 8} {b : Batch} (ho : (s.group g).opened = some b) (hb : GroupBatchesOk (s.group g)) (a : WordAddr) (d : Word)
    (m : Mask) : GroupsInRange (s.stageEntry g b a d m).1 := by
  have hg := h.group g
  obtain ⟨h0, hl, hp⟩ := hg.opened b ho
  unfold State.stageEntry
  dsimp only
  split
  · exact h
  · split
    · refine h.setGroup ⟨hg.config, hg.counters, fun x hx => ?_, hg.other, hg.held, hg.retirement⟩
      obtain rfl := Option.some.inj hx
      refine ⟨h0, by simpa [Batch.coalesce] using hl, fun e he => ?_⟩
      simp only [Batch.coalesce, List.mem_map] at he
      obtain ⟨e', he', rfl⟩ := he
      split
      · exact hp e' he'
      · exact hp e' he'
    · split
      · exact h
      · rename_i hq
        split
        · exact h
        · have hquota := hg.config.2.2.1
          have hheld := hb.2.1
          rw [ho] at hheld
          simp only [entryCount] at hheld
          have hlt : b.entries.length < 512 := by omega
          have hs : GroupInRange { s.group g with opened := some (b.append a d m), held := (s.group g).held + 1 } := by
            refine ⟨hg.config, hg.counters, fun x hx => ?_, hg.other, by dsimp only; omega, hg.retirement⟩
            obtain rfl := Option.some.inj hx
            refine ⟨h0, ?_, fun e he => ?_⟩
            · show b.errorsSeen + (b.entries ++ [_]).length ≤ 512
              rw [h0, List.length_append, List.length_singleton]
              omega
            · rcases List.mem_append.1 he with he | he
              · exact hp e he
              · obtain rfl := List.mem_singleton.1 he
                exact hlt
          exact (h.setGroup (g := g) hs).congr rfl rfl

theorem stage {g : Fin 8} (hb : GroupBatchesOk (s.group g)) (a : WordAddr) (d : Word) (m : Mask) (w : Bool) :
    GroupsInRange (s.stage g a d m w).1 := by
  unfold State.stage
  split
  · exact h
  · rename_i b ho
    have he := h.stageEntry ho hb a d m
    split
    · rename_i e
      rw [e] at he
      exact he
    · rename_i e
      rw [e] at he
      split
      · exact he.sealRequest g _
      · exact he

theorem reportRefusal (g : Fin 8) (c : RefusalCause) (i : BitVec 2) : GroupsInRange (s.reportRefusal g c i) := by
  have hg := h.group g
  obtain ⟨h1, h2, h3, h4, -, h6, h7⟩ := hg.counters
  have hs : GroupsInRange (s.setGroup g { s.group g with refused := bump (s.group g).refused, refusalReported := true }) :=
    h.setGroup ⟨hg.config, ⟨h1, h2, h3, h4, bump_le _, h6, h7⟩, hg.opened, hg.other, hg.held, hg.retirement⟩
  unfold State.reportRefusal
  dsimp only
  split
  · exact hs
  · exact hs.submit _

/-! ### Release points -/

theorem miss (g : Fin 8) : GroupsInRange (s.miss g).1 := by
  have hg := h.group g
  obtain ⟨-, h2, -, h4, h5, h6, h7⟩ := hg.counters
  have hs : GroupsInRange (s.setGroup g
      { s.group g with misses := bump (s.group g).misses, consecutive := satInc Config.missesMax (s.group g).consecutive }) :=
    h.setGroup ⟨hg.config, ⟨Nat.min_le_right _ _, h2, bump_le _, h4, h5, h6, h7⟩, hg.opened, hg.other, hg.held, hg.retirement⟩
  unfold State.miss
  dsimp only
  split
  · exact (hs.submit _).tripSource g _
  · exact hs.submit _

theorem overrun (g : Fin 8) (b : Batch) : GroupsInRange (s.overrun g b).1 := by
  have hg := h.group g
  obtain ⟨h1, h2, h3, -, h5, h6, h7⟩ := hg.counters
  have hs : GroupsInRange (s.setGroup g { s.group g with overruns := bump (s.group g).overruns }) :=
    h.setGroup ⟨hg.config, ⟨h1, h2, h3, bump_le _, h5, h6, h7⟩, hg.opened, hg.other, hg.held, hg.retirement⟩
  exact hs.submit _

theorem releasePoint (g : Fin 8) : GroupsInRange (s.releasePoint g).1 := by
  unfold State.releasePoint
  split
  · exact h
  · split
    · split
      · exact h.miss g
      · split
        · exact (h.setGroup ((h.group g).withConsecutive (Nat.zero_le _))).queueOther g
        · exact h.overrun g _
    · split
      · exact h.clearGroup g _ _
      · exact h
    · exact h
    · exact h
    · exact h

theorem setSkip (g : Fin 8) {n : Nat} (hn : n ≤ 15) : GroupsInRange (s.setGroup g { s.group g with skipRemaining := n }) := by
  have hg := h.group g
  obtain ⟨h1, -, h3⟩ := hg.counters
  exact h.setGroup ⟨hg.config, ⟨h1, hn, h3⟩, hg.opened, hg.other, hg.held, hg.retirement⟩

theorem candidate (g : Fin 8) : GroupsInRange (s.candidate g) := by
  obtain ⟨-, e⟩ | ⟨-, ⟨-, e⟩ | ⟨-, e⟩⟩ := candidate_cases s g <;> rw [e]
  · exact h
  · exact h.setSkip g (le_trans (Nat.sub_le _ _) (h.group g).counters.2.1)
  · exact (h.setSkip g (h.group g).config.2.1).releasePoint g

end GroupsInRange

theorem groupsInRange_watchClosed : WatchClosed GroupsInRange where
  setWatch _ _ _ _ _ h := h.congr rfl rfl
  setService _ _ h := h.congr rfl rfl
  submit _ b h := h.submit b
  tripSource _ g x h := h.tripSource g x
  reorder _ _ h := h.congr rfl rfl

theorem groupsInRange_schedulerClosed : SchedulerClosed GroupsInRange where
  setBase _ b _ h := by cases b <;> exact h.congr rfl rfl
  setReleaseLine _ _ _ h := h.congr rfl rfl
  setFaultLine _ _ _ h := h.congr rfl rfl
  candidate _ g h := h.candidate g
  tripSource _ g x h := h.tripSource g x
  settleMarks _ b h := groupsInRange_watchClosed.settleMarks b h
  newCycle _ h := h.congr rfl rfl

namespace GroupsInRange

variable {s : State} (h : GroupsInRange s)
include h

/-! ### Requests -/

theorem refuse (i : Fin 16) (g : Fin 8) (c : RefusalCause) : GroupsInRange (s.refuse i g c) :=
  GroupsInRange.reportRefusal (s := s.answer i (.refused c) false) (h.congr rfl rfl) g c _

theorem stageSlot (hb : ∀ g, GroupBatchesOk (s.group g)) (i : Fin 16) (w : Window) (d : Word) (m : Mask) : GroupsInRange (s.stageSlot i w d m) := by
  have hst := h.stage (hb w.group) (s.slot i).addr d m (w.isSealWord (s.slot i).addr)
  unfold State.stageSlot
  split
  · rename_i e
    rw [e] at hst
    exact hst.congr rfl rfl
  · rename_i e
    rw [e] at hst
    dsimp only
    split
    · exact (hst.refuse i _ _).tripSource _ _
    · exact hst.refuse i _ _

theorem follow (hb : ∀ g, GroupBatchesOk (s.group g)) (i : Fin 16) (r : Route) : GroupsInRange (s.follow i r) := by
  unfold State.follow
  dsimp only
  split
  · exact h.congr rfl rfl
  · exact h.congr rfl rfl
  · exact h.congr rfl rfl
  · split
    · exact h.stageSlot hb i _ _ _
    · exact h
  · exact h.refuse i _ _

theorem upstreamRequest (hb : ∀ g, GroupBatchesOk (s.group g)) (init tag : BitVec 2) (kind : ReqKind) (a : WordAddr) :
    GroupsInRange (s.upstreamRequest init tag kind a) := by
  unfold State.upstreamRequest
  split
  · exact h.congr rfl rfl
  · split
    · exact h.congr rfl rfl
    · show GroupsInRange ((s.taking (slotOf init tag) kind a).decodeTaken (slotOf init tag))
      have ht : GroupsInRange (s.taking (slotOf init tag) kind a) := h.congr rfl rfl
      unfold State.decodeTaken
      split
      · exact ht.congr rfl rfl
      · dsimp only
        have hf := ht.follow hb (slotOf init tag) ((s.taking (slotOf init tag) kind a).route (slotOf init tag))
        split
        · exact hf.congr rfl rfl
        · exact hf

end GroupsInRange

/-- R18: the held requests are decided one after another. -/
theorem groupsInRange_reDecode (l : List (Fin 16)) (acc : State × List (Fin 16)) (hb : BatchesOk acc.1) (h : GroupsInRange acc.1) :
    GroupsInRange (l.foldl reDecode acc).1 := by
  induction l generalizing acc with
  | nil => exact h
  | cons i l ih => exact ih _ (batchesOk_follow i _ hb) (h.follow hb.1 i _)

theorem groupsInRange_returnHeld {s : State} (hb : BatchesOk s) (h : GroupsInRange s) (g : Fin 8) : GroupsInRange (s.returnHeld g) := by
  unfold State.returnHeld
  dsimp only
  refine foldl_keeps (P := GroupsInRange) (f := fun s i => s.setSlot i { s.slot i with returnMark := some g })
    (fun _ _ h => h.congr rfl rfl) _ _ ?_
  have hacc := groupsInRange_reDecode (s.upstream.holdList.filter (s.slotIn g))
    (s.setHoldList (s.upstream.holdList.filter (fun i => !s.slotIn g i)), []) (batchesOk_setUpstream _ hb) (h.congr rfl rfl)
  exact hacc.congr rfl rfl

/-! ### The drain engine -/

namespace GroupsInRange

variable {s : State} (h : GroupsInRange s)
include h

theorem followUp (g : Fin 8) : GroupsInRange (s.followUp g) := by
  have hg := h.group g
  have hst (x : GroupState) : GroupsInRange (s.setGroup g { s.group g with state := x }) :=
    h.setGroup ⟨hg.config, hg.counters, hg.opened, hg.other, hg.held, hg.retirement⟩
  unfold State.followUp
  dsimp only
  split
  · exact hst _
  · split
    · exact (h.setSealPending g false).sealOpen g _
    · split
      · exact (hst _).submit _
      · exact h

theorem retire {g : Fin 8} {b : Batch} (hb : BatchRange b) (ht : s.drain.taken ≤ 512) : GroupsInRange (s.retire g b) := by
  have hg := h.group g
  set u := (s.setGroup g { s.group g with retirement := s.retirementRecord g b }).submit (.batchRetired g b.seq b.sealCause b.errorsSeen)
  have hu : GroupsInRange u := by
    refine (h.setGroup ?_).submit _
    exact ⟨hg.config, hg.counters, hg.opened, hg.other, hg.held, ht, by
      show b.errorsSeen ≤ 512
      have := hb.1
      omega⟩
  have hnone : GroupsInRange (u.setGroup g { u.group g with other := none }) := by
    have hug := hu.group g
    exact hu.setGroup ⟨hug.config, hug.counters, hug.opened, fun b hb => (by cases hb), hug.held, hug.retirement⟩
  have hfin := hnone.followUp g
  unfold State.retire
  dsimp only
  rw [openWindows_eq]
  split
  · refine GroupsInRange.tripSource ?_ g _
    exact hfin.congr rfl rfl
  · exact hfin.congr rfl rfl

theorem completeSafe (g : Fin 8) : GroupsInRange (s.completeSafe g) := by
  have hg := h.group g
  have hs (x : GroupState) (v : Bool) : GroupsInRange (s.setGroup g { s.group g with state := x, safeIncomplete := v }) :=
    h.setGroup ⟨hg.config, hg.counters, hg.opened, hg.other, hg.held, hg.retirement⟩
  exact GroupsInRange.congr ((hs _ _).submit _) rfl rfl

theorem advanceSafe (g : Fin 8) (n : Nat) : GroupsInRange (s.advanceSafe g n) := by
  obtain ⟨k, -, e⟩ | ⟨-, e⟩ := advanceSafe_cases s g n <;> rw [e]
  · exact h.congr rfl rfl
  · exact h.completeSafe g

theorem startBatch (g : Fin 8) : GroupsInRange (s.startBatch g) := by
  unfold State.startBatch
  split
  · exact h
  · rename_i b ho
    have hr := (h.group g).other b ho
    have hlen : b.entries.length ≤ 512 := by have := hr.1; omega
    have hs : GroupsInRange ((s.setGroup g { s.group g with other := some { b with state := .draining } }).setDrain
        { s.drain with taken := b.entries.length }) := (h.setGroup (g := g) ((h.group g).otherState ho .draining)).congr rfl rfl
    dsimp only
    split
    · exact hs.retire hr hlen
    · exact hs

/-- R90, R91: an entry written leaves the batch, an error is counted in its place. -/
theorem entryWritten (g : Fin 8) (error : Bool) (ht : s.drain.taken ≤ 512) : GroupsInRange (s.entryWritten g error) := by
  unfold State.entryWritten
  dsimp only
  split
  · exact h
  · rename_i b ho
    split
    · exact h
    · rename_i e rest he
      have hg := h.group g
      obtain ⟨h1, h2, h3, h4, h5, h6, h7⟩ := hg.counters
      obtain ⟨hl, hp⟩ := hg.other b ho
      rw [he] at hl hp
      rw [List.length_cons] at hl
      set b' : Batch := { b with entries := rest, errorsSeen := if error then b.errorsSeen + 1 else b.errorsSeen } with hb'
      have hr : BatchRange b' := by
        refine ⟨?_, fun x hx => hp x (List.mem_cons_of_mem _ hx)⟩
        show (if error then b.errorsSeen + 1 else b.errorsSeen) + rest.length ≤ 512
        split <;> omega
      have hdrain : (if error then bump (s.group g).drainErrors else (s.group g).drainErrors) ≤ 65535 := by
        split
        · exact bump_le _
        · exact h7
      have hx : GroupInRange { s.group g with
          other := some b', held := (s.group g).held - 1
          drainErrors := if error then bump (s.group g).drainErrors else (s.group g).drainErrors } :=
        ⟨hg.config, ⟨h1, h2, h3, h4, h5, h6, hdrain⟩, hg.opened, fun x hx => by
          obtain rfl := Option.some.inj hx
          exact hr, le_trans (Nat.sub_le _ _) hg.held, hg.retirement⟩
      have hs := GroupsInRange.congr (t := ((s.setGroup g { s.group g with
          other := some b', held := (s.group g).held - 1
          drainErrors := if error then bump (s.group g).drainErrors else (s.group g).drainErrors }).setFreeSlots (s.freeSlots + 1)))
        (h.setGroup (g := g) hx) rfl rfl
      split
      · exact hs.retire hr ht
      · exact hs

theorem drainPerformed (error : Bool) (ht : s.drain.taken ≤ 512) : GroupsInRange (s.drainPerformed error) := by
  unfold State.drainPerformed
  split
  · exact h.entryWritten _ error ht
  · unfold State.safeEntryWritten
    refine GroupsInRange.advanceSafe ?_ _ _
    exact h.congr rfl rfl
  · exact h

theorem takeItem (it : Item) : GroupsInRange (s.takeItem it) := by
  obtain ⟨u, hu⟩ := holdAtStart_eq (s.makeCurrent it) it.group
  have hh : GroupsInRange ((s.makeCurrent it).holdAtStart it.group) := by
    rw [hu]
    exact h.congr rfl rfl
  unfold State.takeItem
  dsimp only
  split
  · exact hh.startBatch _
  · exact hh.advanceSafe _ _

end GroupsInRange

/-! ### The engine's counts (R86, R94, R97) -/

theorem drainRanges_of_drain {s t : State} (h : DrainRangesOk s) (hd : t.drain = s.drain) : DrainRangesOk t := by
  unfold DrainRangesOk
  rw [hd]
  exact h

theorem safeBeingWritten_ending {d : Drain} (h : d.progress = .ending) : safeBeingWritten d = false := by
  unfold safeBeingWritten
  split
  · rename_i hw
    rw [h] at hw
    cases hw
  · rfl

/-- R97: the engine goes to a safe entry from `n` on, having written at most `n` of them. -/
theorem drainRanges_advanceSafe {s : State} (g : Fin 8) (n : Nat) (he : s.drain.errors ≤ s.drain.written) (hw : s.drain.written ≤ n)
    (hn : n ≤ 128) (ht : s.drain.taken ≤ 512) : DrainRangesOk (s.advanceSafe g n) := by
  obtain ⟨k, hk, e⟩ | ⟨-, e⟩ := advanceSafe_cases s g n <;> rw [e]
  · have := (nextSafe_eq_some s g n k hk).1
    exact ⟨he, by dsimp; omega, ht, fun _ => by dsimp; omega⟩
  · have hd : (s.completeSafe g).drain = { s.drain with progress := .ending } := (completeSafe_groupsOnly s g).drain
    refine ⟨?_, ?_, ?_, ?_⟩
    · rw [hd]; exact he
    · rw [hd]; dsimp; omega
    · rw [hd]; exact ht
    · rw [hd, safeBeingWritten_ending rfl]
      simp

theorem drainRanges_retire {s : State} (g : Fin 8) (b : Batch) (h : DrainRangesOk s) : DrainRangesOk (s.retire g b) := by
  obtain ⟨h1, h2, h3, -⟩ := h
  have hd : (s.retire g b).drain = { s.drain with progress := .ending } := (retire_step s g b).drain
  refine ⟨?_, ?_, ?_, ?_⟩
  · rw [hd]; exact h1
  · rw [hd]; exact h2
  · rw [hd]; exact h3
  · rw [hd, safeBeingWritten_ending rfl]
    simp

theorem drainRanges_entryWritten {s : State} (g : Fin 8) (error : Bool) (h : DrainRangesOk s) : DrainRangesOk (s.entryWritten g error) := by
  unfold State.entryWritten
  dsimp only
  split
  · exact h
  · split
    · exact h
    · split
      · exact drainRanges_retire _ _ (drainRanges_of_drain h rfl)
      · exact drainRanges_of_drain h rfl

/-- R97, R125: a safe job's write counts, and the engine passes its entry. -/
theorem drainRanges_drainPerformed {s : State} (error : Bool) (h : DrainRangesOk s) (hp : s.drain.progress = .writing) :
    DrainRangesOk (s.drainPerformed error) := by
  obtain ⟨h1, h2, h3, h4⟩ := h
  unfold State.drainPerformed
  split
  · exact drainRanges_entryWritten _ error ⟨h1, h2, h3, h4⟩
  · rename_i g hc
    have hw := h4 (by unfold safeBeingWritten; rw [hc, hp])
    have hk := s.drain.safeNext.isLt
    refine drainRanges_advanceSafe (s := s.setDrain _) g _ ?_ ?_ ?_ h3
    · dsimp
      split <;> omega
    · dsimp
      omega
    · omega
  · exact ⟨h1, h2, h3, h4⟩

theorem drainRanges_startBatch {s : State} {g : Fin 8} (h : DrainRangesOk s) (hb : ∀ b, (s.group g).other = some b → b.entries.length ≤ 512)
    (hs : safeBeingWritten s.drain = false) : DrainRangesOk (s.startBatch g) := by
  obtain ⟨h1, h2, h3, -⟩ := h
  unfold State.startBatch
  split
  · exact ⟨h1, h2, h3, by rw [hs]; simp⟩
  · rename_i b ho
    have hstart : DrainRangesOk ((s.setGroup g { s.group g with other := some { b with state := .draining } }).setDrain
        { s.drain with taken := b.entries.length }) := by
      refine ⟨h1, h2, hb b ho, fun hx => ?_⟩
      have hw : safeBeingWritten s.drain = true := hx
      rw [hs] at hw
      cases hw
    dsimp only
    split
    · exact drainRanges_retire _ _ hstart
    · exact hstart

theorem drainRanges_takeItem {s : State} (it : Item) (h : DrainRangesOk s) (hb : ∀ g b, (s.group g).other = some b → b.entries.length ≤ 512) :
    DrainRangesOk (s.takeItem it) := by
  obtain ⟨u, hu⟩ := holdAtStart_eq (s.makeCurrent it) it.group
  obtain ⟨-, -, h3, -⟩ := h
  unfold State.takeItem
  dsimp only
  rw [hu]
  cases it with
  | batch g q => exact drainRanges_startBatch ⟨Nat.le_refl 0, Nat.zero_le _, h3, fun hx => by cases hx⟩ (hb g) rfl
  | safe g => exact drainRanges_advanceSafe g 0 (Nat.le_refl 0) (Nat.le_refl 0) (Nat.zero_le _) h3

end Sys2Proof.Machine

/-! PROOFS. Chapters 02 to 09: every command keeps the groups, the event queue and the drain engine's counts in range, from a state
whose batches fit together. -/

namespace Sys2Proof.Machine

open Sys2Proof.Safety

/-- Groups, event queue and engine in range, with the batches fitting together. -/
structure EngineInRange (s : State) : Prop where
  batches : BatchesOk s
  groups : GroupsInRange s
  drain : DrainRangesOk s

theorem EngineInRange.of_drain {s t : State} (h : EngineInRange s) (hb : BatchesOk t) (hg : GroupsInRange t) (hd : t.drain = s.drain) :
    EngineInRange t := ⟨hb, hg, drainRanges_of_drain h.drain hd⟩

theorem engineInRange_watchClosed : WatchClosed EngineInRange where
  setWatch s w x hl hm h := h.of_drain (batchesOk_watchClosed.setWatch s w x hl hm h.batches) (groupsInRange_watchClosed.setWatch s w x hl hm h.groups) rfl
  setService s l h := h.of_drain (batchesOk_watchClosed.setService s l h.batches) (groupsInRange_watchClosed.setService s l h.groups) rfl
  submit s b h := h.of_drain (batchesOk_submit b h.batches) (h.groups.submit b) (submit_groupsOnly s b).drain
  tripSource s g x h := h.of_drain (batchesOk_tripSource g x h.batches) (h.groups.tripSource g x) (tripSource_groupsOnly s g x).drain
  reorder s q h := h.of_drain (batchesOk_watchClosed.reorder s q h.batches) (groupsInRange_watchClosed.reorder s q h.groups) rfl

theorem engineInRange_schedulerClosed : SchedulerClosed EngineInRange where
  setBase s b x h := h.of_drain (batchesOk_schedulerClosed.setBase s b x h.batches) (groupsInRange_schedulerClosed.setBase s b x h.groups)
    (by cases b <;> rfl)
  setReleaseLine s n x h :=
    h.of_drain (batchesOk_schedulerClosed.setReleaseLine s n x h.batches) (groupsInRange_schedulerClosed.setReleaseLine s n x h.groups) rfl
  setFaultLine s n x h :=
    h.of_drain (batchesOk_schedulerClosed.setFaultLine s n x h.batches) (groupsInRange_schedulerClosed.setFaultLine s n x h.groups) rfl
  candidate s g h := h.of_drain (batchesOk_candidate g h.batches) (h.groups.candidate g) (candidate_groupsOnly s g).drain
  tripSource := engineInRange_watchClosed.tripSource
  settleMarks _ b h := engineInRange_watchClosed.settleMarks b h
  newCycle s h := h.of_drain (batchesOk_schedulerClosed.newCycle s h.batches) (groupsInRange_schedulerClosed.newCycle s h.groups) rfl

/-! ### The drain engine and the ports -/

theorem drainRanges_reportClearance {s : State} (h : DrainRangesOk s) : DrainRangesOk s.reportClearance := by
  obtain ⟨v, hv, -⟩ := reportClearance_spec s
  rw [hv]
  exact h

theorem groupsInRange_reportClearance {s : State} (h : GroupsInRange s) : GroupsInRange s.reportClearance := by
  obtain ⟨v, hv, -⟩ := reportClearance_spec s
  rw [hv]
  exact h.congr rfl rfl

theorem drainRanges_reportBlocks {s : State} (h : DrainRangesOk s) : DrainRangesOk s.reportBlocks := by
  obtain ⟨_, _, _, hb⟩ := reportBlocks_spec s
  rw [hb]
  exact h

theorem groupsInRange_reportBlocks {s : State} (h : GroupsInRange s) : GroupsInRange s.reportBlocks := by
  obtain ⟨_, _, _, hb⟩ := reportBlocks_spec s
  rw [hb]
  exact h.congr rfl rfl

theorem engineInRange_reportBlocks {s : State} (h : EngineInRange s) : EngineInRange s.reportBlocks :=
  ⟨batchesOk_reportBlocks h.batches, groupsInRange_reportBlocks h.groups, drainRanges_reportBlocks h.drain⟩

theorem engineInRange_arbitrate {s : State} (h : EngineInRange s) : EngineInRange s.arbitrate := by
  have hbat := batchesOk_arbitrate h.batches
  obtain ⟨u, p, ws, he⟩ := arbitrate_eq s
  rw [he] at hbat ⊢
  exact h.of_drain hbat (h.groups.congr rfl rfl) rfl

theorem engineInRange_decideItem {s : State} (h : EngineInRange s) : EngineInRange s.decideItem := by
  have hbat := batchesOk_decideItem h.batches
  have hlen (g : Fin 8) (b : Batch) (hb : (s.group g).other = some b) : b.entries.length ≤ 512 := by
    have := ((h.groups.group g).other b hb).1
    omega
  refine ⟨hbat, ?_, ?_⟩
  · unfold State.decideItem
    split
    · exact h.groups
    · split
      · exact h.groups.takeItem _
      · exact h.groups
  · unfold State.decideItem
    split
    · exact h.drain
    · split
      · exact drainRanges_takeItem _ h.drain hlen
      · exact h.drain

theorem engineInRange_endItem {s : State} (h : EngineInRange s) : EngineInRange s.endItem := by
  refine ⟨batchesOk_endItem h.batches, ?_, ?_⟩
  · unfold State.endItem
    split
    · exact h.groups
    · rename_i it _
      split
      · have hr := groupsInRange_returnHeld h.batches h.groups it.group
        rw [reportEnd_eq]
        refine groupsInRange_reportBlocks (groupsInRange_reportClearance ?_)
        exact hr.congr rfl rfl
      · exact h.groups
  · unfold State.endItem
    split
    · exact h.drain
    · rename_i it _
      split
      · have hd := (returnHeld_requestsOnly s it.group).drain
        rw [reportEnd_eq]
        refine drainRanges_reportBlocks (drainRanges_reportClearance ?_)
        obtain ⟨h1, h2, h3, -⟩ := h.drain
        refine ⟨?_, ?_, ?_, fun hx => by cases hx⟩
        · show (s.returnHeld it.group).drain.errors ≤ (s.returnHeld it.group).drain.written
          rw [hd]; exact h1
        · show (s.returnHeld it.group).drain.written ≤ 512
          rw [hd]; exact h2
        · show (s.returnHeld it.group).drain.taken ≤ 512
          rw [hd]; exact h3
      · exact h.drain

/-- R101: what the requester of a transaction does, in range. -/
theorem engineInRange_toRequester {v : State} {x : Transaction} (hg : GroupsInRange v) (hd : DrainRangesOk v)
    (hp : x.requester = .drain → v.drain.progress = .writing) (e : Bool) (word : Word) :
    GroupsInRange (v.toRequester x.requester e word) ∧ DrainRangesOk (v.toRequester x.requester e word) := by
  cases hr : x.requester with
  | pass i =>
    obtain ⟨p, snap, he⟩ := passPerformed_answered v i e word
    show GroupsInRange (v.passPerformed i e word) ∧ DrainRangesOk (v.passPerformed i e word)
    rw [he]
    exact ⟨hg.congr rfl rfl, hd⟩
  | drain => exact ⟨hg.drainPerformed e hd.2.2.1, drainRanges_drainPerformed e hd (hp hr)⟩
  | probe w => exact ⟨groupsInRange_watchClosed.probeResult w e word hg, drainRanges_of_drain hd (probeResult_watchesOnly v w e word).drain⟩
  | peek =>
    show GroupsInRange (v.peekPerformed e word) ∧ DrainRangesOk (v.peekPerformed e word)
    unfold State.peekPerformed
    split <;> exact ⟨hg.congr rfl rfl, hd⟩
  | poke =>
    show GroupsInRange (v.pokePerformed e) ∧ DrainRangesOk (v.pokePerformed e)
    unfold State.pokePerformed
    split <;> exact ⟨hg.congr rfl rfl, hd⟩

theorem engineInRange_performed {s : State} (h : EngineInRange s) (e : Bool) (rd : Word) : EngineInRange (s.performed e rd) := by
  have hbat := batchesOk_performed e rd h.batches
  suffices GroupsInRange (s.performed e rd) ∧ DrainRangesOk (s.performed e rd) from ⟨hbat, this.1, this.2⟩
  unfold State.performed
  split
  · exact ⟨h.groups, h.drain⟩
  · rename_i x hx
    have hwriting : x.requester = .drain → s.drain.progress = .writing := fun hr => by
      obtain ⟨y, hy, -⟩ := h.batches.2.2.2.1.2.2 x hx hr
      exact ((drainWrite_eq_some s y).1 hy).1
    unfold State.perform
    dsimp only
    set u := (s.setPort { s.port with current := none }).setMem (memoryAfter s.mem x e rd)
    have hl := reportLanded_watchesOnly u x e
    have hgroups : GroupsInRange (u.reportLanded x e) := by
      have hu : GroupsInRange u := h.groups.congr rfl rfl
      unfold State.reportLanded
      split
      · exact groupsInRange_watchClosed.landedWrite _ _ _ _ hu
      · exact hu
    have hdrain : DrainRangesOk (u.reportLanded x e) := drainRanges_of_drain h.drain hl.drain
    obtain ⟨hg, hd⟩ := engineInRange_toRequester (x := x) hgroups hdrain (fun hr => by rw [hl.drain]; exact hwriting hr) e
      (readWord s.mem x.addr rd)
    exact ⟨groupsInRange_reportBlocks (groupsInRange_reportClearance hg), drainRanges_reportBlocks (drainRanges_reportClearance hd)⟩

/-! ### Commands to a group -/

/-- A command that the groups' operations make up. -/
theorem engineInRange_takes {f : State → CommandResult} (hb : Takes BatchesOk f) (hg : ∀ s d t, GroupsInRange s → f s = .ok (d, t) → GroupsInRange t)
    (hd : ∀ s d t, f s = .ok (d, t) → t.drain = s.drain) : Takes EngineInRange f := fun s d t hp h hok =>
  h.of_drain (hb s d t hp h.batches hok) (hg s d t h.groups hok) (hd s d t hok)

theorem groupsInRange_setState {s : State} (h : GroupsInRange s) (g : Fin 8) (x : GroupState) (o : StopOption) :
    GroupsInRange (s.setGroup g { s.group g with state := x, stopOption := o }) := by
  have hg := h.group g
  exact h.setGroup ⟨hg.config, hg.counters, hg.opened, hg.other, hg.held, hg.retirement⟩

theorem groupsInRange_stopNow {s : State} (h : GroupsInRange s) (g : Fin 8) (o : StopOption) : GroupsInRange (s.stopNow g o) :=
  (groupsInRange_setState h g _ o).submit _

theorem groupsInRange_stopDiscard {s : State} (h : GroupsInRange s) (g : Fin 8) : GroupsInRange (s.stopDiscard g) := by
  have hd := h.discardBatches g
  unfold State.stopDiscard
  dsimp only
  split
  · exact groupsInRange_setState hd g _ _
  · exact groupsInRange_stopNow hd g _

theorem groupsInRange_stopFlush {s : State} (h : GroupsInRange s) (g : Fin 8) : GroupsInRange (s.stopFlush g) := by
  have hs := groupsInRange_setState h g .stopping .flush
  unfold State.stopFlush
  dsimp only
  split
  · exact hs.sealOpen g _
  · split
    · exact (hs.setSealPending g true).queueOther g
    · exact hs.setSealPending g true

theorem configOk_groupRecord {f : GroupFields} (h : Wire.groupInRange f = true) : ConfigOk (groupRecord f) := by
  simp only [Wire.groupInRange, Bool.and_eq_true, decide_eq_true_eq] at h
  obtain ⟨⟨⟨⟨⟨-, h1⟩, h2⟩, h3⟩, -⟩, h4⟩ := h
  exact ⟨h1, h2, h4, h3⟩

theorem engineInRange_startGroup (g : Fin 8) : Takes EngineInRange (fun s => s.startGroup g) :=
  engineInRange_takes (batchesOk_startGroup g) (fun s d t h hok => by
    dsimp only [State.startGroup] at hok
    repeat' split at hok
    all_goals cases hok
    have hg := h.group g
    obtain ⟨h1, -, h3⟩ := hg.counters
    refine h.setGroup (GroupInRange.enterActive ?_)
    exact ⟨hg.config, ⟨h1, Nat.zero_le _, h3⟩, hg.opened, hg.other, hg.held, hg.retirement⟩)
    fun s d t hok => (startGroup_groupCommand g s d t hok).drain

theorem engineInRange_writeGroup (g : Fin 8) (f : GroupFields) : Takes EngineInRange (fun s => s.writeGroup g f) :=
  engineInRange_takes (batchesOk_writeGroup g f) (fun s d t h hok => by
    dsimp only [State.writeGroup, written] at hok
    split at hok
    · cases hok
    · rename_i hr
      split at hok <;> cases hok
      have hg := h.group g
      exact h.setGroup ⟨configOk_groupRecord (by simpa using hr), hg.counters, hg.opened, hg.other, hg.held, hg.retirement⟩)
    fun s d t hok => (writeGroup_groupCommand g f s d t hok).drain

theorem engineInRange_writeSafe (n : Fin 128) (f : SafeFields) : Takes EngineInRange (fun s => s.writeSafe n f) :=
  engineInRange_takes (batchesOk_writeSafe n f) (fun s d t h hok => by
    dsimp only [State.writeSafe, written] at hok
    repeat' split at hok
    all_goals cases hok
    exact h.congr rfl rfl)
    fun s d t hok => (writeSafe_groupCommand n f s d t hok).drain

theorem engineInRange_groupStopDiscard (g : Fin 8) : Takes EngineInRange (fun s => s.groupStopDiscard g) :=
  engineInRange_takes (batchesOk_groupStopDiscard g) (fun s d t h hok => by
    dsimp only [State.groupStopDiscard] at hok
    split at hok <;> cases hok
    · exact groupsInRange_stopDiscard h g
    · exact groupsInRange_stopDiscard h g
    · exact groupsInRange_stopNow h g _)
    fun s d t hok => (groupStopDiscard_groupCommand g s d t hok).drain

theorem engineInRange_groupStopFlush (g : Fin 8) : Takes EngineInRange (fun s => s.groupStopFlush g) :=
  engineInRange_takes (batchesOk_groupStopFlush g) (fun s d t h hok => by
    dsimp only [State.groupStopFlush] at hok
    split at hok <;> cases hok
    · exact groupsInRange_stopFlush h g
    · exact h
    · exact groupsInRange_stopNow h g _)
    fun s d t hok => (groupStopFlush_groupCommand g s d t hok).drain

theorem engineInRange_sealGroup (g : Fin 8) : Takes EngineInRange (fun s => s.sealGroup g) :=
  engineInRange_takes (batchesOk_sealGroup g) (fun s d t h hok => by
    dsimp only [State.sealGroup] at hok
    split at hok <;> cases hok
    exact h.sealRequest g _)
    fun s d t hok => (sealGroup_groupCommand g s d t hok).drain

theorem engineInRange_releaseGroup (g : Fin 8) : Takes EngineInRange (fun s => s.releaseGroup g) :=
  engineInRange_takes (batchesOk_releaseGroup g) (fun s d t h hok => by
    dsimp only [State.releaseGroup] at hok
    split at hok <;> cases hok
    exact h.releasePoint g)
    fun s d t hok => (releaseGroup_groupCommand g s d t hok).drain

theorem engineInRange_forceFault (g : Fin 8) : Takes EngineInRange (fun s => s.forceFault g) :=
  engineInRange_takes (batchesOk_forceFault g) (fun s d t h hok => by
    dsimp only [State.forceFault] at hok
    split at hok <;> cases hok <;> exact h.tripSource g _)
    fun s d t hok => (forceFault_groupCommand g s d t hok).drain

theorem engineInRange_clearFault (g : Fin 8) (force : Bool) : Takes EngineInRange (fun s => s.clearFault g force) :=
  engineInRange_takes (batchesOk_clearFault g force) (fun s d t h hok => by
    dsimp only [State.clearFault, State.clearFaulted] at hok
    repeat' split at hok
    all_goals cases hok
    exact h.clearGroup g _ _)
    fun s d t hok => (clearFault_groupCommand g force s d t hok).drain

theorem engineInRange_clearCounters {s : State} (h : EngineInRange s) (g : Fin 8) :
    EngineInRange (s.setGroup g (s.group g).clearCounters) := by
  have hg := h.groups.group g
  obtain ⟨h1, h2, -⟩ := hg.counters
  refine h.of_drain (batchesOk_kept.clearCounters s g h.batches) (h.groups.setGroup ?_) rfl
  exact ⟨hg.config, ⟨h1, h2, Nat.zero_le _, Nat.zero_le _, Nat.zero_le _, Nat.zero_le _, Nat.zero_le _⟩, hg.opened, hg.other, hg.held,
    hg.retirement⟩

theorem groupsInRange_pop {s t : State} {d : List Byte} (h : GroupsInRange s) (hok : s.pop = .ok (d, t)) : GroupsInRange t := by
  obtain ⟨h1, h2, h3⟩ := h.events
  dsimp only [State.pop] at hok
  split at hok <;> cases hok
  · exact h
  · rename_i r rest hr
    rw [hr] at h1 h3
    refine ⟨h.group, ?_, h2, fun x hx => h3 x (List.mem_cons_of_mem _ hx)⟩
    show rest.length ≤ 32
    rw [List.length_cons] at h1
    omega

/-! ### The resets -/

theorem groupInRange_atReset {s : State} (h : GroupsInRange s) (g : Fin 8) : GroupInRange (s.groupAtReset g) := by
  have hd := (h.group g).discard
  obtain ⟨h1, -, h3⟩ := hd.counters
  exact ⟨hd.config, ⟨h1, Nat.zero_le _, h3⟩, hd.opened, hd.other, hd.held, hd.retirement⟩

theorem groupInRange_softResetDone {gr : Group} (h : GroupInRange gr) : GroupInRange gr.softResetDone := by
  obtain ⟨-, h2, -⟩ := h.counters
  exact ⟨h.config, ⟨Nat.zero_le _, h2, Nat.zero_le _, Nat.zero_le _, Nat.zero_le _, Nat.zero_le _, Nat.zero_le _⟩, h.opened, h.other, h.held,
    h.retirement⟩

theorem engineInRange_tryComplete {s : State} (h : EngineInRange s) : EngineInRange s.tryComplete := by
  have hbat := batchesOk_tryComplete h.batches
  unfold State.tryComplete at hbat ⊢
  split
  · rename_i hc
    rw [if_pos hc] at hbat
    rw [completeReset_eq] at hbat ⊢
    refine h.of_drain hbat ⟨fun g => ?_, ?_, Nat.zero_le _, fun r hr => ?_⟩ rfl
    · have : State.group { s with groups := s.groups.map Group.softResetDone } g = (s.group g).softResetDone := by simp [State.group]
      exact this ▸ groupInRange_softResetDone (h.groups.group g)
    · show [_].length ≤ 32
      simp
    · obtain rfl := List.mem_singleton.1 hr
      exact h.groups.events.2.1
  · exact h

theorem engineInRange_softReset {s : State} (h : EngineInRange s) : EngineInRange (softResetBody s) := by
  set v := (s.makePending .softReset).setLink { (s.makePending .softReset).link with reports := BlockReports.reset } with hv
  have hbat : BatchesOk v.softResetBlocks := batchesOk_softResetBlocks h.batches rfl rfl rfl rfl rfl
  obtain ⟨gs, n, hb, hgs, -⟩ := softResetBlocks_spec v
  have hgr : GroupsInRange v := h.groups.congr rfl rfl
  have hblocks : GroupsInRange v.softResetBlocks := by
    rw [hb]
    refine foldl_keeps (P := GroupsInRange) (f := State.softResetWatch) (fun _ w h => groupsInRange_watchClosed.softResetWatch w h) _ _ ?_
    refine ⟨fun g => ?_, hgr.events⟩
    have : State.group { v.softResetSlots with
      groups := gs, freeSlots := n, releaseQueue := [], baseA := v.baseA.softReset, baseB := v.baseB.softReset } g = v.groupAtReset g := hgs g
    rw [this]
    exact groupInRange_atReset hgr g
  have hdrain : DrainRangesOk v.softResetBlocks := drainRanges_of_drain h.drain (softResetBlocks_upstream v).2.2.1
  show EngineInRange (v.softResetBlocks.reportClearance.reportBlocks.tryComplete)
  exact engineInRange_tryComplete (engineInRange_reportBlocks ⟨batchesOk_reportClearance hbat, groupsInRange_reportClearance hblocks,
    drainRanges_reportClearance hdrain⟩)

theorem groupInRange_reset : GroupInRange Group.reset :=
  ⟨by decide, by decide, fun b hb => (by cases hb), fun b hb => (by cases hb), by decide, by decide⟩

theorem engineInRange_powerOn (s : State) : EngineInRange s.powerOn := by
  refine ⟨batchesOk_powerOn s, ⟨fun g => ?_, Nat.zero_le _, Nat.zero_le _, fun r hr => by cases hr⟩, Nat.le_refl _, Nat.zero_le _,
    Nat.zero_le _, fun h => by cases h⟩
  have : s.powerOn.group g = Group.reset := by simp [State.group, State.powerOn, State.reset]
  rw [this]
  exact groupInRange_reset

/-! ### Every command -/

theorem engineInRange_kept : Kept EngineInRange where
  pending s q h := h.of_drain (batchesOk_kept.pending s q h.batches) (h.groups.congr rfl rfl) rfl
  newCycle := engineInRange_schedulerClosed.newCycle
  setLink s l hl hr h := h.of_drain (batchesOk_kept.setLink s l hl hr h.batches) (h.groups.congr rfl rfl) rfl
  upstreamRequest s i g k a h := h.of_drain (batchesOk_upstreamRequest i g k a h.batches) (h.groups.upstreamRequest h.batches.1 i g k a)
    (upstreamRequest_requestsOnly s i g k a).drain
  issueResponse s i g _ h := by
    unfold State.issueResponse
    dsimp only
    split
    · split
      · exact h
      · exact engineInRange_reportBlocks (h.of_drain (batchesOk_setUpstream _ h.batches) (h.groups.congr rfl rfl) rfl)
    · exact h
  arbitrate s h := engineInRange_arbitrate h
  performed s e r _ h := engineInRange_performed h e r
  decideItem s h := engineInRange_decideItem h
  endItem s _ h := engineInRange_endItem h
  tickBase _ b h := engineInRange_schedulerClosed.tickBase b h
  mark _ b h := engineInRange_schedulerClosed.mark b h
  settleMarkAt _ w h := engineInRange_watchClosed.settleMarkAt w h
  sampleReleaseLine _ n high c h := engineInRange_schedulerClosed.sampleReleaseLine n high c h
  sampleFaultLine _ n high c h := engineInRange_schedulerClosed.sampleFaultLine n high c h
  cycle _ h := engineInRange_schedulerClosed.cycle h
  writeWindow n f s d t hp h hok := by
    have hb := batchesOk_kept.writeWindow n f s d t hp h.batches hok
    obtain ⟨rfl, -⟩ := writeWindow_ok hok
    exact h.of_drain hb (h.groups.congr rfl rfl) rfl
  writeGroup := engineInRange_writeGroup
  writeSafe := engineInRange_writeSafe
  writeWatch w f s d t hp h hok := by
    have hb := batchesOk_kept.writeWatch w f s d t hp h.batches hok
    dsimp only [State.writeWatch, written] at hok
    repeat' split at hok
    all_goals cases hok
    exact h.of_drain hb (h.groups.congr rfl rfl) rfl
  writeTimebase i b f _ _ := engineInRange_schedulerClosed.writeTimebase i b f
  writeLines f := engineInRange_schedulerClosed.writeLines f
  writeMemport b s d t hp h hok := by
    have hb := batchesOk_kept.writeMemport b s d t hp h.batches hok
    dsimp only [State.writeMemport, written] at hok
    split at hok <;> cases hok
    exact h.of_drain hb (h.groups.congr rfl rfl) rfl
  startGroup := engineInRange_startGroup
  groupStopDiscard := engineInRange_groupStopDiscard
  groupStopFlush := engineInRange_groupStopFlush
  sealGroup := engineInRange_sealGroup
  releaseGroup := engineInRange_releaseGroup
  clearCounters s g h := engineInRange_clearCounters h g
  forceFault := engineInRange_forceFault
  clearFault := engineInRange_clearFault
  arm w s d t _ h hok := by
    dsimp only [State.arm] at hok
    split at hok <;> cases hok
    exact engineInRange_watchClosed.armWatch w h
  disarm w s d t _ h hok := by
    dsimp only [State.disarm] at hok
    split at hok <;> cases hok
    exact engineInRange_watchClosed.disarmWatch w h
  newReference r m w s d t _ h hok := by
    cases hok
    exact engineInRange_watchClosed.setReference w r m h
  startBase b := engineInRange_schedulerClosed.controlBases b _ _
  stopBase b := engineInRange_schedulerClosed.controlBases b _ _
  zeroBase b := engineInRange_schedulerClosed.controlBases b _ _
  pop s d t hp h hok := h.of_drain (batchesOk_kept.pop s d t hp h.batches hok) (groupsInRange_pop h.groups hok)
    (pop_groupCommand s d t hok).drain
  startPeek a s t hp h hok := by
    have hb := batchesOk_kept.startPeek a s t hp h.batches hok
    unfold State.startPeek at hok
    split at hok <;> cases hok
    exact h.of_drain hb (h.groups.congr rfl rfl) rfl
  startPoke a d m s t hp h hok := by
    have hb := batchesOk_kept.startPoke a d m s t hp h.batches hok
    unfold State.startPoke at hok
    split at hok
    · cases hok
    · split at hok <;> cases hok
      exact h.of_drain hb (h.groups.congr rfl rfl) rfl
  softReset s _ h := engineInRange_softReset h
  tryComplete s _ h := engineInRange_tryComplete h
  powerOn s _ _ := engineInRange_powerOn s
  powerOnEnd s r f h := by
    have hb := batchesOk_kept.powerOnEnd s r f h.batches
    unfold State.powerOnEnd at hb ⊢
    split
    · rename_i hi
      rw [if_pos hi] at hb
      exact h.of_drain hb (h.groups.congr rfl rfl) rfl
    · exact h

end Sys2Proof.Machine

/-! PROOFS. Chapter 04: the time bases and the lines stay in range (R66, R67, R72, R107), and the rest of RangesKept (R23, R102, R130). -/

namespace Sys2Proof.Machine

open Sys2Proof.Safety

/-! ### What leaves the bases and the lines alone -/

/-- Both bases and all lines are as before. -/
structure SameClocks (s t : State) : Prop where
  baseA : t.baseA = s.baseA
  baseB : t.baseB = s.baseB
  releaseLines : t.releaseLines = s.releaseLines
  faultLines : t.faultLines = s.faultLines

theorem SameClocks.trans {s t u : State} (h : SameClocks s t) (k : SameClocks t u) : SameClocks s u :=
  ⟨k.baseA.trans h.baseA, k.baseB.trans h.baseB, k.releaseLines.trans h.releaseLines, k.faultLines.trans h.faultLines⟩

theorem SameClocks.refl (s : State) : SameClocks s s := ⟨rfl, rfl, rfl, rfl⟩

theorem WatchesOnly.sameClocks {s t : State} (h : WatchesOnly s t) : SameClocks s t := by
  obtain ⟨_, _, _, _, _, _, rfl⟩ := h
  exact ⟨rfl, rfl, rfl, rfl⟩

theorem GroupsOnly.sameClocks {s t : State} (h : GroupsOnly s t) : SameClocks s t := h.watchesOnly.sameClocks

theorem RequestsOnly.sameClocks {s t : State} (h : RequestsOnly s t) : SameClocks s t := by
  obtain ⟨_, _, _, _, _, rfl⟩ := h
  exact ⟨rfl, rfl, rfl, rfl⟩

theorem EngineOnly.sameClocks {s t : State} (h : EngineOnly s t) : SameClocks s t := by
  obtain ⟨_, _, _, _, _, _, _, -, -, rfl⟩ := h
  exact ⟨rfl, rfl, rfl, rfl⟩

theorem reportBlocks_sameClocks (s : State) : SameClocks s s.reportBlocks := by
  obtain ⟨_, _, _, h⟩ := reportBlocks_spec s
  rw [h]
  exact ⟨rfl, rfl, rfl, rfl⟩

theorem reportClearance_sameClocks (s : State) : SameClocks s s.reportClearance := by
  obtain ⟨_, h, -⟩ := reportClearance_spec s
  rw [h]
  exact ⟨rfl, rfl, rfl, rfl⟩

theorem toRequester_sameClocks (s : State) (r : Requester) (e : Bool) (word : Word) : SameClocks s (s.toRequester r e word) := by
  cases r with
  | pass i => exact (passPerformed_requestsOnly s i e word).sameClocks
  | drain => exact (drainPerformed_engineOnly s e).sameClocks
  | probe w => exact (probeResult_watchesOnly s w e word).sameClocks
  | peek =>
    show SameClocks s (s.peekPerformed e word)
    unfold State.peekPerformed
    split <;> exact ⟨rfl, rfl, rfl, rfl⟩
  | poke =>
    show SameClocks s (s.pokePerformed e)
    unfold State.pokePerformed
    split <;> exact ⟨rfl, rfl, rfl, rfl⟩

theorem performed_sameClocks (s : State) (e : Bool) (rd : Word) : SameClocks s (s.performed e rd) := by
  unfold State.performed
  split
  · exact .refl s
  · rename_i x _
    unfold State.perform
    dsimp only
    have h0 : SameClocks s ((s.setPort { s.port with current := none }).setMem (memoryAfter s.mem x e rd)) := ⟨rfl, rfl, rfl, rfl⟩
    exact (((h0.trans (reportLanded_watchesOnly _ x e).sameClocks).trans (toRequester_sameClocks _ _ _ _)).trans
      (reportClearance_sameClocks _)).trans (reportBlocks_sameClocks _)

theorem decideItem_sameClocks (s : State) : SameClocks s s.decideItem := by
  unfold State.decideItem
  split
  · exact .refl s
  · split
    · rename_i it _
      obtain ⟨u, hu⟩ := holdAtStart_eq (s.makeCurrent it) it.group
      have h := (takeItem_engineOnly s it).sameClocks
      rw [hu] at h
      exact ⟨h.baseA, h.baseB, h.releaseLines, h.faultLines⟩
    · exact .refl s

theorem endItem_sameClocks (s : State) : SameClocks s s.endItem := by
  unfold State.endItem
  split
  · exact .refl s
  · rename_i it _
    split
    · rw [reportEnd_eq]
      have h0 : SameClocks (s.returnHeld it.group) (s.itemEnded it.group) := ⟨rfl, rfl, rfl, rfl⟩
      exact (((returnHeld_requestsOnly s it.group).sameClocks.trans h0).trans (reportClearance_sameClocks _)).trans (reportBlocks_sameClocks _)
    · exact .refl s

theorem issueResponse_sameClocks (s : State) (i t : BitVec 2) : SameClocks s (s.issueResponse i t) := by
  unfold State.issueResponse
  dsimp only
  split
  · split
    · exact .refl s
    · exact SameClocks.trans (by exact ⟨rfl, rfl, rfl, rfl⟩) (reportBlocks_sameClocks _)
  · exact .refl s

/-! ### The bases (R66 to R71) -/

/-- A base's record between a cycle of its interval and the tick that may be due. -/
structure BaseWeak (t : TimeBase) : Prop where
  divider : 1 ≤ t.divider ∧ t.divider ≤ 256
  period : 16 ≤ t.period ∧ t.period ≤ 65535
  count : t.count < t.period
  interval : t.interval ≤ t.divider
  pending : ∀ p ∈ t.pendingPeriod, 16 ≤ p ∧ p ≤ 65535

theorem BaseWeak.ok {t : TimeBase} (h : BaseWeak t) (hi : t.interval < t.divider) : BaseOk t :=
  ⟨h.divider.1, h.divider.2, h.period.1, h.period.2, h.count, hi, h.pending⟩

theorem baseWeak_of_ok {t : TimeBase} (h : BaseOk t) : BaseWeak t := by
  obtain ⟨h1, h2, h3, h4, h5, h6, h7⟩ := h
  exact ⟨⟨h1, h2⟩, ⟨h3, h4⟩, h5, h6.le, h7⟩

theorem BaseWeak.newPeriod {t : TimeBase} (h : BaseWeak t) :
    16 ≤ t.pendingPeriod.getD t.period ∧ t.pendingPeriod.getD t.period ≤ 65535 := by
  cases hp : t.pendingPeriod with
  | none => exact h.period
  | some p => exact h.pending p hp

theorem BaseWeak.marked {t : TimeBase} (h : BaseWeak t) : BaseOk t.marked := by
  obtain ⟨h1, h2⟩ := h.newPeriod
  exact ⟨h.divider.1, h.divider.2, h1, h2, by show 0 < t.pendingPeriod.getD t.period; omega, h.divider.1, fun p hp => by cases hp⟩

theorem BaseWeak.ticked {t : TimeBase} (h : BaseWeak t) (hc : t.count + 1 < t.period) :
    BaseOk { t with count := t.count + 1, interval := 0 } :=
  ⟨h.divider.1, h.divider.2, h.period.1, h.period.2, hc, h.divider.1, h.pending⟩

theorem BaseWeak.restarted {t : TimeBase} (h : BaseWeak t) : BaseOk { t with interval := 0 } :=
  ⟨h.divider.1, h.divider.2, h.period.1, h.period.2, h.count, h.divider.1, h.pending⟩

theorem BaseWeak.softReset {t : TimeBase} (h : BaseWeak t) : BaseOk t.softReset := by
  obtain ⟨h1, h2⟩ := h.newPeriod
  exact ⟨h.divider.1, h.divider.2, h1, h2, by show 0 < t.pendingPeriod.getD t.period; omega, h.divider.1, fun p hp => by cases hp⟩

/-- R69: a taken write. -/
theorem BaseWeak.written {t : TimeBase} (h : BaseWeak t) {index : Byte} {f : TimebaseFields} (hr : Wire.timebaseInRange index f = true) :
    BaseOk (t.written f) := by
  simp only [Wire.timebaseInRange, Bool.and_eq_true, decide_eq_true_eq] at hr
  obtain ⟨⟨hd1, hd2⟩, -⟩ := hr
  have hp : 16 ≤ writtenPeriod f ∧ writtenPeriod f ≤ 65535 := by
    have := f.period.isLt
    simp only [writtenPeriod, Config.periodMin]
    omega
  unfold TimeBase.written
  dsimp only
  split
  · exact ⟨hd1, hd2, h.period.1, h.period.2, h.count, hd1, fun p hm => by
      obtain rfl := Option.some.inj hm
      exact hp⟩
  · refine ⟨hd1, hd2, hp.1, hp.2, ?_, hd1, fun p hm => by cases hm⟩
    dsimp only
    split
    · assumption
    · omega

/-- R66: both bases in range before a tick that may be due. -/
structure BasesWeak (s : State) : Prop where
  base : ∀ b, BaseWeak (s.base b)
  lock : s.baseA.bLock = false

theorem basesWeak_of_ok {s : State} (h : BasesOk s) : BasesWeak s :=
  ⟨fun b => by cases b; exacts [baseWeak_of_ok h.1, baseWeak_of_ok h.2.1], h.2.2⟩

theorem BasesWeak.ok {s : State} (h : BasesWeak s) (hi : ∀ b, (s.base b).interval < (s.base b).divider) : BasesOk s :=
  ⟨(h.base .timeA).ok (hi .timeA), (h.base .timeB).ok (hi .timeB), h.lock⟩

theorem SameClocks.base {s t : State} (h : SameClocks s t) (b : Base) : t.base b = s.base b := by
  cases b
  · exact h.baseA
  · exact h.baseB

theorem SameClocks.basesOk {s t : State} (h : SameClocks s t) (hs : BasesOk s) : BasesOk t := by
  unfold BasesOk
  rw [h.baseA, h.baseB]
  exact hs

/-- One base's record is replaced by one in range. -/
theorem BasesWeak.setBase {s : State} (h : BasesWeak s) {b : Base} {x : TimeBase} (hx : BaseWeak x) (hl : x.bLock = (s.base b).bLock ∨ b = .timeB) :
    BasesWeak (s.setBase b x) := by
  refine ⟨fun c => ?_, ?_⟩
  · rw [setBase_base]
    split
    · exact hx
    · exact h.base c
  · cases b with
    | timeA =>
      rcases hl with hl | hl
      · exact hl.trans h.lock
      · cases hl
    | timeB => exact h.lock

/-- What a tick of a base, or its period mark, leaves of both bases: in range, the base itself with its interval begun, another one as it
was or with its interval begun. -/
structure Ticked (b : Base) (s t : State) : Prop where
  weak : BasesWeak t
  own : (t.base b).interval < (t.base b).divider
  other : ∀ c, t.base c = s.base c ∨ (t.base c).interval < (t.base c).divider
  releaseLines : t.releaseLines = s.releaseLines
  faultLines : t.faultLines = s.faultLines

theorem ticked_setBase {s t : State} (h : BasesWeak s) {b : Base} {x : TimeBase} (hx : BaseOk x) (hl : x.bLock = (s.base b).bLock)
    (ht : SameClocks (s.setBase b x) t) : Ticked b s t := by
  have hw := h.setBase (baseWeak_of_ok hx) (.inl hl)
  have hb (c : Base) : t.base c = if b = c then x else s.base c := by rw [ht.base, setBase_base]
  refine ⟨⟨fun c => ?_, ?_⟩, ?_, fun c => ?_, ?_, ?_⟩
  · rw [ht.base]
    exact hw.base c
  · rw [ht.baseA]
    exact hw.lock
  · rw [hb, if_pos rfl]
    exact hx.2.2.2.2.2.1
  · rw [hb]
    split
    · exact .inr hx.2.2.2.2.2.1
    · exact .inl rfl
  · rw [ht.releaseLines]
    cases b <;> rfl
  · rw [ht.faultLines]
    cases b <;> rfl

theorem ticked_ownMark {s : State} (h : BasesWeak s) (b : Base) : Ticked b s (s.ownMark b) :=
  ticked_setBase h (h.base b).marked rfl (ownMark_watchesOnly s b).sameClocks

/-- R70: B's interval begins again. -/
theorem ticked_restart {s : State} (h : BasesWeak s) : Ticked .timeB s (s.setBase .timeB { s.baseB with interval := 0 }) := by
  have hB : BaseOk { s.baseB with interval := 0 } := (h.base .timeB).restarted
  exact ticked_setBase (x := { s.baseB with interval := 0 }) h hB (by rfl) (SameClocks.refl _)

theorem Ticked.trans {b c : Base} {s t u : State} (h : Ticked b s t) (k : Ticked c t u) : Ticked b s u := by
  refine ⟨k.weak, ?_, fun d => ?_, k.releaseLines.trans h.releaseLines, k.faultLines.trans h.faultLines⟩
  · rcases k.other b with e | e
    · rw [e]
      exact h.own
    · exact e
  · rcases k.other d with e | e
    · rw [e]
      exact h.other d
    · exact .inr e

theorem ticked_mark {s : State} (h : BasesWeak s) (b : Base) : Ticked b s (s.mark b) := by
  cases b with
  | timeB => exact ticked_ownMark h .timeB
  | timeA =>
    show Ticked .timeA s (s.ownMark .timeA).restartB
    have ho := ticked_ownMark h .timeA
    obtain ⟨-, e⟩ | ⟨-, -, -, e⟩ | ⟨-, -, -, e⟩ := restartB_cases (s.ownMark .timeA) <;> rw [e]
    · exact ho
    · exact ho.trans (ticked_restart ho.weak)
    · exact ho.trans (ticked_ownMark ho.weak .timeB)

theorem ticked_tickBase {s : State} (h : BasesWeak s) (b : Base) : Ticked b s (s.tickBase b) := by
  obtain ⟨hc, e⟩ | ⟨-, e⟩ := tickBase_cases s b <;> rw [e]
  · exact ticked_setBase h ((h.base b).ticked hc) rfl (phaseMatches_groupsOnly _ b).sameClocks
  · exact ticked_mark h b

theorem Ticked.basesOk {b : Base} {s t : State} (h : Ticked b s t) (hs : BasesOk s) : BasesOk t := by
  refine h.weak.ok fun c => ?_
  rcases h.other c with e | e
  · rw [e]
    cases c
    · exact hs.1.2.2.2.2.2.1
    · exact hs.2.1.2.2.2.2.2.1
  · exact e

/-- R67: the tick that is due. -/
theorem tickIfDue_bases {s : State} (h : BasesWeak s) (b : Base) (hi : (s.base b).running = false → (s.base b).interval < (s.base b).divider) :
    Ticked b s (s.tickIfDue b) := by
  unfold State.tickIfDue
  split
  · exact ticked_tickBase h b
  · rename_i hd
    refine ⟨h, ?_, fun c => .inl rfl, rfl, rfl⟩
    cases hr : (s.base b).running with
    | false => exact hi hr
    | true =>
      simp only [TimeBase.tickDue, hr, Bool.true_and, decide_eq_true_eq] at hd
      omega

/-- R67: a cycle of both intervals, and the ticks that are due. -/
theorem ticks_bases {s : State} (hs : BasesOk s) :
    BasesOk ((((s.setBase .timeA s.baseA.cycle).setBase .timeB s.baseB.cycle).tickIfDue .timeA).tickIfDue .timeB) ∧
      (((((s.setBase .timeA s.baseA.cycle).setBase .timeB s.baseB.cycle).tickIfDue .timeA).tickIfDue .timeB)).releaseLines = s.releaseLines ∧
      (((((s.setBase .timeA s.baseA.cycle).setBase .timeB s.baseB.cycle).tickIfDue .timeA).tickIfDue .timeB)).faultLines = s.faultLines := by
  have hcycle {t : TimeBase} (h : BaseOk t) : BaseWeak t.cycle ∧ (t.cycle.running = false → t.cycle.interval < t.cycle.divider) := by
    have hw := baseWeak_of_ok h
    have hi := h.2.2.2.2.2.1
    unfold TimeBase.cycle
    split
    · rename_i hr
      exact ⟨⟨hw.divider, hw.period, hw.count, hi, hw.pending⟩, fun e => by simp [hr] at e⟩
    · exact ⟨hw, fun _ => hi⟩
  have hlock (t : TimeBase) : t.cycle.bLock = t.bLock := by
    unfold TimeBase.cycle
    split <;> rfl
  obtain ⟨hA, hAi⟩ := hcycle hs.1
  obtain ⟨hB, hBi⟩ := hcycle hs.2.1
  set u := (s.setBase .timeA s.baseA.cycle).setBase .timeB s.baseB.cycle with hu
  have hw : BasesWeak u := ((basesWeak_of_ok hs).setBase hA (.inl (hlock _))).setBase hB (.inr rfl)
  have h1 := tickIfDue_bases hw .timeA hAi
  have h2 := tickIfDue_bases h1.weak .timeB fun hr => by
    rcases h1.other .timeB with e | e
    · rw [e] at hr ⊢
      exact hBi hr
    · exact e
  have h12 := h1.trans h2
  refine ⟨h2.weak.ok fun c => ?_, h12.releaseLines, h12.faultLines⟩
  cases c
  · exact h12.own
  · exact h2.own

/-! ### The lines (R72, R107) -/

theorem SameClocks.linesOk {s t : State} (h : SameClocks s t) (hs : LinesOk s) : LinesOk t := by
  unfold LinesOk
  rw [h.releaseLines, h.faultLines]
  exact hs

theorem linesOk_of_lines {s t : State} (hs : LinesOk s) (hr : t.releaseLines = s.releaseLines) (hf : t.faultLines = s.faultLines) : LinesOk t := by
  unfold LinesOk
  rw [hr, hf]
  exact hs

theorem linesOk_setReleaseLine {s : State} (h : LinesOk s) (n : Fin 4) {l : ReleaseLine} (hl : l.count = 0 ∨ l.count < l.qual) :
    LinesOk (s.setReleaseLine n l) := by
  refine ⟨fun k => ?_, h.2⟩
  show (s.releaseLines.set n l)[k].count = 0 ∨ (s.releaseLines.set n l)[k].count < (s.releaseLines.set n l)[k].qual
  by_cases e : n = k
  · subst e
    simpa using hl
  · have : (s.releaseLines.set n l)[k] = s.releaseLines[k] := by
      simp only [Fin.getElem_fin]
      exact Vector.getElem_set_ne _ _ (fun e' => e (Fin.ext e'))
    rw [this]
    exact h.1 k

theorem linesOk_setFaultLine {s : State} (h : LinesOk s) (n : Fin 2) {l : FaultLine} (hl : l.count = 0 ∨ l.count < l.qual) :
    LinesOk (s.setFaultLine n l) := by
  refine ⟨h.1, fun k => ?_⟩
  show (s.faultLines.set n l)[k].count = 0 ∨ (s.faultLines.set n l)[k].count < (s.faultLines.set n l)[k].qual
  by_cases e : n = k
  · subst e
    simpa using hl
  · have : (s.faultLines.set n l)[k] = s.faultLines[k] := by
      simp only [Fin.getElem_fin]
      exact Vector.getElem_set_ne _ _ (fun e' => e (Fin.ext e'))
    rw [this]
    exact h.2 k

/-- Bases and lines in range. -/
structure ClocksOk (s : State) : Prop where
  bases : BasesOk s
  lines : LinesOk s

theorem SameClocks.clocksOk {s t : State} (h : SameClocks s t) (hs : ClocksOk s) : ClocksOk t := ⟨h.basesOk hs.bases, h.linesOk hs.lines⟩

theorem clocksOk_setReleaseLine {s : State} (h : ClocksOk s) (n : Fin 4) {l : ReleaseLine} (hl : l.count = 0 ∨ l.count < l.qual) :
    ClocksOk (s.setReleaseLine n l) := ⟨h.bases, linesOk_setReleaseLine h.lines n hl⟩

theorem clocksOk_setFaultLine {s : State} (h : ClocksOk s) (n : Fin 2) {l : FaultLine} (hl : l.count = 0 ∨ l.count < l.qual) :
    ClocksOk (s.setFaultLine n l) := ⟨h.bases, linesOk_setFaultLine h.lines n hl⟩

theorem qualify_lt {q c n k : Nat} (h : qualify q c n = some k) : k < q := by
  obtain ⟨-, e⟩ | ⟨hlt, e⟩ := qualify_eq q c n
  · rw [e] at h
    cases h
  · rw [e] at h
    obtain rfl := Option.some.inj h
    exact hlt

theorem clocksOk_sampleReleaseLine {s : State} (h : ClocksOk s) (n : Fin 4) (high : Bool) (cycles : Nat) :
    ClocksOk (s.sampleReleaseLine n high cycles) := by
  unfold State.sampleReleaseLine
  dsimp only
  split
  · exact clocksOk_setReleaseLine h n (h.lines.1 n)
  · split
    · exact clocksOk_setReleaseLine h n (.inl rfl)
    · split
      · rename_i k hk
        exact clocksOk_setReleaseLine h n (.inr (qualify_lt hk))
      · split
        · exact (lineCandidates_groupsOnly _ n).sameClocks.clocksOk (clocksOk_setReleaseLine h n (.inl rfl))
        · exact clocksOk_setReleaseLine h n (.inl rfl)

theorem clocksOk_changeFaultLine {s : State} (h : ClocksOk s) (n : Fin 2) {l : FaultLine} (hl : l.count = 0) : ClocksOk (s.changeFaultLine n l) :=
  (changeFaultLine_groupsOnly s n l).sameClocks.clocksOk (clocksOk_setFaultLine h n (.inl hl))

theorem clocksOk_sampleFaultLine {s : State} (h : ClocksOk s) (n : Fin 2) (high : Bool) (cycles : Nat) :
    ClocksOk (s.sampleFaultLine n high cycles) := by
  unfold State.sampleFaultLine
  dsimp only
  split
  · exact clocksOk_setFaultLine h n (h.lines.2 n)
  · split
    · exact clocksOk_setFaultLine h n (.inl rfl)
    · split
      · rename_i k hk
        exact clocksOk_setFaultLine h n (.inr (qualify_lt hk))
      · exact clocksOk_changeFaultLine h n rfl

theorem clocksOk_cycle {s : State} (h : ClocksOk s) : ClocksOk s.cycle := by
  unfold State.cycle
  dsimp only
  split
  · exact ⟨h.bases, h.lines⟩
  · have hn : BasesOk s.newCycle := h.bases
    obtain ⟨hb, hr, hf⟩ := ticks_bases hn
    refine foldl_keeps (P := ClocksOk) (f := State.cycleFaultLine) (fun s n hs => clocksOk_sampleFaultLine hs n _ _) _ _
      (foldl_keeps (P := ClocksOk) (f := State.cycleReleaseLine) (fun s n hs => clocksOk_sampleReleaseLine hs n _ _) _ _ ⟨hb, ?_⟩)
    exact linesOk_of_lines (s := s.newCycle) h.lines hr hf

theorem clocksOk_tickBase {s : State} (h : ClocksOk s) (b : Base) : ClocksOk (s.tickBase b) := by
  have ht := ticked_tickBase (basesWeak_of_ok h.bases) b
  exact ⟨ht.basesOk h.bases, linesOk_of_lines h.lines ht.releaseLines ht.faultLines⟩

theorem clocksOk_mark {s : State} (h : ClocksOk s) (b : Base) : ClocksOk (s.mark b) := by
  have ht := ticked_mark (basesWeak_of_ok h.bases) b
  exact ⟨ht.basesOk h.bases, linesOk_of_lines h.lines ht.releaseLines ht.faultLines⟩

end Sys2Proof.Machine

/-! PROOFS. RangesKept: bases, lines, the arbiter's values and the watches' settle fields stay in range with every command; and every
invariant holds at the reset state. -/

namespace Sys2Proof.Machine

open Sys2Proof.Safety

/-! ### Bases and lines -/

theorem clocksOk_setBase {s : State} (h : ClocksOk s) {b : Base} {x : TimeBase} (hx : BaseOk x) (hl : b = .timeA → x.bLock = false) :
    ClocksOk (s.setBase b x) := by
  cases b with
  | timeA => exact ⟨⟨hx, h.bases.2.1, hl rfl⟩, h.lines⟩
  | timeB => exact ⟨⟨h.bases.1, hx, h.bases.2.2⟩, h.lines⟩

theorem ClocksOk.base {s : State} (h : ClocksOk s) (b : Base) : BaseOk (s.base b) ∧ (b = .timeA → (s.base b).bLock = false) := by
  cases b with
  | timeA => exact ⟨h.bases.1, fun _ => h.bases.2.2⟩
  | timeB => exact ⟨h.bases.2.1, fun e => by cases e⟩

theorem clocksOk_controlBases (b : Byte) (r : TimeBase → Bool) (f : TimeBase → TimeBase) (hf : ∀ t, BaseOk t → BaseOk (f t))
    (hl : ∀ t, (f t).bLock = t.bLock) : Takes ClocksOk (fun s => s.controlBases b r f) := by
  intro s d t _ hs hok
  dsimp only [State.controlBases] at hok
  split at hok
  · cases hok
  · split at hok <;> cases hok
    exact foldl_keeps (P := ClocksOk) (f := fun s b => s.setBase b (f (s.base b)))
      (fun s b hs => clocksOk_setBase hs (hf _ (hs.base b).1) fun e => by rw [hl]; exact (hs.base b).2 e) _ _ hs

theorem clocksOk_writeTimebase (i : Byte) (b : Base) (f : TimebaseFields) (hA : i.toNat = 0 → b = .timeA) (hB : i.toNat ≠ 0 → b = .timeB) :
    Takes ClocksOk (fun s => s.writeTimebase i b f) := by
  intro s d t _ hs hok
  dsimp only [State.writeTimebase, written] at hok
  split at hok
  · cases hok
  · rename_i hr
    have hr : Wire.timebaseInRange i f = true := by simpa using hr
    split at hok <;> cases hok
    refine clocksOk_setBase hs ((baseWeak_of_ok (hs.base b).1).written hr) fun e => ?_
    have hi : i = 0#8 := by
      by_contra hne
      have := hB fun e0 => hne (BitVec.eq_of_toNat_eq e0)
      rw [e] at this
      cases this
    simp only [Wire.timebaseInRange, hi, beq_self_eq_true, Bool.and_true, Bool.and_eq_true, Bool.not_eq_true'] at hr
    unfold TimeBase.written
    dsimp only
    split <;> exact hr.2

theorem clocksOk_writeLines (f : LinesFields) : Takes ClocksOk (fun s => s.writeLines f) := by
  intro s d t _ hs hok
  dsimp only [State.writeLines, written] at hok
  split at hok <;> cases hok
  refine clocksOk_changeFaultLine (clocksOk_changeFaultLine ?_ _ rfl) _ rfl
  exact clocksOk_setReleaseLine (clocksOk_setReleaseLine (clocksOk_setReleaseLine (clocksOk_setReleaseLine hs _ (.inl rfl)) _ (.inl rfl)) _
    (.inl rfl)) _ (.inl rfl)

theorem clocksOk_softReset {s : State} (h : ClocksOk s) : ClocksOk (softResetBody s) := by
  obtain ⟨u, hu, he⟩ := softResetBody_spec s
  obtain ⟨gs, e, l, ht, -⟩ := tryComplete_frame (reported u)
  rw [he, ht, hu.reported_eq]
  have hA := (baseWeak_of_ok h.bases.1).softReset
  have hB := (baseWeak_of_ok h.bases.2.1).softReset
  refine ⟨⟨?_, ?_, ?_⟩, linesOk_of_lines h.lines hu.releaseLines hu.faultLines⟩
  · show BaseOk u.baseA
    rw [hu.baseA]
    exact hA
  · show BaseOk u.baseB
    rw [hu.baseB]
    exact hB
  · show u.baseA.bLock = false
    rw [hu.baseA]
    exact h.bases.2.2

theorem clocksOk_powerOn (s : State) : ClocksOk s.powerOn := by
  have hb : BaseOk TimeBase.reset := ⟨by decide, by decide, by decide, by decide, by decide, by decide, fun p hp => by cases hp⟩
  refine ⟨⟨hb, hb, rfl⟩, fun n => .inl ?_, fun n => .inl ?_⟩
  · simp [State.powerOn, ReleaseLine.atReset, ReleaseLine.reset]
  · simp [State.powerOn, FaultLine.atReset, FaultLine.reset]

/-- A command that leaves bases and lines alone. -/
theorem clocksOk_takes {f : State → CommandResult} (hf : ∀ s d t, f s = .ok (d, t) → SameClocks s t) : Takes ClocksOk f :=
  fun s d t _ hs hok => (hf s d t hok).clocksOk hs

theorem clocksOk_kept : Kept ClocksOk where
  pending s q h := SameClocks.clocksOk (s := s) (by exact ⟨rfl, rfl, rfl, rfl⟩) h
  newCycle s h := SameClocks.clocksOk (s := s) (by exact ⟨rfl, rfl, rfl, rfl⟩) h
  setLink s l _ _ h := SameClocks.clocksOk (s := s) (by exact ⟨rfl, rfl, rfl, rfl⟩) h
  upstreamRequest s i g k a h := (upstreamRequest_requestsOnly s i g k a).sameClocks.clocksOk h
  issueResponse s i g _ h := (issueResponse_sameClocks s i g).clocksOk h
  arbitrate s h := by
    obtain ⟨u, p, ws, he⟩ := arbitrate_eq s
    rw [he]
    exact SameClocks.clocksOk (s := s) (by exact ⟨rfl, rfl, rfl, rfl⟩) h
  performed s e r _ h := (performed_sameClocks s e r).clocksOk h
  decideItem s h := (decideItem_sameClocks s).clocksOk h
  endItem s _ h := (endItem_sameClocks s).clocksOk h
  tickBase s b h := clocksOk_tickBase h b
  mark s b h := clocksOk_mark h b
  settleMarkAt s w h := (settleMarkAt_watchesOnly s w).sameClocks.clocksOk h
  sampleReleaseLine s n high c h := clocksOk_sampleReleaseLine h n high c
  sampleFaultLine s n high c h := clocksOk_sampleFaultLine h n high c
  cycle s h := clocksOk_cycle h
  writeWindow n f := clocksOk_takes fun s d t hok => by
    obtain ⟨rfl, -⟩ := writeWindow_ok hok
    exact ⟨rfl, rfl, rfl, rfl⟩
  writeGroup g f := clocksOk_takes fun s d t hok => by
    dsimp only [State.writeGroup, written] at hok
    repeat' split at hok
    all_goals cases hok
    exact ⟨rfl, rfl, rfl, rfl⟩
  writeSafe n f := clocksOk_takes fun s d t hok => by
    dsimp only [State.writeSafe, written] at hok
    repeat' split at hok
    all_goals cases hok
    exact ⟨rfl, rfl, rfl, rfl⟩
  writeWatch w f := clocksOk_takes fun s d t hok => by
    dsimp only [State.writeWatch, written] at hok
    repeat' split at hok
    all_goals cases hok
    exact ⟨rfl, rfl, rfl, rfl⟩
  writeTimebase := clocksOk_writeTimebase
  writeLines := clocksOk_writeLines
  writeMemport b := clocksOk_takes fun s d t hok => by
    dsimp only [State.writeMemport, written] at hok
    split at hok <;> cases hok
    exact ⟨rfl, rfl, rfl, rfl⟩
  startGroup g := clocksOk_takes fun s d t hok => by
    dsimp only [State.startGroup] at hok
    repeat' split at hok
    all_goals cases hok
    exact ⟨rfl, rfl, rfl, rfl⟩
  groupStopDiscard g := clocksOk_takes fun s d t hok => by
    dsimp only [State.groupStopDiscard] at hok
    split at hok <;> cases hok
    · exact (stopDiscard_groupsOnly s g).sameClocks
    · exact (stopDiscard_groupsOnly s g).sameClocks
    · exact (stopNow_groupsOnly s g _).sameClocks
  groupStopFlush g := clocksOk_takes fun s d t hok => by
    dsimp only [State.groupStopFlush] at hok
    split at hok <;> cases hok
    · exact (stopFlush_groupsOnly s g).sameClocks
    · exact .refl s
    · exact (stopNow_groupsOnly s g _).sameClocks
  sealGroup g := clocksOk_takes fun s d t hok => by
    dsimp only [State.sealGroup] at hok
    split at hok <;> cases hok
    exact (sealRequest_groupsOnly s g _).sameClocks
  releaseGroup g := clocksOk_takes fun s d t hok => by
    dsimp only [State.releaseGroup] at hok
    split at hok <;> cases hok
    exact (releasePoint_groupsOnly s g).sameClocks
  clearCounters s g h := (setGroup_groupsOnly s g _).sameClocks.clocksOk h
  forceFault g := clocksOk_takes fun s d t hok => by
    dsimp only [State.forceFault] at hok
    split at hok <;> cases hok <;> exact (tripSource_groupsOnly s g _).sameClocks
  clearFault g force := clocksOk_takes fun s d t hok => by
    dsimp only [State.clearFault, State.clearFaulted] at hok
    repeat' split at hok
    all_goals cases hok
    exact (clearGroup_groupsOnly s g _ _).sameClocks
  arm w := clocksOk_takes fun s d t hok => by
    dsimp only [State.arm] at hok
    split at hok <;> cases hok
    exact (armWatch_watchesOnly s w).sameClocks
  disarm w := clocksOk_takes fun s d t hok => by
    dsimp only [State.disarm] at hok
    split at hok <;> cases hok
    exact (disarmWatch_watchesOnly s w).sameClocks
  newReference r m w := clocksOk_takes fun s d t hok => by
    cases hok
    exact (setReference_watchesOnly s w r m).sameClocks
  startBase b := clocksOk_controlBases b _ _ (fun t h => (baseWeak_of_ok h).restarted) fun _ => rfl
  stopBase b := clocksOk_controlBases b _ _ (fun t h => (baseWeak_of_ok h).restarted) fun _ => rfl
  zeroBase b := clocksOk_controlBases b _ _ (fun t h => by
    obtain ⟨h1, h2, h3, h4, h5, h6, h7⟩ := h
    exact ⟨h1, h2, h3, h4, by show 0 < t.period; omega, h6, h7⟩) fun _ => rfl
  pop := clocksOk_takes fun s d t hok => by
    dsimp only [State.pop] at hok
    split at hok <;> cases hok <;> exact ⟨rfl, rfl, rfl, rfl⟩
  startPeek a s t _ h hok := by
    unfold State.startPeek at hok
    split at hok <;> cases hok
    exact SameClocks.clocksOk (s := s) (by exact ⟨rfl, rfl, rfl, rfl⟩) h
  startPoke a d m s t _ h hok := by
    unfold State.startPoke at hok
    split at hok
    · cases hok
    · split at hok <;> cases hok
      exact SameClocks.clocksOk (s := s) (by exact ⟨rfl, rfl, rfl, rfl⟩) h
  softReset s _ h := clocksOk_softReset h
  tryComplete s _ h := by
    obtain ⟨gs, e, l, ht, -⟩ := tryComplete_frame s
    rw [ht]
    exact SameClocks.clocksOk (s := s) (by exact ⟨rfl, rfl, rfl, rfl⟩) h
  powerOn s _ _ := clocksOk_powerOn s
  powerOnEnd s r f h := by
    unfold State.powerOnEnd
    split
    · refine ⟨h.bases, fun n => .inl ?_, fun n => .inl ?_⟩
      · simp [ReleaseLine.atEnd]
      · simp [FaultLine.atEnd]
    · exact h

/-! ### The arbiter's values and the watches' settle fields (R102, R103, R130, R131) -/

/-- The arbiter's values and the watches' settle fields in range. -/
structure SettleOk (s : State) : Prop where
  port : PortOk s
  watches : WatchesOk s

theorem settleOk_congr {s t : State} (h : SettleOk s) (hw : ∀ w, t.watch w = s.watch w) (hr : t.port.run = s.port.run)
    (hb : t.port.burst = s.port.burst) : SettleOk t := by
  refine ⟨?_, fun w => ?_⟩
  · unfold PortOk
    rw [hr, hb]
    exact h.port
  · rw [hw]
    exact h.watches w

theorem settleOk_groupsOnly {s t : State} (h : SettleOk s) (hg : GroupsOnly s t) : SettleOk t :=
  settleOk_congr h hg.watch (by rw [hg.port]) (by rw [hg.port])

theorem settleOk_watchClosed : WatchClosed SettleOk where
  setWatch s w x hl hm h := by
    refine ⟨h.port, fun v => ?_⟩
    rw [setWatch_watch]
    split
    · have := h.watches w
      exact ⟨hl ▸ this.1, le_trans hm this.2⟩
    · exact h.watches v
  setService s l h := settleOk_congr h (fun _ => rfl) rfl rfl
  submit s b h := settleOk_groupsOnly h (submit_groupsOnly s b)
  tripSource s g x h := settleOk_groupsOnly h (tripSource_groupsOnly s g x)
  reorder s q h := settleOk_congr h (fun _ => rfl) rfl rfl

theorem settleOk_marksOnly {s t : State} (h : SettleOk s) (hm : MarksOnly s t) (hr : t.port.run = s.port.run)
    (hb : t.port.burst = s.port.burst) : SettleOk t := by
  refine ⟨?_, fun w => ?_⟩
  · unfold PortOk
    rw [hr, hb]
    exact h.port
  · have hw := h.watches w
    have hl : (t.watch w).settleLength = (s.watch w).settleLength := by rw [hm.watch]
    refine ⟨by rw [hl]; exact hw.1, ?_⟩
    rcases hm.marks w with e | e
    · rw [e]; exact hw.2
    · rw [e]; exact hw.1

theorem settleOk_reportClearance {s : State} (h : SettleOk s) : SettleOk s.reportClearance := by
  obtain ⟨v, hv, -⟩ := reportClearance_spec s
  rw [hv]
  exact settleOk_congr h (fun _ => rfl) rfl rfl

theorem settleOk_reportBlocks {s : State} (h : SettleOk s) : SettleOk s.reportBlocks := by
  rw [reportBlocks_eq]
  unfold reported
  split
  · refine ⟨?_, h.watches⟩
    dsimp only
    split
    · exact ⟨Nat.zero_le _, h.port.2⟩
    · exact h.port
  · exact h

/-- R102: the arbiter's values after a grant. -/
theorem settleOk_grant {s : State} (h : SettleOk s) (x : Turn) (t : Transaction) : SettleOk (s.grant x t) := by
  refine ⟨⟨?_, h.port.2⟩, h.watches⟩
  have hrun : s.runAtDecision ≤ 16 := by
    unfold State.runAtDecision
    split
    · exact Nat.zero_le _
    · exact h.port.1
  show (afterGrant x s.runAtDecision s.port.burst).2 ≤ 16
  have hb := h.port.2.2
  unfold afterGrant
  split
  · split <;> dsimp only <;> omega
  · exact hrun
  · exact hrun

theorem settleOk_arbitrate {s : State} (h : SettleOk s) : SettleOk s.arbitrate := by
  rcases arbitrate_cases s with e | ⟨-, -, ⟨-, e⟩ | ⟨-, e⟩ | ⟨-, e⟩⟩ <;> rw [e]
  · exact h
  · unfold State.grantDrain
    split
    · exact h
    · exact settleOk_grant h _ _
  · unfold State.grantPass
    split
    · exact h
    · rename_i i rest _
      exact settleOk_congr (settleOk_grant h .pass { requester := .pass i, kind := (s.slot i).kind, addr := (s.slot i).addr })
        (fun _ => rfl) rfl rfl
  · unfold State.grantService
    split
    · exact h
    · rename_i r _
      have hg : SettleOk ((s.grant .service (s.serviceTransaction r)).setPort
          { (s.grant .service (s.serviceTransaction r)).port with service := s.port.service.erase r }) :=
        settleOk_watchClosed.setService _ _ (settleOk_grant h _ _)
      dsimp only
      unfold State.markGranted
      split
      · exact settleOk_watchClosed.setWatch _ _ _ rfl (Nat.le_refl _) hg
      · exact hg
      · exact hg

theorem settleOk_toRequester {s : State} (h : SettleOk s) (r : Requester) (e : Bool) (word : Word) : SettleOk (s.toRequester r e word) := by
  cases r with
  | pass i =>
    have hp := passPerformed_requestsOnly s i e word
    show SettleOk (s.passPerformed i e word)
    exact settleOk_congr h (fun w => by simp only [State.watch, hp.watches]) (by rw [hp.port]) (by rw [hp.port])
  | drain =>
    show SettleOk (s.drainPerformed e)
    have he := drainPerformed_engineOnly s e
    obtain ⟨_, _, _, _, _, _, _, -, -, he⟩ := he
    exact settleOk_marksOnly h (drainPerformed_marksOnly s e) (by rw [he]) (by rw [he])
  | probe w => exact settleOk_watchClosed.probeResult w e word h
  | peek =>
    show SettleOk (s.peekPerformed e word)
    unfold State.peekPerformed
    split <;> exact settleOk_congr h (fun _ => rfl) rfl rfl
  | poke =>
    show SettleOk (s.pokePerformed e)
    unfold State.pokePerformed
    split <;> exact settleOk_congr h (fun _ => rfl) rfl rfl

theorem settleOk_performed {s : State} (h : SettleOk s) (e : Bool) (rd : Word) : SettleOk (s.performed e rd) := by
  unfold State.performed
  split
  · exact h
  · rename_i x _
    unfold State.perform
    dsimp only
    refine settleOk_reportBlocks (settleOk_reportClearance (settleOk_toRequester ?_ _ _ _))
    have hu : SettleOk ((s.setPort { s.port with current := none }).setMem (memoryAfter s.mem x e rd)) :=
      settleOk_congr h (fun _ => rfl) rfl rfl
    unfold State.reportLanded
    split
    · exact settleOk_watchClosed.landedWrite _ _ _ _ hu
    · exact hu

theorem settleOk_decideItem {s : State} (h : SettleOk s) : SettleOk s.decideItem := by
  unfold State.decideItem
  split
  · exact h
  · split
    · rename_i it _
      obtain ⟨u, hu⟩ := holdAtStart_eq (s.makeCurrent it) it.group
      have he := takeItem_engineOnly s it
      rw [hu] at he
      obtain ⟨_, _, _, _, _, _, _, -, -, he⟩ := he
      exact settleOk_marksOnly h (takeItem_marksOnly s it) (by rw [he]; rfl) (by rw [he]; rfl)
    · exact h

theorem settleOk_endItem {s : State} (h : SettleOk s) : SettleOk s.endItem := by
  unfold State.endItem
  split
  · exact h
  · rename_i it _
    split
    · have hp := returnHeld_requestsOnly s it.group
      rw [reportEnd_eq]
      refine settleOk_reportBlocks (settleOk_reportClearance ?_)
      have hr : SettleOk (s.returnHeld it.group) :=
        settleOk_congr h (fun w => by simp only [State.watch, hp.watches]) (by rw [hp.port]) (by rw [hp.port])
      exact settleOk_congr hr (fun _ => rfl) rfl rfl
    · exact h

theorem settleOk_powerOn (s : State) : SettleOk s.powerOn := by
  have hw (w : Fin 12) : s.powerOn.watch w = Watch.reset := by simp [State.watch, State.powerOn, State.reset]
  refine ⟨?_, fun w => ?_⟩
  · show Port.reset.run ≤ 16 ∧ 1 ≤ Port.reset.burst ∧ Port.reset.burst ≤ 16
    decide
  · rw [hw]
    decide

theorem settleOk_kept : CoreKept (fun _ => True) SettleOk where
  peripheral s t ht h := settleOk_congr h (fun w => by simp only [State.watch, ht.watches]) (by rw [ht.port]) (by rw [ht.port])
  newCycle s h := settleOk_congr h (fun _ => rfl) rfl rfl
  settleMarkAt s w h := settleOk_watchClosed.settleMarkAt w h
  upstreamRequest s i g k a h := by
    have hp := upstreamRequest_requestsOnly s i g k a
    exact settleOk_congr h (fun w => by simp only [State.watch, hp.watches]) (by rw [hp.port]) (by rw [hp.port])
  issueResponse s i g _ h := by
    unfold State.issueResponse
    dsimp only
    split
    · split
      · exact h
      · exact settleOk_reportBlocks (settleOk_congr h (fun _ => rfl) rfl rfl)
    · exact h
  arbitrate s h := settleOk_arbitrate h
  performed s e r _ h := settleOk_performed h e r
  decideItem s h := settleOk_decideItem h
  endItem s _ h := settleOk_endItem h
  writeWindow n f s d t _ h hok := by
    obtain ⟨rfl, -⟩ := writeWindow_ok hok
    exact settleOk_congr h (fun _ => rfl) rfl rfl
  writeWatch w f s d t _ h hok := by
    dsimp only [State.writeWatch, written] at hok
    split at hok
    · cases hok
    · rename_i hr
      have hlen : f.settleLength.toNat ≤ 15 := by
        simp only [Wire.watchInRange, Bool.not_eq_true, Bool.not_eq_false', Bool.and_eq_true, decide_eq_true_eq] at hr
        exact hr.2
      split at hok <;> cases hok
      refine ⟨h.port, fun v => ?_⟩
      rw [setWatch_watch]
      split
      · exact ⟨hlen, (h.watches w).2⟩
      · exact h.watches v
  writeMemport b s d t _ h hok := by
    dsimp only [State.writeMemport, written] at hok
    split at hok
    · cases hok
    · rename_i hr
      simp only [Wire.burstInRange, Bool.not_eq_true, Bool.not_eq_false', Bool.and_eq_true, decide_eq_true_eq] at hr
      cases hok
      exact ⟨⟨h.port.1, hr⟩, h.watches⟩
  arm w s d t _ h hok := by
    dsimp only [State.arm] at hok
    split at hok <;> cases hok
    exact settleOk_watchClosed.armWatch w h
  disarm w s d t _ h hok := by
    dsimp only [State.disarm] at hok
    split at hok <;> cases hok
    exact settleOk_watchClosed.disarmWatch w h
  newReference r m w s d t _ h hok := by
    cases hok
    exact settleOk_watchClosed.setReference w r m h
  startPeek a s t _ h hok := by
    unfold State.startPeek at hok
    split at hok <;> cases hok
    exact settleOk_congr h (fun _ => rfl) rfl rfl
  startPoke a d m s t _ h hok := by
    unfold State.startPoke at hok
    split at hok
    · cases hok
    · split at hok <;> cases hok
      exact settleOk_congr h (fun _ => rfl) rfl rfl
  softReset s _ h := by
    obtain ⟨u, hu, he⟩ := softResetBody_spec s
    obtain ⟨gs, e, l, ht, -⟩ := tryComplete_frame (reported u)
    rw [he, ht, ← reportBlocks_eq]
    have hsu : SettleOk u := by
      refine ⟨by unfold PortOk; rw [hu.port]; exact h.port, fun w => ?_⟩
      rw [hu.watch]
      exact ⟨(h.watches w).1, Nat.zero_le _⟩
    exact settleOk_congr (settleOk_reportBlocks hsu) (fun _ => rfl) rfl rfl
  tryComplete s _ h := by
    obtain ⟨gs, e, l, ht, -⟩ := tryComplete_frame s
    rw [ht]
    exact settleOk_congr h (fun _ => rfl) rfl rfl
  powerOn s _ _ := settleOk_powerOn s

/-! ### The windows (R23) -/

theorem windowsDisjoint_kept : CoreKept (fun _ => True) WindowsDisjoint where
  peripheral s t ht h := windowsDisjoint_congr h ht.windows
  newCycle s h := h
  settleMarkAt s w h := windowsDisjoint_congr h (EngineOnly.of_watchesOnly (settleMarkAt_watchesOnly s w)).windows
  upstreamRequest s i g k a h := windowsDisjoint_congr h (upstreamRequest_requestsOnly s i g k a).windows
  issueResponse s i g _ h := windowsDisjoint_congr h (issueResponse_windows s i g)
  arbitrate s h := windowsDisjoint_congr h (arbitrate_windows s)
  performed s e r _ h := windowsDisjoint_congr h (performed_windows s e r)
  decideItem s h := windowsDisjoint_congr h (decideItem_windows s)
  endItem s _ h := windowsDisjoint_congr h (endItem_windows s)
  writeWindow n f s d t _ h hok := windowsDisjoint_writeWindow h hok
  writeWatch w f s d t _ h hok := by
    dsimp only [State.writeWatch, written] at hok
    repeat' split at hok
    all_goals cases hok
    exact h
  writeMemport b s d t _ h hok := by
    dsimp only [State.writeMemport, written] at hok
    split at hok <;> cases hok
    exact h
  arm w s d t _ h hok := by
    dsimp only [State.arm] at hok
    split at hok <;> cases hok
    exact h
  disarm w s d t _ h hok := by
    dsimp only [State.disarm] at hok
    split at hok <;> cases hok
    exact windowsDisjoint_congr h (EngineOnly.of_watchesOnly (disarmWatch_watchesOnly s w)).windows
  newReference r m w s d t _ h hok := by
    cases hok
    exact windowsDisjoint_congr h (EngineOnly.of_watchesOnly (setReference_watchesOnly s w r m)).windows
  startPeek a s t _ h hok := by
    unfold State.startPeek at hok
    split at hok <;> cases hok
    exact h
  startPoke a d m s t _ h hok := by
    unfold State.startPoke at hok
    split at hok
    · cases hok
    · split at hok <;> cases hok
      exact h
  softReset s _ h := windowsDisjoint_congr h (softResetBody_windows s)
  tryComplete s _ h := by
    obtain ⟨gs, e, l, ht, -⟩ := tryComplete_frame s
    exact windowsDisjoint_congr h (by rw [ht])
  powerOn s _ _ := windowsDisjoint_powerOn s

/-! ### RangesKept -/

/-- The ranges in their three parts. -/
theorem rangesOk_iff (s : State) : RangesOk s ↔ ClocksOk s ∧ SettleOk s ∧ GroupsInRange s ∧ DrainRangesOk s := by
  constructor
  · rintro ⟨hb, hg, he, hl, hp, hw, hr, hd⟩
    exact ⟨⟨hb, hl⟩, ⟨hp, hw⟩, ⟨fun g => ⟨(hg g).1, (hg g).2, (hr g).1, (hr g).2.1, (hr g).2.2.1, (hr g).2.2.2⟩, he⟩, hd⟩
  · rintro ⟨⟨hb, hl⟩, ⟨hp, hw⟩, ⟨hg, he⟩, hd⟩
    exact ⟨hb, fun g => ⟨(hg g).config, (hg g).counters⟩, he, hl, hp, hw,
      fun g => ⟨(hg g).opened, (hg g).other, (hg g).held, (hg g).retirement⟩, hd⟩

/-- Settles O57: the windows, the bases and lines, the port's and the watches' values, and the groups and the engine are each kept by
what every command does. -/
theorem rangesKept : Obligations.RangesKept := by
  refine ⟨fun s t hs h => Kept.step windowsDisjoint_kept.kept s t hs h, fun s t hb hs h => ?_⟩
  obtain ⟨hc, hw, hg, hd⟩ := (rangesOk_iff s).1 hs
  have he := Kept.step engineInRange_kept s t ⟨hb, hg, hd⟩ h
  exact (rangesOk_iff t).2 ⟨Kept.step clocksOk_kept s t hc h, Kept.step settleOk_kept.kept s t hw h, he.groups, he.drain⟩

/-! ### The reset state -/

/-- The reset state is what a power-on reset leaves of it, but for RESET_N. -/
theorem reset_powerOn : State.reset.powerOn = { State.reset with inReset := true } := by decide +kernel

/-- Settles O56: the reset state differs from its own power-on reset in RESET_N alone, and a power-on reset establishes each invariant. -/
theorem resetInvariants : Obligations.ResetInvariants := by
  have hw := windowsDisjoint_powerOn State.reset
  have hc := clocksOk_powerOn State.reset
  have hs := settleOk_powerOn State.reset
  have he := engineInRange_powerOn State.reset
  have hr := requestsOk_powerOn State.reset
  have ho := observationOk_powerOn (s := State.reset) memoryWf_reset
  rw [reset_powerOn] at hw hc hs he hr ho
  refine ⟨hw, (rangesOk_iff _).2 ⟨⟨hc.bases, hc.lines⟩, ⟨hs.port, hs.watches⟩, he.groups.congr rfl rfl, he.drain⟩,
    batchesOk_congr rfl rfl rfl rfl rfl rfl rfl rfl rfl he.batches, requestsOk_congr hr rfl rfl rfl rfl rfl rfl rfl,
    observationOk_congr ho (fun _ => rfl) rfl rfl rfl rfl⟩

end Sys2Proof.Machine

/-! PROOFS. Chapter 01 and section 3.3: how an upstream request is taken, turned away, passed, held, forwarded, staged or refused
(R1, R4 to R9, R47 to R57), and how a response leaves (R2, R12). -/

namespace Sys2Proof.Machine

open Sys2Proof.Safety

/-! ### Staging (R47 to R57) -/

theorem setGroup_self (s : State) (g : Fin 8) : s.setGroup g (s.group g) = s := by
  simp [State.setGroup, State.group]

/-- R47: a write joins where its mask is not empty and its word has no entry. -/
theorem joins_iff (b : Batch) (a : WordAddr) (m : Mask) : Joins b a m ↔ m ≠ 0#4 ∧ b.entryFor a = none := by
  rw [entryFor_eq_none]

theorem batchWith_empty (b : Batch) (a : WordAddr) (d : Word) : batchWith b a d 0#4 = b := if_pos rfl

theorem batchWith_coalesce {b : Batch} {a : WordAddr} {d : Word} {m : Mask} (hm : m ≠ 0#4) (h : ¬ Joins b a m) :
    batchWith b a d m = b.coalesce a d m := by
  rw [batchWith, if_neg hm, if_neg h]
  rfl

theorem batchWith_append {b : Batch} {a : WordAddr} {d : Word} {m : Mask} (h : Joins b a m) : batchWith b a d m = b.append a d m := by
  rw [batchWith, if_neg h.1, if_pos h]
  rfl

theorem batchWith_seq (b : Batch) (a : WordAddr) (d : Word) (m : Mask) : (batchWith b a d m).seq = b.seq := by
  unfold batchWith
  split
  · rfl
  · split <;> rfl

/-- R47 to R50: the staging decision. -/
theorem stageEntry_eq {s : State} {g : Fin 8} {b : Batch} (ho : (s.group g).opened = some b) (a : WordAddr) (d : Word) (m : Mask) :
    s.stageEntry g b a d m = match stagingRefusal s (s.group g) b a m with
      | some cause => (s, some cause)
      | none => ((s.setGroup g (groupWith (s.group g) b a d m)).setFreeSlots (freeWith s b a m), none) := by
  unfold stagingRefusal
  rcases stageEntry_cases s g b a d m with ⟨hm, e⟩ | ⟨hm, hb, e⟩ | ⟨hm, hb, hq, e⟩ | ⟨hm, hb, hq, hf, e⟩ | ⟨hm, hb, hq, hf, e⟩
  · have hj : ¬ Joins b a m := fun h => h.1 hm
    have hg : groupWith (s.group g) b a d m = s.group g := by
      rw [groupWith, if_neg hj, hm, batchWith_empty, ← ho]
    rw [e, if_neg hj, freeWith, if_neg hj]
    dsimp only
    rw [hg, setGroup_self]
    rfl
  · have hj : ¬ Joins b a m := fun h => by
      rw [joins_iff] at h
      rw [h.2] at hb
      cases hb
    rw [e, if_neg hj, freeWith, if_neg hj, groupWith, if_neg hj, batchWith_coalesce hm hj]
    rfl
  · rw [e, if_pos ((joins_iff b a m).2 ⟨hm, hb⟩), if_pos hq]
  · rw [e, if_pos ((joins_iff b a m).2 ⟨hm, hb⟩), if_neg (Nat.not_le.2 hq), if_pos hf]
  · have hj := (joins_iff b a m).2 ⟨hm, hb⟩
    rw [e, if_pos hj, if_neg (Nat.not_le.2 hq), if_neg hf, freeWith, if_pos hj, groupWith, if_pos hj, batchWith_append hj]

theorem stagingRefusal_none {s : State} {gr : Group} {b : Batch} {a : WordAddr} {m : Mask}
    (h : Joins b a m → gr.held < gr.config.quota ∧ s.freeSlots ≠ 0) : stagingRefusal s gr b a m = none := by
  unfold stagingRefusal
  split
  · rename_i hj
    obtain ⟨hq, hf⟩ := h hj
    rw [if_neg (Nat.not_le.2 hq), if_neg hf]
  · rfl

theorem stagingRefusal_some {s : State} {gr : Group} {b : Batch} {a : WordAddr} {m : Mask} {cause : RefusalCause} (hj : Joins b a m)
    (h : if gr.config.quota ≤ gr.held then cause = .quota else s.freeSlots = 0 ∧ cause = .poolFull) :
    stagingRefusal s gr b a m = some cause := by
  unfold stagingRefusal
  rw [if_pos hj]
  split at h
  · rw [if_pos ‹_›, h]
  · rw [if_neg ‹_›, if_pos h.1, h.2]

/-- R53, R57: the seal request of an accepted write to the seal word, in an ACTIVE group. -/
theorem sealRequest_of_active {s : State} {g : Fin 8} {b : Batch} (c : SealCause) (hst : (s.group g).state = .active)
    (ho : (s.group g).opened = some b) :
    ((s.sealRequest g c).1, (s.sealRequest g c).2.response) =
      if (s.group g).other.isNone then
        ((s.setGroup g (groupSealed (s.group g) b c)).setReleaseQueue (queueSealed s g (s.group g) b), Response.stagedSealed)
      else (s.setGroup g { s.group g with sealPending := true }, Response.stagedSealPending) := by
  rcases sealRequest_cases s g c with ⟨o, -, hb, hn, e⟩ | ⟨o, -, hb, hn, -, e⟩ | ⟨o, hn, hb, hp, e⟩ | ⟨-, e⟩
  · obtain rfl : b = o := by simpa [ho] using hb
    rw [e, if_pos (by simp [hn])]
    dsimp only
    rw [sealOpen_of_active c hst ho]
    rfl
  · rw [e, if_neg (by simpa using hn)]
    rfl
  · have hn : (s.group g).other ≠ none := by
      rcases hn with ⟨-, hn⟩ | hn
      · exact hn
      · rw [hst] at hn
        cases hn
    have hg : ({ s.group g with sealPending := true } : Group) = s.group g := by rw [← hp]
    rw [e, if_neg (by simpa using hn), hg, setGroup_self]
    rfl
  · rw [ho] at e
    cases e hst

/-- R47 to R57: a write handed to an ACTIVE group. -/
theorem stage_eq {s : State} {g : Fin 8} {b : Batch} (hst : (s.group g).state = .active) (ho : (s.group g).opened = some b)
    (a : WordAddr) (d : Word) (m : Mask) (sealWord : Bool) :
    s.stage g a d m sealWord = match stagingRefusal s (s.group g) b a m with
      | some cause => (s, .refused cause)
      | none =>
        if sealWord then
          (if (s.group g).other.isNone then
            ({ s with
              groups := s.groups.set g (groupSealed (groupWith (s.group g) b a d m) (batchWith b a d m) .sealWord)
              releaseQueue := queueSealed s g (groupWith (s.group g) b a d m) b
              freeSlots := freeWith s b a m }, .accepted .stagedSealed)
           else
            ({ s with
              groups := s.groups.set g { groupWith (s.group g) b a d m with sealPending := true }
              freeSlots := freeWith s b a m }, .accepted .stagedSealPending))
        else ({ s with groups := s.groups.set g (groupWith (s.group g) b a d m), freeSlots := freeWith s b a m }, .accepted .staged) := by
  unfold State.stage
  simp only [ho, stageEntry_eq ho]
  cases stagingRefusal s (s.group g) b a m with
  | some cause => rfl
  | none =>
    cases sealWord with
    | false => rfl
    | true =>
      set u := (s.setGroup g (groupWith (s.group g) b a d m)).setFreeSlots (freeWith s b a m) with hu
      have hg : u.group g = groupWith (s.group g) b a d m := (setGroup_group s g g _).trans (if_pos rfl)
      have hr := sealRequest_of_active (s := u) (g := g) (b := batchWith b a d m) .sealWord (by rw [hg]; exact hst) (by rw [hg]; rfl)
      have hset (x : Group) : u.setGroup g x = { s with groups := s.groups.set g x, freeSlots := freeWith s b a m } := by
        simp [hu, State.setGroup, State.setFreeSlots]
      obtain ⟨h1, h2⟩ := Prod.ext_iff.1 hr
      dsimp only at h1 h2 ⊢
      rw [h1, h2, if_pos rfl, if_pos rfl, hg]
      cases ho' : (s.group g).other with
      | none =>
        have hq : queueSealed u g (groupWith (s.group g) b a d m) (batchWith b a d m) =
            queueSealed s g (groupWith (s.group g) b a d m) b := by
          unfold queueSealed
          rw [batchWith_seq]
          rfl
        rw [if_pos (by simp [groupWith, ho']), if_pos (by simp), hset, hq]
        rfl
      | some o =>
        rw [if_neg (by simp [groupWith, ho']), if_neg (by simp), hset]

/-! ### Refused and staged slots -/

theorem setSlot_eq_graft (s : State) (i : Fin 16) (x : Slot) : s.setSlot i x = graft (s.setSlot i x) s := rfl

theorem setSlot_tripSource (s : State) (i : Fin 16) (x : Slot) (g : Fin 8) (t : TripSource) :
    (s.setSlot i x).tripSource g t = (s.tripSource g t).setSlot i x := by
  rw [setSlot_eq_graft, tripSource_graft (s := s.setSlot i x) (v := s) rfl rfl]
  have h := (tripSource_groupsOnly s g t).eq_graft
  rw [h]
  rfl

/-- R7: the report of a refusal. -/
theorem reportRefusal_eq (s : State) (g : Fin 8) (cause : RefusalCause) (init : BitVec 2) :
    s.reportRefusal g cause init = refusalMade s g cause init := by
  have hs := submit_setGroup (s := s) (g := g) (x := refusalCounted (s.group g)) rfl (.writeRefused g cause init)
  unfold State.reportRefusal refusalMade refusalEvents
  dsimp only
  split
  · rfl
  · exact hs

/-- R6, R7: a refused write. -/
theorem refuse_eq (s : State) (i : Fin 16) (g : Fin 8) (cause : RefusalCause) :
    s.refuse i g cause = (refusalMade s g cause (slotInit i)).setSlot i (answered (s.slot i) (.refused cause)) := by
  have ha : s.answer i (.refused cause) false = graft (s.setSlot i (answered (s.slot i) (.refused cause))) s := rfl
  have hr : refusalMade (s.answer i (.refused cause) false) g cause (slotInit i) =
      { s.answer i (.refused cause) false with
        groups := s.groups.set g (refusalCounted (s.group g)), events := refusalEvents s g cause (slotInit i) } := by
    have he : refusalEvents (s.answer i (.refused cause) false) g cause (slotInit i) = refusalEvents s g cause (slotInit i) := by
      have hs := submit_graft (s := s.setSlot i (answered (s.slot i) (.refused cause))) (v := s) rfl (.writeRefused g cause (slotInit i))
      unfold refusalEvents
      rw [ha, hs]
      rfl
    unfold refusalMade
    rw [he]
    rfl
  rw [State.refuse, reportRefusal_eq, hr]
  rfl

theorem writeEffect_groupsOnly (s : State) (w : Window) (b : Batch) (init : BitVec 2) (a : WordAddr) (d : Word) (m : Mask) :
    GroupsOnly s (writeEffect s w b init a d m) := by
  have hr (c : RefusalCause) : GroupsOnly s (refusalMade s w.group c init) := ⟨_, _, _, _, rfl⟩
  unfold writeEffect
  dsimp only
  split
  · split
    · exact (hr _).trans (tripSource_groupsOnly _ _ _)
    · exact hr _
  · split
    · split <;> exact ⟨_, _, _, _, rfl⟩
    · exact ⟨_, _, _, _, rfl⟩

/-- R9, R47 to R57: an owner's write to an ACTIVE group. -/
theorem stageSlot_eq {s : State} {i : Fin 16} {w : Window} {b : Batch} (hst : (s.group w.group).state = .active)
    (ho : (s.group w.group).opened = some b) (d : Word) (m : Mask) :
    s.stageSlot i w d m =
      (writeEffect s w b (slotInit i) (s.slot i).addr d m).setSlot i
        (answered (s.slot i) (writeAnswer s w (s.group w.group) b (s.slot i).addr m)) := by
  unfold State.stageSlot writeEffect writeAnswer
  dsimp only
  rw [stage_eq hst ho]
  cases stagingRefusal s (s.group w.group) b (s.slot i).addr m with
  | some cause =>
    dsimp only
    rw [refuse_eq, setSlot_tripSource]
    split <;> rfl
  | none =>
    cases w.isSealWord (s.slot i).addr with
    | false => rfl
    | true => cases (s.group w.group).other.isNone <;> rfl

/-! ### Taking a request (R1, R3, R4) -/

theorem slotInit_slotOf (init tag : BitVec 2) : slotInit (slotOf init tag) = init := by
  decide +revert

theorem exec_upstreamRequest {s : State} {init tag : BitVec 2} (h : Accepts s init tag) (kind : ReqKind) (a : WordAddr) :
    exec (.upstreamRequest init tag kind a) s =
      .next (((quiet s).taking (slotOf init tag) kind a).decodeTaken (slotOf init tag)) := by
  obtain ⟨hr, hs, hf⟩ := h
  have hq : (quiet s).softResetting = false := Bool.eq_false_iff.2 fun e => hs ((softResetting_iff (quiet s)).1 e)
  have hresetting : (quiet s).resetting = false := by
    unfold State.resetting
    rw [hq]
    exact Bool.or_eq_false_iff.2 ⟨hr, rfl⟩
  show Host.Outcome.next ((quiet s).upstreamRequest init tag kind a) = _
  have hfree : ((quiet s).slot (slotOf init tag)).state = .free := hf
  rw [State.upstreamRequest, hresetting, if_neg (by simp), if_neg (not_not.2 hfree)]
  rfl

section
variable (s : State) (i : Fin 16) (kind : ReqKind) (a : WordAddr)

/-- The slot just taken, written again. -/
theorem taking_setSlot (x : Slot) : ((quiet s).taking i kind a).setSlot i x = { quiet s with upstream := port s i x [] [] } := by
  simp [State.taking, State.setSlot, State.setIndication, State.setNextOrder, port, quiet]

theorem taking_slot_self : ((quiet s).taking i kind a).slot i = slotWith s kind a .queued none none :=
  (taking_slot (quiet s) i i kind a).trans (if_pos rfl)

theorem earlierHeld_taking (hf : (s.slot i).state = .free) :
    ((quiet s).taking i kind a).earlierHeld i = true ↔ HeldEarlier s a := by
  set u := (quiet s).taking i kind a with hu
  have hi : u.slot i = slotWith s kind a .queued none none := taking_slot_self s i kind a
  have hj (j : Fin 16) (h : i ≠ j) : u.slot j = s.slot j := (taking_slot (quiet s) i j kind a).trans (if_neg h)
  unfold State.earlierHeld
  simp only [List.any_eq_true, Bool.and_eq_true, beq_iff_eq, decide_eq_true_eq, hi]
  constructor
  · rintro ⟨j, -, ⟨h1, h2⟩, h3⟩
    have hne : i ≠ j := by
      rintro rfl
      rw [hi] at h1
      cases h1
    rw [hj j hne] at h1 h2 h3
    exact ⟨j, h1, h2, h3⟩
  · rintro ⟨j, h1, h2, h3⟩
    have hne : i ≠ j := by
      rintro rfl
      rw [hf] at h1
      cases h1
    rw [← hj j hne] at h1 h2 h3
    exact ⟨j, mem_slotNumbers j, ⟨h1, h2⟩, h3⟩

theorem holds_taking {w : Window} (hf : (s.slot i).state = .free) (hw : s.windowOf a = some w) :
    ((quiet s).taking i kind a).holds i = true ↔ Holds s w a := by
  have hwin : ((quiet s).taking i kind a).windowOf (((quiet s).taking i kind a).slot i).addr = some w := by
    rw [taking_slot_self]
    exact hw
  unfold State.holds
  rw [hwin]
  simp only [Bool.or_eq_true, earlierHeld_taking s i kind a hf]
  rfl

theorem not_holds_taking (hw : s.windowOf a = none) : ((quiet s).taking i kind a).holds i = false := by
  have hwin : ((quiet s).taking i kind a).windowOf (((quiet s).taking i kind a).slot i).addr = none := by
    rw [taking_slot_self]
    exact hw
  unfold State.holds
  rw [hwin]

end

/-- R4, cases 2 and 3: the request is held. -/
theorem exec_held {s : State} {init tag : BitVec 2} {kind : ReqKind} {a : WordAddr} (h : Accepts s init tag)
    (hh : ((quiet s).taking (slotOf init tag) kind a).holds (slotOf init tag) = true) :
    exec (.upstreamRequest init tag kind a) s = .next { quiet s with
      upstream := Safety.port s (slotOf init tag) (slotWith s kind a .held none none) [] [slotOf init tag] } := by
  rw [exec_upstreamRequest h, State.decodeTaken, if_pos hh, taking_slot_self, taking_setSlot]
  simp [State.setHoldList, Safety.port, State.taking, State.setSlot, State.setIndication, State.setNextOrder, quiet]
  rfl

/-- R4, cases 1, 4 and 5: the request goes the way of its route. -/
theorem exec_routed {s : State} {init tag : BitVec 2} {kind : ReqKind} {a : WordAddr} (h : Accepts s init tag)
    (hh : ((quiet s).taking (slotOf init tag) kind a).holds (slotOf init tag) = false) {r : Route}
    (hr : ((quiet s).taking (slotOf init tag) kind a).route (slotOf init tag) = r) :
    exec (.upstreamRequest init tag kind a) s = .next
      (let t := ((quiet s).taking (slotOf init tag) kind a).follow (slotOf init tag) r
       if r.toMemory then t.setPassQueue (t.upstream.passQueue ++ [slotOf init tag]) else t) := by
  rw [exec_upstreamRequest h, State.decodeTaken, if_neg (by simp [hh]), hr]

section
variable {s : State} {init tag : BitVec 2} {kind : ReqKind} {a : WordAddr}

theorem port_joined (s : State) (i : Fin 16) (x : Slot) :
    ({ quiet s with upstream := Safety.port s i x [] [] } : State).setPassQueue ((Safety.port s i x [] []).passQueue ++ [i]) =
      { quiet s with upstream := Safety.port s i x [i] [] } := by
  simp [State.setPassQueue, Safety.port]

theorem exec_passed (h : Accepts s init tag) (hh : ((quiet s).taking (slotOf init tag) kind a).holds (slotOf init tag) = false)
    (hr : ((quiet s).taking (slotOf init tag) kind a).route (slotOf init tag) = .pass) :
    exec (.upstreamRequest init tag kind a) s = .next { quiet s with
      upstream := Safety.port s (slotOf init tag) (slotWith s kind a .queued none none) [slotOf init tag] [] } := by
  rw [exec_routed h hh hr, State.follow, taking_slot_self, taking_setSlot]
  exact congrArg Host.Outcome.next (port_joined s _ _)

theorem exec_forwarded {snap : Snapshot} (h : Accepts s init tag)
    (hh : ((quiet s).taking (slotOf init tag) kind a).holds (slotOf init tag) = false)
    (hr : ((quiet s).taking (slotOf init tag) kind a).route (slotOf init tag) = .forward snap) :
    exec (.upstreamRequest init tag kind a) s = .next { quiet s with
      upstream := Safety.port s (slotOf init tag) (slotWith s kind a .queued (some snap) none) [slotOf init tag] [] } := by
  rw [exec_routed h hh hr, State.follow, taking_slot_self, taking_setSlot]
  exact congrArg Host.Outcome.next (port_joined s _ _)

theorem exec_covered {snap : Snapshot} (h : Accepts s init tag)
    (hh : ((quiet s).taking (slotOf init tag) kind a).holds (slotOf init tag) = false)
    (hr : ((quiet s).taking (slotOf init tag) kind a).route (slotOf init tag) = .covered snap) :
    exec (.upstreamRequest init tag kind a) s = .next { quiet s with
      upstream := Safety.port s (slotOf init tag) (slotWith s kind a .answering (some snap) (some (.data snap.value))) [] [] } := by
  rw [exec_routed h hh hr, State.follow, State.answer, setSlot_slot, if_pos rfl, setSlot_setSlot, taking_slot_self, taking_setSlot]
  rfl

/-- A slot written while the groups, the pool and the queues of `v` are taken over. -/
theorem setSlot_graft_taking (v : State) (i : Fin 16) (x : Slot) :
    (graft ((quiet s).taking i kind a) v).setSlot i x = graft { quiet s with upstream := Safety.port s i x [] [] } v :=
  congrArg (fun u => graft u v) (taking_setSlot s i kind a x)

theorem refusalMade_taking (i : Fin 16) (g : Fin 8) (cause : RefusalCause) :
    refusalMade ((quiet s).taking i kind a) g cause init = graft ((quiet s).taking i kind a) (refusalMade s g cause init) := by
  have he : refusalEvents ((quiet s).taking i kind a) g cause init = refusalEvents s g cause init := by
    unfold refusalEvents
    rw [submit_eq_of_congr (s := s) (t := (quiet s).taking i kind a) rfl rfl (fun _ => rfl)]
    rfl
  unfold refusalMade
  rw [he]
  rfl

theorem exec_refused {g : Fin 8} {cause : RefusalCause} (h : Accepts s init tag)
    (hh : ((quiet s).taking (slotOf init tag) kind a).holds (slotOf init tag) = false)
    (hr : ((quiet s).taking (slotOf init tag) kind a).route (slotOf init tag) = .refuse g cause) :
    exec (.upstreamRequest init tag kind a) s = .next { quiet s with
      upstream := Safety.port s (slotOf init tag) (slotWith s kind a .answering none (some (.refused cause))) [] []
      groups := s.groups.set g (refusalCounted (s.group g))
      events := refusalEvents s g cause init } := by
  rw [exec_routed h hh hr, State.follow, refuse_eq, slotInit_slotOf, refusalMade_taking, setSlot_graft_taking, taking_slot_self]
  rfl

/-! ### The routes of a request just taken (R4 to R6) -/

theorem taking_windowOf {w : Window} (hw : s.windowOf a = some w) (i : Fin 16) :
    ((quiet s).taking i kind a).windowOf (((quiet s).taking i kind a).slot i).addr = some w := by
  rw [taking_slot_self]
  exact hw

/-- R5, R6: a request into a window of a group that is not OFF. -/
theorem route_taking {w : Window} (hw : s.windowOf a = some w) (hg : (s.group w.group).state ≠ .off) :
    ((quiet s).taking (slotOf init tag) kind a).route (slotOf init tag) =
      match kind with
      | .read =>
        if w.owners.getLsbD init.toNat && w.readOwn then
          (if (s.snapshot w.group a).covered = 0x0#4 then .pass
           else if (s.snapshot w.group a).covered = 0xF#4 then .covered (s.snapshot w.group a)
           else .forward (s.snapshot w.group a))
        else .pass
      | .write _ _ => if w.owners.getLsbD init.toNat then routeOwnWrite w (s.group w.group).state else routeForeignWrite w := by
  rw [route_window _ _ w (taking_windowOf hw _) (by exact hg), State.routeIn, taking_slot_self, slotInit_slotOf]
  cases kind <;> rfl

theorem not_holds {w : Window} (h : Accepts s init tag) (hw : s.windowOf a = some w) (hn : ¬ Holds s w a) :
    ((quiet s).taking (slotOf init tag) kind a).holds (slotOf init tag) = false :=
  Bool.eq_false_iff.2 fun e => hn ((holds_taking s _ kind a h.2.2 hw).1 e)

theorem writeEffect_taking (i : Fin 16) (w : Window) (b : Batch) (addr : WordAddr) (d : Word) (m : Mask) :
    writeEffect ((quiet s).taking i kind a) w b init addr d m = graft ((quiet s).taking i kind a) (writeEffect s w b init addr d m) := by
  have hr : stagingRefusal ((quiet s).taking i kind a) (((quiet s).taking i kind a).group w.group) b addr m =
      stagingRefusal s (s.group w.group) b addr m := rfl
  unfold writeEffect
  dsimp only
  rw [hr]
  cases stagingRefusal s (s.group w.group) b addr m with
  | some cause =>
    dsimp only
    rw [refusalMade_taking, tripSource_graft (s := (quiet s).taking i kind a) (v := refusalMade s w.group cause init) rfl rfl]
    by_cases ht : (s.group w.group).config.overflow = .trip
    · rw [if_pos ht]
      exact if_pos ht
    · rw [if_neg ht]
      exact if_neg ht
  | none =>
    cases w.isSealWord addr with
    | false => rfl
    | true =>
      have ho : (((quiet s).taking i kind a).group w.group).other = (s.group w.group).other := rfl
      rw [ho]
      cases (s.group w.group).other.isNone <;> rfl

theorem exec_staged {w : Window} {b : Batch} {d : Word} {m : Mask} (h : Accepts s init tag) (hw : s.windowOf a = some w)
    (hn : ¬ Holds s w a) (howner : w.owners.getLsbD init.toNat = true) (hst : (s.group w.group).state = .active)
    (ho : (s.group w.group).opened = some b) :
    exec (.upstreamRequest init tag (.write d m) a) s = .next (graft { quiet s with
      upstream := Safety.port s (slotOf init tag)
        (slotWith s (.write d m) a .answering none (some (writeAnswer s w (s.group w.group) b a m))) [] [] }
      (writeEffect s w b init a d m)) := by
  have hr := route_taking (init := init) (tag := tag) (kind := .write d m) hw (by simp [hst])
  simp only [howner, hst, if_true, routeOwnWrite] at hr
  rw [exec_routed h (not_holds h hw hn) hr, State.follow, taking_slot_self]
  dsimp only [slotWith]
  rw [stageSlot_eq (by exact hst) (by exact ho), slotInit_slotOf, taking_slot_self]
  dsimp only [slotWith]
  rw [writeEffect_taking, setSlot_graft_taking]
  rfl

end

/-- Settles O7. -/
theorem requestTurnedAway : Obligations.RequestTurnedAway := by
  intro init tag kind a s
  refine ⟨fun h => ?_, fun hr hs hf => ?_⟩
  · have hresetting : (quiet s).resetting = true := by
      rw [State.resetting, Bool.or_eq_true, softResetting_iff]
      exact h
    show Host.Outcome.next ((quiet s).upstreamRequest init tag kind a) = _
    rw [State.upstreamRequest, if_pos hresetting]
    rfl
  · have hresetting : (quiet s).resetting = false := by
      rw [State.resetting, Bool.or_eq_false_iff]
      exact ⟨hr, Bool.eq_false_iff.2 fun e => hs ((softResetting_iff (quiet s)).1 e)⟩
    have hbusy : ((quiet s).slot (slotOf init tag)).state ≠ .free := hf
    show Host.Outcome.next ((quiet s).upstreamRequest init tag kind a) = _
    rw [State.upstreamRequest, hresetting, if_neg (by simp), if_pos hbusy]
    rfl

/-- Settles O8, by the window of the word and the route that the window gives. -/
theorem requestPassedOrHeld : Obligations.RequestPassedOrHeld := by
  refine ⟨fun init tag kind a s h hw => ?_, fun init tag kind a n s h hw hh => ?_⟩
  · rcases hw with hw | ⟨n, hw, hh, hp⟩
    · refine exec_passed h (not_holds_taking s _ kind a hw) (route_pass _ _ (.inl ?_))
      rw [taking_slot_self]
      exact hw
    · refine exec_passed h (not_holds h hw hh) ?_
      generalize s.windows[n] = w at *
      by_cases hg : (s.group w.group).state = .off
      · exact route_pass _ _ (.inr ⟨w, taking_windowOf hw _, hg⟩)
      · rw [route_taking hw hg]
        rcases hp with hp | ⟨ho, rfl | hf⟩ | ⟨rfl, ho⟩
        · exact absurd hp hg
        · simp [ho]
        · cases kind with
          | read => simp [ho]
          | write d m => simp [ho, routeForeignWrite, hf]
        · simp [ho]
  · exact exec_held h ((holds_taking s _ kind a h.2.2 hw).2 hh)

/-- Settles O9, by the lanes that the snapshot covers. -/
theorem ownerReadForwarded : Obligations.OwnerReadForwarded := by
  intro init tag a n s h hw hh hg ho hr
  have hroute := route_taking (init := init) (tag := tag) (kind := .read) hw hg
  simp only [ho, hr, Bool.and_self, if_true] at hroute
  split
  · rw [if_pos ‹_›] at hroute
    exact exec_passed h (not_holds h hw hh) hroute
  · rw [if_neg ‹_›] at hroute
    split
    · rw [if_pos ‹_›] at hroute
      exact exec_covered h (not_holds h hw hh) hroute
    · rw [if_neg ‹_›] at hroute
      exact exec_forwarded h (not_holds h hw hh) hroute

theorem ownerRefusal_route {w : Window} {st : GroupState} {cause : RefusalCause} (h : ownerRefusal st = some cause) :
    routeOwnWrite w st = .refuse w.group cause := by
  cases st <;> cases h <;> rfl

/-- Settles O11: the writes refused at decode by their route, those refused by the pool by what staging answers. -/
theorem writeRefused : Obligations.WriteRefused := by
  refine ⟨fun init tag d m a n cause s h hw hh hg hc => ?_, fun init tag d m a n b cause s t h hw hh ho hst hb hj hc ht => ?_⟩
  · refine exec_refused h (not_holds h hw hh) ?_
    rw [route_taking hw hg]
    generalize s.windows[n] = w at *
    dsimp only
    split at hc
    · rw [if_pos ‹_›]
      exact ownerRefusal_route hc
    · obtain ⟨hf, rfl⟩ := hc
      rw [if_neg ‹_›, routeForeignWrite, hf]
  · set w := s.windows[n]
    have hr := stagingRefusal_some (s := s) (gr := s.group w.group) hj hc
    rw [exec_staged h hw hh ho hst hb, writeEffect, writeAnswer]
    dsimp only
    rw [hr]
    dsimp only
    have htrip : t.tripSource w.group (.pool (s.group w.group).held) = graft { quiet s with
        upstream := Safety.port s (slotOf init tag) (slotWith s (.write d m) a .answering none (some (.refused cause))) [] [] }
        ((refusalMade s w.group cause init).tripSource w.group (.pool (s.group w.group).held)) := by
      rw [ht]
      exact tripSource_graft (s := { quiet s with
        upstream := Safety.port s (slotOf init tag) (slotWith s (.write d m) a .answering none (some (.refused cause))) [] [] })
        (v := refusalMade s w.group cause init) rfl rfl w.group _
    rw [htrip, ht]
    split <;> rfl

/-- Settles O12: no refusal, then the seal word and the other batch. -/
theorem writeStaged : Obligations.WriteStaged := by
  refine ⟨fun init tag d m a n b s h hw hh ho hsw hst hb hj => ?_, fun init tag d m a n b gr s h hw hh ho hsw hst hb hj hgr => ?_⟩
  · set w := s.windows[n]
    rw [exec_staged h hw hh ho hst hb, writeEffect, writeAnswer]
    dsimp only
    rw [stagingRefusal_none hj]
    dsimp only
    rw [hsw]
    rfl
  · set w := s.windows[n]
    subst hgr
    rw [exec_staged h hw hh ho hst hb, writeEffect, writeAnswer]
    dsimp only
    rw [stagingRefusal_none hj]
    dsimp only
    have hother : (groupWith (s.group w.group) b a d m).other = (s.group w.group).other := rfl
    rw [hsw, hother]
    cases (s.group w.group).other.isNone <;> rfl

/-! ### Responses (R2, R12) -/

theorem slotInit_eq_iff (j i : Fin 16) : slotInit j = slotInit i ↔ j.val / 4 = i.val / 4 := by
  decide +revert

theorem waitsBehind_iff (s : State) (i : Fin 16) :
    s.waitsBehind i = true ↔ ∃ j : Fin 16, j ≠ i ∧ (s.slot j).state ≠ .free ∧ j.val / 4 = i.val / 4 ∧
      (s.slot j).addr = (s.slot i).addr ∧ (s.slot j).order < (s.slot i).order := by
  unfold State.waitsBehind
  simp only [List.any_eq_true, Bool.and_eq_true, bne_iff_ne, beq_iff_eq, decide_eq_true_eq, slotInit_eq_iff, and_assoc]
  exact ⟨fun ⟨j, _, h⟩ => ⟨j, h⟩, fun ⟨j, h⟩ => ⟨j, mem_slotNumbers j, h⟩⟩

/-- Settles O13, by the slot's state and its place behind an earlier request. -/
theorem responseIssued : Obligations.ResponseIssued := by
  rintro init tag p i s rfl
  set i := slotOf init tag with hi
  have hslot : (quiet s).slot i = s.slot i := rfl
  have hwait : (quiet s).waitsBehind i = s.waitsBehind i := rfl
  have hexec : exec (.responseIssue init tag) s = .next ((quiet s).issueResponse init tag) := rfl
  rw [hexec, State.issueResponse, ← hi]
  dsimp only
  rw [hslot, hwait]
  refine ⟨fun hst => ?_, fun hst hp => ⟨fun hb => ?_, fun hb => ?_⟩⟩
  · split
    · exact absurd ‹_› hst
    · rfl
  · rw [hst, hp]
    dsimp only
    rw [if_pos ((waitsBehind_iff s i).2 hb)]
  · rw [hst, hp]
    dsimp only
    rw [if_neg, reportBlocks_eq]
    · rfl
    · rw [waitsBehind_iff]
      rintro ⟨j, h1, h2, h3, h4, h5⟩
      exact absurd (hb j h1 h2 h3 h4) (Nat.not_le.2 h5)

end Sys2Proof.Machine

/-! PROOFS. Sections 5.7 and 5.8: the arbiter's grants (R10, R17, R89, R102, R104) and what an answer at the port does to the memory
(R100), to a PASS slot (R11) and to a PEEK or POKE (R163, R164). -/

namespace Sys2Proof.Machine

open Sys2Proof.Safety

/-! ### The arbiter's choice (R102) -/

/-- R102: the requester found first is the one that turn and waiting requesters give. -/
theorem choose_eq (s : State) : s.choose = granted s := by
  have hd : s.waiting .drain = s.drainWrite.isSome := rfl
  have hp : s.waiting .pass = !s.upstream.passQueue.isEmpty := rfl
  have hs : s.waiting .service = s.serviceFront.isSome := rfl
  unfold State.choose granted
  rw [← hd, ← hp, ← hs]
  cases s.port.turn <;> cases hd : s.waiting .drain <;> cases hp : s.waiting .pass <;> cases hs : s.waiting .service <;>
    simp [lookOrder, grantee, hd, hp, hs]

theorem waiting_of_granted {s : State} {x : Turn} (h : granted s = some x) : s.waiting x = true := by
  rw [← choose_eq] at h
  exact List.find?_some h

/-- R102: DRAIN is not passed over at its own grant. -/
theorem runAtDecision_drain {s : State} (h : granted s = some .drain) : s.runAtDecision = s.port.run := by
  have hd := waiting_of_granted h
  have hn : s.drainPassed = false := by
    unfold State.drainPassed
    rw [Bool.eq_false_iff]
    intro hc
    have := List.mem_takeWhile_imp (List.contains_iff_mem.1 hc)
    simp [hd] at this
  rw [State.runAtDecision, hn]
  rfl

/-- R102: the run count at a grant to PASS or SERVICE. -/
theorem runAtDecision_other {s : State} {x : Turn} (h : granted s = some x) (hx : x ≠ .drain) : s.runAtDecision = runCount s := by
  have hw := waiting_of_granted h
  have hd : s.drainWrite.isNone = !s.waiting .drain := by simp [State.waiting]
  have hs : s.serviceFront.isNone = !s.waiting .service := by simp [State.waiting]
  unfold State.runAtDecision runCount State.drainPassed
  rw [hd, hs]
  rw [← choose_eq, State.choose] at h
  cases x with
  | drain => exact absurd rfl hx
  | pass =>
    cases ht : s.port.turn <;> rw [ht] at h <;> cases hd : s.waiting .drain <;> cases hs : s.waiting .service <;>
      simp_all [lookOrder]
  | service =>
    cases ht : s.port.turn <;> rw [ht] at h <;> cases hd : s.waiting .drain <;> cases hp : s.waiting .pass <;>
      simp_all [lookOrder]

theorem exec_memoryGrant {s : State} (hr : s.inReset = false) (hc : s.port.current = none) :
    exec .memoryGrant s = .next (match granted s with
      | none => quiet s
      | some .drain => (quiet s).grantDrain
      | some .pass => (quiet s).grantPass
      | some .service => (quiet s).grantService) := by
  have hb : ((quiet s).inReset || (quiet s).port.current.isSome) = false := by simp [quiet, hr, hc]
  have hch : (quiet s).choose = granted s := choose_eq (quiet s)
  show Host.Outcome.next (quiet s).arbitrate = _
  rw [State.arbitrate, hb, hch]
  cases granted s with
  | none => rfl
  | some x => cases x <;> rfl

/-- Settles O15, by the requester granted. -/
theorem arbiterGrants : Obligations.ArbiterGrants := by
  intro s hr
  refine ⟨fun hc => ?_, fun hc => ⟨fun hg => ?_, fun hg x hx => ?_, fun hg i rest hq => ?_, fun hg r hf => ?_⟩⟩
  · have hb : ((quiet s).inReset || (quiet s).port.current.isSome) = true := by
      simp [quiet, Option.isSome_iff_ne_none.2 hc]
    show Host.Outcome.next (quiet s).arbitrate = _
    rw [State.arbitrate, if_pos hb]
  · rw [exec_memoryGrant hr hc, hg]
  · have hdw : (quiet s).drainWrite = some x := hx
    have hrun : (quiet s).runAtDecision = s.port.run := runAtDecision_drain (s := quiet s) hg
    rw [exec_memoryGrant hr hc, hg]
    dsimp only
    rw [State.grantDrain, hdw]
    dsimp only
    rw [State.grant, hrun, afterGrant]
    refine congrArg Host.Outcome.next ?_
    have hb : (quiet s).port.burst = s.port.burst := rfl
    rw [hb]
    split <;> rfl
  · have hpq : (quiet s).upstream.passQueue = i :: rest := hq
    have hrun : (quiet s).runAtDecision = runCount s := runAtDecision_other (s := quiet s) hg (by simp)
    rw [exec_memoryGrant hr hc, hg]
    dsimp only
    rw [State.grantPass, hpq]
    dsimp only
    rw [State.grant, hrun]
    rfl
  · have hsf : (quiet s).serviceFront = some r := hf
    have hrun : (quiet s).runAtDecision = runCount s := runAtDecision_other (s := quiet s) hg (by simp)
    rw [exec_memoryGrant hr hc, hg]
    dsimp only
    rw [State.grantService, hsf]
    dsimp only
    rw [State.grant, hrun]
    cases r <;> rfl

/-! ### Held words (R17, R89) -/

theorem serviceFront_apart {s : State} {r : ServiceRequest} {it : Item} (hf : s.serviceFront = some r) (hit : s.drain.current = some it)
    {a : WordAddr} (hr : s.serviceHeld r = s.wordHeld a) : s.wordGroup a ≠ some it.group := by
  intro hg
  have hn := List.find?_some hf
  rw [hr, State.wordHeld, hg] at hn
  simp [State.itemCurrent, hit] at hn

/-- Settles O16, by the requester granted. -/
theorem heldWordsNotGranted : Obligations.HeldWordsNotGranted := by
  intro it s hh hc hit
  refine ⟨(quiet s).arbitrate, rfl, fun tr htr hnd hnp => ?_⟩
  have hnone : (quiet s).port.current = none := hc
  rcases arbitrate_cases (quiet s) with h | ⟨-, -, ⟨-, h⟩ | ⟨-, h⟩ | ⟨-, h⟩⟩ <;> rw [h] at htr
  · rw [hnone] at htr
    cases htr
  · unfold State.grantDrain at htr
    split at htr
    · rw [hnone] at htr
      cases htr
    · obtain rfl : _ = tr := by simpa [State.grant] using htr
      exact absurd rfl hnd
  · unfold State.grantPass at htr
    split at htr
    · rw [hnone] at htr
      cases htr
    · rename_i i rest hq
      obtain rfl : _ = tr := by simpa [State.grant] using htr
      have hi : i ∈ s.upstream.passQueue := by
        have : s.upstream.passQueue = i :: rest := hq
        rw [this]
        exact List.mem_cons_self
      exact hh.1 it hit i hi
  · unfold State.grantService at htr
    split at htr
    · rw [hnone] at htr
      cases htr
    · rename_i r hf
      cases r with
      | probe w =>
        obtain rfl : _ = tr := by simpa [State.grant, State.markGranted, State.serviceTransaction] using htr
        exact absurd rfl (hnp w)
      | peek a =>
        obtain rfl : _ = tr := by simpa [State.grant, State.markGranted, State.serviceTransaction] using htr
        exact serviceFront_apart (s := quiet s) hf hit rfl
      | poke a d m =>
        obtain rfl : _ = tr := by simpa [State.grant, State.markGranted, State.serviceTransaction] using htr
        exact serviceFront_apart (s := quiet s) hf hit rfl

/-! ### The answer at the port (R100, R101) -/

/-- The port IDLE again, and the memory after the answer. -/
def State.acked (s : State) (x : Transaction) (e : Bool) (rd : Word) : State :=
  (s.setPort { s.port with current := none }).setMem (memoryAfter s.mem x e rd)

/-- R100, R101: one answered transaction. -/
theorem exec_performed {s : State} {x : Transaction} (hx : s.port.current = some x) (e : Bool) (rd : Word) :
    exec (.transactionPerformed e rd) s = .next
      ((((quiet s).acked x e rd).reportLanded x e).toRequester x.requester e (readWord s.mem x.addr rd)).reportClearance.reportBlocks := by
  have hq : (quiet s).port.current = some x := hx
  show Host.Outcome.next ((quiet s).performed e rd) = _
  rw [State.performed, hq]
  rfl

theorem foldl_same {α β : Type} {f : α → β → α} {a : α} {l : List β} (h : ∀ b ∈ l, f a b = a) : l.foldl f a = a := by
  induction l with
  | nil => rfl
  | cons b l ih =>
    rw [List.foldl_cons, h b List.mem_cons_self]
    exact ih fun c hc => h c (List.mem_cons_of_mem _ hc)

/-- R137, R138: a write of a word that no watch observes reaches no watch. -/
theorem landedWrite_unwatched {s : State} {a : WordAddr} (h : Unwatched s a) (d : Word) (m : Mask) (e : Bool) :
    s.landedWrite a d m e = s := by
  have hfold : watchNumbers.foldl (State.landedAt a d m e) s = s := by
    refine foldl_same fun w _ => ?_
    obtain ha | ha := ne_or_eq (s.watch w).addr a
    · unfold State.landedAt
      split
      · exact if_neg ha
      · rfl
      · rfl
    · obtain ⟨h1, h2⟩ := h w ha
      unfold State.landedAt
      split
      · rename_i f hf
        cases f
        · exact absurd hf h1
        · exact absurd hf h2
      · rfl
      · rfl
  rw [State.landedWrite, eachWatch_of_old _ _ (fun it hit _ => by rwa [hfold] at hit), hfold]

theorem unmarked_iff (s : State) (g : Fin 8) : s.unmarked g = true ↔ ∀ i : Fin 16, (s.slot i).returnMark ≠ some g := by
  simp [State.unmarked, mem_slotNumbers]

/-- R19: nothing to report where the flags are those of the marks. -/
theorem reportClearance_of_ok {s : State} (h : ClearanceOk s) : s.reportClearance = s := by
  refine reportClearance_of_clear s fun g hg => ?_
  rw [unmarked_iff] at hg
  rw [Bool.eq_false_iff, Ne, h g]
  exact fun ⟨i, hi⟩ => hg i hi

theorem toRequester_mem (s : State) (r : Requester) (e : Bool) (word : Word) : (s.toRequester r e word).mem = s.mem := by
  cases r with
  | pass i => exact (passPerformed_requestsOnly s i e word).mem
  | drain => exact (drainPerformed_engineOnly s e).mem
  | probe w => exact (probeResult_watchesOnly s w e word).mem
  | peek => cases e <;> rfl
  | poke => cases e <;> rfl

theorem reportBlocks_mem (s : State) : s.reportBlocks.mem = s.mem := by
  rw [reportBlocks_eq]
  unfold reported
  split <;> rfl

theorem reportClearance_mem (s : State) : s.reportClearance.mem = s.mem := by
  obtain ⟨_, h, -⟩ := reportClearance_spec s
  rw [h]
  rfl

/-! ### The memory (R100) -/

/-- R100: one byte after an answer. -/
theorem readByte_memoryAfter (m : List Host.Cell) (x : Transaction) (e : Bool) (rd : Word) (b : Nat) :
    readByte (memoryAfter m x e rd) b =
      if b / 4 = x.addr.toNat then
        (match x.kind, e with
          | .read, false => some ((readByte m b).getD (lane rd (b % 4)))
          | .read, true => readByte m b
          | .write d k, false => if k.getLsbD (b % 4) then some (lane d (b % 4)) else readByte m b
          | .write _ _, true => none)
      else readByte m b := by
  unfold memoryAfter
  cases x.kind with
  | read =>
    cases e with
    | true => simp
    | false =>
      have hlane : (0xF#4).getLsbD (b % 4) = true := by
        have h4 : b % 4 < 4 := Nat.mod_lt _ (by omega)
        interval_cases b % 4 <;> rfl
      dsimp only
      rw [readByte_writeWord, hlane]
      by_cases hb : b / 4 = x.addr.toNat
      · have ha : byteAddr x.addr (b % 4) = b := by
          unfold byteAddr
          omega
        rw [if_pos ⟨hb, rfl⟩, if_pos hb, lane_readWord _ _ _ _ (Nat.mod_lt _ (by omega)), ha]
      · rw [if_neg (fun h => hb h.1), if_neg hb]
  | write d k =>
    cases e with
    | true => exact readByte_forgetWord m x.addr b
    | false =>
      dsimp only
      rw [readByte_writeWord]
      by_cases hb : b / 4 = x.addr.toNat
      · simp only [hb, true_and, if_true]
      · simp only [hb, false_and, if_false]

/-- Settles O17. -/
theorem memoryAnswer : Obligations.MemoryAnswer := by
  intro x e rd b s hm hx
  have hmem : ((((quiet s).acked x e rd).reportLanded x e).toRequester x.requester e
      (readWord s.mem x.addr rd)).reportClearance.reportBlocks.mem = memoryAfter s.mem x e rd := by
    rw [reportBlocks_mem, reportClearance_mem, toRequester_mem, (reportLanded_watchesOnly _ x e).mem]
    rfl
  refine ⟨_, exec_performed hx e rd, ?_, fun hb => ?_, fun hb => ?_⟩
  · unfold MemoryOk
    rw [hmem]
    exact memoryWf_memoryAfter _ _ _ _ hm
  · rw [hmem, readByte_memoryAfter, if_neg hb]
  · rw [hmem]
    exact (readByte_memoryAfter s.mem x e rd b).trans (if_pos hb)

/-! ### PASS transactions (R11) -/

theorem passPerformed_self (s : State) (i : Fin 16) (e : Bool) (word : Word) :
    (s.passPerformed i e word).slot i = { s.slot i with
      state := .answering
      returnMark := none
      snapshot := if e then none else (s.slot i).snapshot
      prepared := some {
        performed := true
        response :=
          if e then .error .memory
          else match (s.slot i).kind with
            | .write _ _ => .done
            | .read => (s.slot i).readResponse word } } := by
  unfold State.passPerformed State.answer
  dsimp only
  cases e with
  | true => simp
  | false => cases (s.slot i).kind <;> simp

theorem reportBlocks_upstream (s : State) : s.reportBlocks.upstream = s.upstream := by
  rw [reportBlocks_eq]
  unfold reported
  split <;> rfl

theorem reportClearance_upstream (s : State) : s.reportClearance.upstream = s.upstream := by
  obtain ⟨_, h, -⟩ := reportClearance_spec s
  rw [h]
  rfl

theorem reportBlocks_current (s : State) : s.reportBlocks.port.current = s.port.current := by
  rw [reportBlocks_eq]
  unfold reported
  split
  · dsimp only
    split <;> rfl
  · rfl

theorem reportClearance_port (s : State) : s.reportClearance.port = s.port := by
  obtain ⟨_, h, -⟩ := reportClearance_spec s
  rw [h]
  rfl

theorem passPerformed_lists (s : State) (i : Fin 16) (e : Bool) (word : Word) :
    (s.passPerformed i e word).upstream.passQueue = s.upstream.passQueue ∧
      (s.passPerformed i e word).upstream.holdList = s.upstream.holdList := by
  unfold State.passPerformed State.answer
  dsimp only
  cases e with
  | true => exact ⟨rfl, rfl⟩
  | false => cases (s.slot i).kind <;> exact ⟨rfl, rfl⟩

/-- Settles O18, by what the PASS answer does to its slot and to the others. -/
theorem passAnswered : Obligations.PassAnswered := by
  intro i e rd s
  refine ⟨fun hc => ?_, fun hc => ?_⟩
  · have hq : (quiet s).port.current = none := hc
    show Host.Outcome.next ((quiet s).performed e rd) = _
    rw [State.performed, hq]
  · have hexec := exec_performed hc e rd
    have hv := reportLanded_watchesOnly ((quiet s).acked { requester := .pass i, kind := (s.slot i).kind, addr := (s.slot i).addr } e rd)
      { requester := .pass i, kind := (s.slot i).kind, addr := (s.slot i).addr } e
    generalize ((quiet s).acked { requester := .pass i, kind := (s.slot i).kind, addr := (s.slot i).addr } e rd).reportLanded
      { requester := .pass i, kind := (s.slot i).kind, addr := (s.slot i).addr } e = v at hexec hv
    generalize readWord s.mem (s.slot i).addr rd = word at hexec ⊢
    have hslot (j : Fin 16) : v.slot j = s.slot j := by
      unfold State.slot
      rw [hv.upstream]
      rfl
    have hlists := passPerformed_lists v i e word
    rw [hv.upstream] at hlists
    have hself := passPerformed_self v i e word
    have hother (j : Fin 16) (hj : i ≠ j) := passPerformed_slot v i j e word hj
    have hport := (passPerformed_requestsOnly v i e word).port
    simp only [hslot] at hself hother
    dsimp only [State.toRequester] at hexec
    generalize v.passPerformed i e word = u at *
    have hup : u.reportClearance.reportBlocks.upstream = u.upstream := by rw [reportBlocks_upstream, reportClearance_upstream]
    have hus (j : Fin 16) : u.reportClearance.reportBlocks.slot j = u.slot j := by
      unfold State.slot
      rw [hup]
    refine ⟨_, hexec, ?_, ?_, ?_, fun j hj => ?_, ?_⟩
    · rw [reportBlocks_current, reportClearance_port, hport]
      obtain ⟨_, _, _, _, _, _, rfl⟩ := hv
      rfl
    · rw [hup]
      exact hlists.1
    · rw [hup]
      exact hlists.2
    · rw [hus]
      exact hother j (Ne.symm hj)
    · rw [hus, hself]
      unfold Slot.readResponse
      generalize s.slot i = x
      obtain ⟨_, kind, _, _, snap, _, _⟩ := x
      cases e with
      | true => rfl
      | false => cases kind <;> cases snap <;> rfl

/-! ### PEEK and POKE (R163, R164) -/

/-- R157: the completed command leaves nothing to report. -/
theorem completed_settled {s : State} (h : ClearanceOk s) (status : Status) (code : Byte) (data : List Byte) :
    (s.completeCommand status code data).reportClearance.reportBlocks = s.completeCommand status code data := by
  rw [reportClearance_of_ok (s := s.completeCommand status code data) h, reportBlocks_of_not]
  rfl

/-- Settles O19. -/
theorem peekPokePerformed : Obligations.PeekPokePerformed := by
  intro a d m e rd s
  refine ⟨fun _ hc hcl => ?_, fun _ hc hcl hu => ?_⟩
  · rw [exec_performed hc e rd]
    dsimp only [State.reportLanded, State.toRequester, State.peekPerformed]
    cases e with
    | true =>
      rw [if_pos rfl, completed_settled (by exact hcl)]
      rfl
    | false =>
      rw [if_neg (by simp), completed_settled (by exact hcl)]
      rfl
  · rw [exec_performed hc e rd]
    dsimp only [State.reportLanded, State.toRequester, State.pokePerformed]
    rw [landedWrite_unwatched (by exact hu)]
    cases e with
    | true =>
      rw [if_pos rfl, completed_settled (by exact hcl)]
      rfl
    | false =>
      rw [if_neg (by simp), completed_settled (by exact hcl)]
      rfl

end Sys2Proof.Machine

/-! PROOFS. Section 1.1: a slot that is not FREE becomes FREE only as its prepared response is issued (R13). -/

namespace Sys2Proof.Machine

open Sys2Proof.Safety

theorem perform_eq (s : State) (x : Transaction) (e : Bool) (rd : Word) :
    s.perform x e rd =
      (((s.acked x e rd).reportLanded x e).toRequester x.requester e (readWord s.mem x.addr rd)).reportClearance.reportBlocks := rfl

/-- No slot becomes FREE from `s` to `t`. -/
def KeepsTaken (s t : State) : Prop := ∀ j : Fin 16, (s.slot j).state ≠ .free → (t.slot j).state ≠ .free

namespace KeepsTaken

variable {s t u : State}

@[refl] theorem refl (s : State) : KeepsTaken s s := fun _ h => h

theorem trans (h : KeepsTaken s t) (k : KeepsTaken t u) : KeepsTaken s u := fun j hj => k j (h j hj)

theorem of_slots (h : t.upstream.slots = s.upstream.slots) : KeepsTaken s t := fun j hj => by
  unfold State.slot at *
  rwa [h]

theorem of_groupsOnly (h : GroupsOnly s t) : KeepsTaken s t := of_slots (by rw [h.upstream])

theorem setSlot (s : State) (i : Fin 16) {x : Slot} (hx : x.state ≠ .free) : KeepsTaken s (s.setSlot i x) := fun j hj => by
  rw [setSlot_slot]
  split
  · exact hx
  · exact hj

theorem foldl {α : Type} {f : State → α → State} (hf : ∀ u a, KeepsTaken u (f u a)) (l : List α) (s : State) : KeepsTaken s (l.foldl f s) := by
  induction l generalizing s with
  | nil => exact .refl s
  | cons a l ih => exact (hf s a).trans (ih _)

theorem answer (s : State) (i : Fin 16) (r : Response) (p : Bool) : KeepsTaken s (s.answer i r p) := setSlot s i (by simp)

theorem refuse (s : State) (i : Fin 16) (g : Fin 8) (c : RefusalCause) : KeepsTaken s (s.refuse i g c) :=
  (answer s i _ _).trans (of_groupsOnly (reportRefusal_groupsOnly _ _ _ _))

theorem stageSlot (s : State) (i : Fin 16) (w : Window) (d : Word) (m : Mask) : KeepsTaken s (s.stageSlot i w d m) := by
  obtain ⟨p, hp⟩ := stageSlot_answered s i w d m
  exact (setSlot s i (by simp [Slot.answered])).trans (of_groupsOnly hp)

/-- R4 to R7: decode makes a slot QUEUED or answers it. -/
theorem follow (s : State) (i : Fin 16) (r : Route) : KeepsTaken s (s.follow i r) := by
  cases r with
  | pass => exact setSlot s i (by simp)
  | forward snap => exact setSlot s i (by simp)
  | covered snap =>
    intro j hj
    by_cases e : i = j
    · subst e
      simp [State.follow, State.answer]
    · simpa [State.follow, State.answer, e] using hj
  | stage w =>
    unfold State.follow
    dsimp only
    split
    · exact stageSlot s i w _ _
    · exact .refl s
  | refuse g c => exact refuse s i g c

/-- R1, R4: a taken request leaves its slot QUEUED, HELD or answered. -/
theorem takeRequest (s : State) (i : Fin 16) (kind : ReqKind) (a : WordAddr) : KeepsTaken s (s.takeRequest i kind a) := by
  have ht : KeepsTaken s (s.taking i kind a) := setSlot (s.setIndication .taken) i (by simp [Slot.taken])
  refine ht.trans ?_
  show KeepsTaken _ ((s.taking i kind a).decodeTaken i)
  unfold State.decodeTaken
  split
  · exact setSlot _ i (by simp)
  · dsimp only
    split
    · exact (follow _ i _).trans (of_slots rfl)
    · exact follow _ i _

theorem upstreamRequest (s : State) (init tag : BitVec 2) (kind : ReqKind) (a : WordAddr) :
    KeepsTaken s (s.upstreamRequest init tag kind a) := by
  unfold State.upstreamRequest
  split
  · exact of_slots rfl
  · split
    · exact of_slots rfl
    · exact takeRequest s _ kind a

theorem reportBlocks (s : State) : KeepsTaken s s.reportBlocks := of_slots (by rw [reportBlocks_upstream])

theorem reportClearance (s : State) : KeepsTaken s s.reportClearance := of_slots (by rw [reportClearance_upstream])

/-- R2: a response leaves the slots of the others as they are. -/
theorem issueResponse_other {init tag : BitVec 2} {j : Fin 16} (hj : slotOf init tag ≠ j) (h : (s.slot j).state ≠ .free) :
    ((s.issueResponse init tag).slot j).state ≠ .free := by
  unfold State.issueResponse
  dsimp only
  split
  · split
    · exact h
    · refine reportBlocks _ j ?_
      rwa [setSlot_slot, if_neg hj]
  · exact h

theorem grantPass (s : State) : KeepsTaken s s.grantPass := by
  unfold State.grantPass
  split
  · exact .refl s
  · exact setSlot _ _ (by simp)

theorem arbitrate (s : State) : KeepsTaken s s.arbitrate := by
  rcases arbitrate_cases s with h | ⟨-, -, ⟨-, h⟩ | ⟨-, h⟩ | ⟨-, h⟩⟩ <;> rw [h]
  · unfold State.grantDrain
    split <;> exact of_slots rfl
  · exact grantPass s
  · unfold State.grantService
    split
    · exact .refl s
    · rename_i r _
      cases r <;> exact of_slots rfl

theorem passPerformed (s : State) (i : Fin 16) (e : Bool) (word : Word) : KeepsTaken s (s.passPerformed i e word) := by
  intro j hj
  by_cases h : i = j
  · subst h
    rw [passPerformed_self]
    simp
  · rwa [passPerformed_slot s i j e word h]

theorem toRequester (s : State) (r : Requester) (e : Bool) (word : Word) : KeepsTaken s (s.toRequester r e word) := by
  cases r with
  | pass i => exact passPerformed s i e word
  | drain => exact of_slots (by rw [State.toRequester, (drainPerformed_engineOnly s e).upstream])
  | probe w => exact of_slots (by rw [State.toRequester, (probeResult_watchesOnly s w e word).upstream])
  | peek => cases e <;> exact of_slots rfl
  | poke => cases e <;> exact of_slots rfl

theorem performed (s : State) (e : Bool) (rd : Word) : KeepsTaken s (s.performed e rd) := by
  unfold State.performed
  split
  · exact .refl s
  · rename_i x _
    rw [perform_eq]
    have ha : KeepsTaken s (s.acked x e rd) := of_slots rfl
    have hl : KeepsTaken (s.acked x e rd) ((s.acked x e rd).reportLanded x e) := of_slots (by rw [(reportLanded_watchesOnly _ x e).upstream])
    exact (ha.trans hl).trans ((toRequester _ _ _ _).trans ((reportClearance _).trans (reportBlocks _)))

/-- R15: an item's start makes slots HELD. -/
theorem holdAtStart (s : State) (g : Fin 8) : KeepsTaken s (s.holdAtStart g) :=
  (of_slots (s := s) (t := (s.setPassQueue (s.upstream.passQueue.filter (fun i => !s.slotIn g i))).setHoldList
    (s.upstream.holdList ++ s.upstream.passQueue.filter (s.slotIn g))) rfl).trans
    (foldl (f := fun u i => u.setSlot i { u.slot i with state := .held }) (fun u i => setSlot u i (by simp)) _ _)

theorem decideItem (s : State) : KeepsTaken s s.decideItem := by
  unfold State.decideItem
  split
  · exact .refl s
  · split
    · rename_i it _
      have hm : KeepsTaken s (s.makeCurrent it) := of_slots rfl
      exact (hm.trans (holdAtStart _ it.group)).trans (of_slots (by rw [(takeItem_engineOnly s it).upstream]))
    · exact .refl s

/-- R18: the held requests are decided again. -/
theorem returnHeld (s : State) (g : Fin 8) : KeepsTaken s (s.returnHeld g) := by
  have hfold (l : List (Fin 16)) (acc : State × List (Fin 16)) : KeepsTaken acc.1 (l.foldl reDecode acc).1 := by
    induction l generalizing acc with
    | nil => exact .refl _
    | cons i l ih => exact (follow acc.1 i (acc.1.route i)).trans (ih (reDecode acc i))
  unfold State.returnHeld
  dsimp only
  have h1 : KeepsTaken s (s.setHoldList (s.upstream.holdList.filter (fun i => !s.slotIn g i))) := of_slots rfl
  have hmark (r : State × List (Fin 16)) : KeepsTaken r.1 (r.2.foldl (fun s i => s.setSlot i { s.slot i with returnMark := some g })
      (r.1.setPassQueue (r.2 ++ r.1.upstream.passQueue))) := by
    have hq : KeepsTaken r.1 (r.1.setPassQueue (r.2 ++ r.1.upstream.passQueue)) := of_slots rfl
    refine hq.trans (foldl (f := fun u i => u.setSlot i { u.slot i with returnMark := some g }) (fun u i j hj => ?_) _ _)
    rw [setSlot_slot]
    split
    · rename_i e
      subst e
      exact hj
    · exact hj
  exact (h1.trans (hfold (s.upstream.holdList.filter (s.slotIn g)) (_, []))).trans (hmark _)

theorem endItem (s : State) : KeepsTaken s s.endItem := by
  unfold State.endItem
  split
  · exact .refl s
  · rename_i it _
    split
    · rw [reportEnd_eq]
      have hi : KeepsTaken (s.returnHeld it.group) (s.itemEnded it.group) := of_slots rfl
      exact ((returnHeld s it.group).trans hi).trans ((reportClearance _).trans (reportBlocks _))
    · exact .refl s

/-- R21: a slot that is not FREE is not freed by a soft reset. -/
theorem softReset_slot {x : Slot} (h : x.state ≠ .free) : x.softReset.state ≠ .free := by
  unfold Slot.softReset
  dsimp only
  split
  · exact h
  · exact h
  · simp
  · simp
  · split
    · split
      · exact h
      · simp
    · simp

theorem softResetBody (s : State) : KeepsTaken s (softResetBody s) := by
  unfold Machine.softResetBody
  dsimp only
  set v := (s.makePending .softReset).setLink { (s.makePending .softReset).link with reports := BlockReports.reset } with hv
  have hb : KeepsTaken s v.softResetBlocks := fun j hj => by
    unfold State.slot
    rw [(softResetBlocks_upstream v).1]
    have hx : v.softResetSlots.upstream.slots[j] = (s.slot j).softReset := by
      simp [State.softResetSlots, State.slot, hv, State.makePending, State.setLink, State.writeResult]
    rw [hx]
    exact softReset_slot hj
  refine (hb.trans ((reportClearance _).trans (reportBlocks _))).trans ?_
  obtain ⟨_, _, _, h, -⟩ := tryComplete_frame v.softResetBlocks.reportClearance.reportBlocks
  exact of_slots (by rw [h])

end KeepsTaken

theorem slotTag_slotOf (init tag : BitVec 2) : slotTag (slotOf init tag) = tag := by
  decide +revert

/-- R13: a slot that is not FREE stays so, but for the issue of its response and for a power-on reset. -/
theorem taken_kept (i : Fin 16) :
    CoreKept (fun c => c ≠ .responseIssue (slotInit i) (slotTag i) ∧ c ≠ .powerOnReset) (fun s => (s.slot i).state ≠ .free) where
  peripheral s t ht := KeepsTaken.of_slots (by rw [ht.upstream]) i
  newCycle s := KeepsTaken.of_slots (s := s) rfl i
  settleMarkAt s w := KeepsTaken.of_slots (s := s) (by rw [(settleMarkAt_watchesOnly s w).upstream]) i
  upstreamRequest s init tag kind a := KeepsTaken.upstreamRequest s init tag kind a i
  issueResponse s init tag hc h := by
    refine KeepsTaken.issueResponse_other (fun e => hc.1 ?_) h
    rw [← e]
    rw [slotInit_slotOf, slotTag_slotOf]
  arbitrate s := KeepsTaken.arbitrate s i
  performed s e rd _ := KeepsTaken.performed s e rd i
  decideItem s := KeepsTaken.decideItem s i
  endItem s _ := KeepsTaken.endItem s i
  writeWindow n f s d t _ h hok := by
    obtain ⟨rfl, -⟩ := writeWindow_ok hok
    exact h
  writeWatch w f s d t _ h hok := by
    dsimp only [State.writeWatch, written] at hok
    repeat' split at hok
    all_goals cases hok
    exact h
  writeMemport b s d t _ h hok := by
    dsimp only [State.writeMemport, written] at hok
    split at hok <;> cases hok
    exact h
  arm w s d t _ h hok := by
    dsimp only [State.arm] at hok
    split at hok <;> cases hok
    exact h
  disarm w s d t _ h hok := by
    dsimp only [State.disarm] at hok
    split at hok <;> cases hok
    exact KeepsTaken.of_slots (by rw [(disarmWatch_watchesOnly s w).upstream]) i h
  newReference r m w s d t _ h hok := by
    cases hok
    exact KeepsTaken.of_slots (by rw [(setReference_watchesOnly s w r m).upstream]) i h
  startPeek a s t _ h hok := by
    unfold State.startPeek at hok
    split at hok <;> cases hok
    exact h
  startPoke a d m s t _ h hok := by
    unfold State.startPoke at hok
    split at hok
    · cases hok
    · split at hok <;> cases hok
      exact h
  softReset s _ := KeepsTaken.softResetBody s i
  tryComplete s _ h := by
    obtain ⟨_, _, _, e, -⟩ := tryComplete_frame s
    exact KeepsTaken.of_slots (by rw [e]) i h
  powerOn s hc := absurd rfl hc.2

theorem slotOf_parts (i : Fin 16) : slotOf (slotInit i) (slotTag i) = i := by
  decide +revert

/-- Settles O14: any other command keeps the slot taken (`taken_kept`), and RESPONSE_ISSUE frees it as it presents its response. -/
theorem oneResponse : Obligations.OneResponse := by
  intro c i s t _ _ _ he hp ht hf
  by_cases hc : c = .responseIssue (slotInit i) (slotTag i)
  · subst hc
    have hexec : exec (.responseIssue (slotInit i) (slotTag i)) s = .next ((quiet s).issueResponse (slotInit i) (slotTag i)) := rfl
    obtain rfl := Host.Outcome.next.inj (hexec.symm.trans he)
    unfold State.issueResponse at hf ⊢
    rw [slotOf_parts] at *
    have hslot : (quiet s).slot i = s.slot i := rfl
    dsimp only at hf ⊢
    rw [hslot] at hf ⊢
    split at hf
    · rename_i p hst hpr
      split at hf
      · exact absurd hf ht
      · rename_i hw
        refine ⟨rfl, hst, p, hpr, ?_⟩
        rw [if_neg hw, reportBlocks_upstream]
        rfl
    · exact absurd hf ht
  · exact absurd hf ((taken_kept i).kept.exec c s t ⟨hc, hp⟩ ht he)

end Sys2Proof.Machine

/-! PROOFS. Sections 3.5 and 5.3: a DRAINING batch loses its entries only as the engine writes them, in order (R90, R92). -/

namespace Sys2Proof.Machine

open Sys2Proof.Safety

/-- The group's other batch is `b`, and the engine has an item current that does not end. -/
structure BeingDrained (g : Fin 8) (b : Batch) (s : State) : Prop where
  other : (s.group g).other = some b
  busy : s.drain.current ≠ none
  writing : s.drain.progress ≠ .ending

theorem Group.discard_other_of_draining {gr : Group} (h : gr.draining = true) : gr.discard.other = gr.other := if_pos h

namespace BeingDrained

variable {g : Fin 8} {b : Batch} {s t : State}

theorem congr (h : BeingDrained g b s) (hg : (t.group g).other = (s.group g).other) (hd : t.drain = s.drain) : BeingDrained g b t :=
  ⟨hg.trans h.other, by rw [hd]; exact h.busy, by rw [hd]; exact h.writing⟩

theorem groupsOnly (h : BeingDrained g b s) (k : GroupsOnly s t) (hg : (t.group g).other = (s.group g).other) : BeingDrained g b t :=
  h.congr hg k.drain

theorem setGroup (h : BeingDrained g b s) (k : Fin 8) {x : Group} (hx : x.other = (s.group k).other) : BeingDrained g b (s.setGroup k x) :=
  h.congr (by
    rw [setGroup_group]
    split
    · rename_i e
      rw [hx, e]
    · rfl) rfl

theorem submit (h : BeingDrained g b s) (e : EventBody) : BeingDrained g b (s.submit e) :=
  h.groupsOnly (submit_groupsOnly s e) (by rw [submit_group])

variable (hb : b.state = .draining)
include hb

theorem draining (h : BeingDrained g b s) : (s.group g).draining = true := by
  simp [Group.draining, h.other, hb]

theorem discardBatches (h : BeingDrained g b s) (k : Fin 8) : BeingDrained g b (s.discardBatches k) :=
  h.groupsOnly (discardBatches_groupsOnly s k) (by
    rw [discardBatches_group]
    split
    · rename_i e
      subst e
      exact Group.discard_other_of_draining (h.draining hb)
    · rfl)

/-- R115: a trip keeps a DRAINING batch. -/
theorem tripSource (h : BeingDrained g b s) (k : Fin 8) (x : TripSource) : BeingDrained g b (s.tripSource k x) := by
  rcases tripSource_cases s k x with ⟨-, e⟩ | ⟨-, -, e⟩ | ⟨-, -, e⟩ <;> rw [e]
  · exact h
  · refine h.groupsOnly (firstTrip_onlyGroup s k x).frame ?_
    rw [firstTrip_group]
    split
    · rename_i e
      subst e
      exact Group.discard_other_of_draining (h.draining hb)
    · rfl
  · exact h.setGroup k (by rfl)

/-- R78: only a SEALED batch is queued. -/
theorem queueOther (h : BeingDrained g b s) {k : Fin 8} (hk : ∀ d, (s.group k).other = some d → d.state = .closed) :
    BeingDrained g b (s.queueOther k) := by
  have hne : k ≠ g := by
    rintro rfl
    rw [hk b h.other] at hb
    cases hb
  exact h.groupsOnly (queueOther_onlyGroup s k).frame (by rw [(queueOther_onlyGroup s k).others g (Ne.symm hne)])

omit hb in
theorem sealOpen (h : BeingDrained g b s) {k : Fin 8} (hk : (s.group k).other = none) (c : SealCause) : BeingDrained g b (s.sealOpen k c) := by
  have hne : k ≠ g := by
    rintro rfl
    rw [h.other] at hk
    cases hk
  exact h.groupsOnly (sealOpen_onlyGroup s k c).frame (by rw [(sealOpen_onlyGroup s k c).others g (Ne.symm hne)])

omit hb in
theorem sealRequest (h : BeingDrained g b s) (k : Fin 8) (c : SealCause) : BeingDrained g b (s.sealRequest k c).1 := by
  rcases sealRequest_cases s k c with ⟨o, -, -, hn, e⟩ | ⟨o, -, -, -, -, e⟩ | ⟨o, -, -, -, e⟩ | ⟨e, -⟩ <;> rw [e]
  · exact h.sealOpen hn c
  · exact h.setGroup k (by rfl)
  · exact h
  · exact h

omit hb in
theorem clearGroup (h : BeingDrained g b s) (k : Fin 8) (c : ClearCause) (f : Bool) : BeingDrained g b (s.clearGroup k c f) :=
  (h.setGroup k (by rfl)).submit _

theorem releasePoint (h : BeingDrained g b s) (k : Fin 8) : BeingDrained g b (s.releasePoint k).1 := by
  rcases releasePoint_cases s k with ⟨e, -⟩ | ⟨-, ⟨-, hn, e⟩ | ⟨d, -, hd, hc, e⟩ | ⟨d, -, hd, -, e⟩ | ⟨-, -, e⟩⟩ <;> rw [e]
  · exact h
  · have hm : BeingDrained g b ((s.setGroup k { s.group k with
        misses := bump (s.group k).misses, consecutive := satInc Config.missesMax (s.group k).consecutive }).submit
        (.releaseMissed k (((s.group k).opened.map (·.seq)).getD 0) (satInc Config.missesMax (s.group k).consecutive))) :=
      (h.setGroup k (by rfl)).submit _
    unfold State.miss
    dsimp only
    split
    · exact hm.tripSource hb k _
    · exact hm
  · refine (h.setGroup k (x := { s.group k with consecutive := 0 }) rfl).queueOther hb fun x hx => ?_
    rw [setGroup_group, if_pos rfl] at hx
    rw [← Option.some.inj (hd.symm.trans hx)]
    exact hc
  · exact (h.setGroup k (by rfl)).submit _
  · exact h.clearGroup k _ _

theorem candidate (h : BeingDrained g b s) (k : Fin 8) : BeingDrained g b (s.candidate k) := by
  rcases candidate_cases s k with ⟨-, e⟩ | ⟨-, ⟨-, e⟩ | ⟨-, e⟩⟩ <;> rw [e]
  · exact h
  · exact h.setGroup k (by rfl)
  · exact (h.setGroup k (by rfl)).releasePoint hb k

theorem watchClosed : WatchClosed (BeingDrained g b) where
  setWatch s w x _ _ h := h.congr rfl rfl
  setService s l h := h.congr rfl rfl
  submit s e h := h.submit e
  tripSource s k x h := h.tripSource hb k x
  reorder s before h := h.congr rfl rfl

theorem schedulerClosed : SchedulerClosed (BeingDrained g b) where
  setBase s c x h := by cases c <;> exact h.congr rfl rfl
  setReleaseLine s n x h := h.congr rfl rfl
  setFaultLine s n x h := h.congr rfl rfl
  candidate s k h := h.candidate hb k
  tripSource s k x h := h.tripSource hb k x
  settleMarks s c h := (watchClosed hb).settleMarks c h
  newCycle s h := h.congr rfl rfl

/-! ### Requests -/

omit hb in
theorem stageEntry (h : BeingDrained g b s) (k : Fin 8) (d : Batch) (a : WordAddr) (w : Word) (m : Mask) :
    BeingDrained g b (s.stageEntry k d a w m).1 := by
  rcases stageEntry_cases s k d a w m with ⟨-, e⟩ | ⟨-, -, e⟩ | ⟨-, -, -, e⟩ | ⟨-, -, -, -, e⟩ | ⟨-, -, -, -, e⟩ <;> rw [e]
  · exact h
  · exact h.setGroup k (by rfl)
  · exact h
  · exact h
  · exact (h.setGroup k (x := { s.group k with opened := some (d.append a w m), held := (s.group k).held + 1 }) rfl).congr rfl rfl

omit hb in
theorem stage (h : BeingDrained g b s) (k : Fin 8) (a : WordAddr) (w : Word) (m : Mask) (sw : Bool) :
    BeingDrained g b (s.stage k a w m sw).1 := by
  unfold State.stage
  split
  · exact h
  · rename_i d _
    have he := h.stageEntry k d a w m
    split
    · rename_i heq
      rw [heq] at he
      exact he
    · rename_i heq
      rw [heq] at he
      split
      · exact he.sealRequest k _
      · exact he

omit hb in
theorem refuse (h : BeingDrained g b s) (i : Fin 16) (k : Fin 8) (c : RefusalCause) : BeingDrained g b (s.refuse i k c) := by
  rw [refuse_eq]
  exact (h.setGroup k (x := refusalCounted (s.group k)) rfl).congr rfl rfl

theorem stageSlot (h : BeingDrained g b s) (i : Fin 16) (w : Window) (d : Word) (m : Mask) : BeingDrained g b (s.stageSlot i w d m) := by
  have hst := h.stage w.group (s.slot i).addr d m (w.isSealWord (s.slot i).addr)
  unfold State.stageSlot
  split
  · rename_i heq
    rw [heq] at hst
    exact hst.congr rfl rfl
  · rename_i heq
    rw [heq] at hst
    have hr := hst.refuse i w.group
    dsimp only
    split
    · exact (hr _).tripSource hb _ _
    · exact hr _

theorem follow (h : BeingDrained g b s) (i : Fin 16) (r : Route) : BeingDrained g b (s.follow i r) := by
  cases r with
  | pass => exact h.congr rfl rfl
  | forward snap => exact h.congr rfl rfl
  | covered snap => exact h.congr rfl rfl
  | stage w =>
    unfold State.follow
    dsimp only
    split
    · exact h.stageSlot hb i w _ _
    · exact h
  | refuse k c => exact h.refuse i k c

theorem upstreamRequest (h : BeingDrained g b s) (init tag : BitVec 2) (kind : ReqKind) (a : WordAddr) :
    BeingDrained g b (s.upstreamRequest init tag kind a) := by
  unfold State.upstreamRequest
  split
  · exact h.congr rfl rfl
  · split
    · exact h.congr rfl rfl
    · have ht : BeingDrained g b (s.taking (slotOf init tag) kind a) := h.congr rfl rfl
      show BeingDrained g b ((s.taking (slotOf init tag) kind a).decodeTaken (slotOf init tag))
      unfold State.decodeTaken
      split
      · exact ht.congr rfl rfl
      · have hf := ht.follow hb (slotOf init tag) ((s.taking (slotOf init tag) kind a).route (slotOf init tag))
        dsimp only
        split
        · exact hf.congr rfl rfl
        · exact hf

/-! ### Engine, port and link -/

omit hb in
theorem reportBlocks (h : BeingDrained g b s) : BeingDrained g b s.reportBlocks := by
  rw [reportBlocks_eq]
  unfold reported
  split
  · exact h.congr rfl rfl
  · exact h

omit hb in
theorem reportClearance (h : BeingDrained g b s) : BeingDrained g b s.reportClearance := by
  obtain ⟨v, e, -⟩ := reportClearance_spec s
  rw [e]
  exact ⟨h.other, h.busy, h.writing⟩

omit hb in
theorem issueResponse (h : BeingDrained g b s) (init tag : BitVec 2) : BeingDrained g b (s.issueResponse init tag) := by
  unfold State.issueResponse
  dsimp only
  split
  · split
    · exact h
    · exact reportBlocks (h.congr rfl rfl)
  · exact h

omit hb in
theorem arbitrate (h : BeingDrained g b s) : BeingDrained g b s.arbitrate := by
  obtain ⟨_, _, _, e⟩ := arbitrate_eq s
  rw [e]
  exact h.congr rfl rfl

omit hb in
/-- R87: the engine takes no item while one is current. -/
theorem decideItem (h : BeingDrained g b s) : BeingDrained g b s.decideItem := by
  unfold State.decideItem
  rw [if_pos (by simp [Option.isSome_iff_ne_none.2 h.busy])]
  exact h

omit hb in
/-- R96: an item that is written does not end. -/
theorem endItem (h : BeingDrained g b s) : BeingDrained g b s.endItem := by
  unfold State.endItem
  split
  · exact h
  · rw [if_neg h.writing]
    exact h

omit hb in
theorem tryComplete (h : BeingDrained g b s) : BeingDrained g b s.tryComplete := by
  obtain ⟨gs, e, l, ht, hgs⟩ := tryComplete_frame s
  rw [ht]
  refine h.congr ?_ rfl
  show (gs[g]).other = _
  rcases hgs g with e | e <;> rw [e]
  rfl

theorem stopDiscard (h : BeingDrained g b s) (k : Fin 8) : BeingDrained g b (s.stopDiscard k) := by
  have hd := h.discardBatches hb k
  unfold State.stopDiscard
  dsimp only
  split
  · exact hd.setGroup k (by rfl)
  · exact (hd.setGroup k (by rfl)).submit _

theorem stopFlush (h : BeingDrained g b s) (k : Fin 8) : BeingDrained g b (s.stopFlush k) := by
  rcases stopFlush_cases s k with ⟨hn, e⟩ | ⟨d, hd, hc, e⟩ | ⟨d, hd, hc, e⟩ <;> rw [e]
  · exact (h.setGroup k (by rfl)).sealOpen (by simpa using hn) _
  · refine (h.setGroup k (by rfl)).queueOther hb fun x hx => ?_
    rw [setGroup_group, if_pos rfl] at hx
    rw [← Option.some.inj (hd.symm.trans hx)]
    exact hc
  · exact h.setGroup k (by rfl)

theorem softResetBody (h : BeingDrained g b s) : BeingDrained g b (softResetBody s) := by
  unfold Machine.softResetBody
  dsimp only
  set v := (s.makePending .softReset).setLink { (s.makePending .softReset).link with reports := BlockReports.reset }
  have hv : BeingDrained g b v := h.congr rfl rfl
  have hbl : BeingDrained g b v.softResetBlocks := by
    obtain ⟨gs, n, e, hg, -⟩ := softResetBlocks_spec v
    rw [e]
    refine foldl_keeps (fun u w hu => (watchClosed hb).softResetWatch w hu) _ _ (hv.congr ?_ rfl)
    show (gs[g]).other = _
    rw [hg g]
    show (v.group g).discard.other = (v.group g).other
    exact Group.discard_other_of_draining (hv.draining hb)
  exact hbl.reportClearance.reportBlocks.tryComplete

end BeingDrained

/-! ### The answer at the port -/

section
variable {g : Fin 8} {b : Batch} {s : State} (hb : b.state = .draining)
include hb

/-- R101: an answer to a requester other than the engine. -/
theorem BeingDrained.toRequester (h : BeingDrained g b s) {r : Requester} (hr : r ≠ .drain) (e : Bool) (word : Word) :
    BeingDrained g b (s.toRequester r e word) := by
  cases r with
  | pass i =>
    unfold State.toRequester State.passPerformed
    dsimp only
    split
    · exact h.congr rfl rfl
    · split <;> exact h.congr rfl rfl
  | drain => exact absurd rfl hr
  | probe w => exact (watchClosed hb).probeResult w e word h
  | peek => cases e <;> exact h.congr rfl rfl
  | poke => cases e <;> exact h.congr rfl rfl

theorem BeingDrained.acked (h : BeingDrained g b s) (x : Transaction) (e : Bool) (rd : Word) :
    BeingDrained g b ((s.acked x e rd).reportLanded x e) := by
  have ha : BeingDrained g b (s.acked x e rd) := h.congr rfl rfl
  unfold State.reportLanded
  split
  · exact (watchClosed hb).landedWrite _ _ _ _ ha
  · exact ha

/-- R86: what `BatchesOk` says of a DRAINING batch. -/
theorem BeingDrained.of_batchesOk (hs : BatchesOk s) (ho : (s.group g).other = some b) :
    BeingDrained g b s ∧ s.drain.current = some (.batch g b.seq) ∧ s.drain.progress = .writing := by
  obtain ⟨-, -, -, ⟨hd, -, -⟩, -⟩ := hs
  obtain ⟨hc, hp, -⟩ := hd g b ho hb
  exact ⟨⟨ho, by simp [hc], by simp [hp]⟩, hc, hp⟩

end

/-- What every command but an answer at the port and a power-on reset leaves of a DRAINING batch. -/
theorem beingDrained_kept {g : Fin 8} {b : Batch} (hb : b.state = .draining) :
    KeptBy (fun c => (∀ e rd, c ≠ .transactionPerformed e rd) ∧ c ≠ .powerOnReset) (BeingDrained g b) where
  pending s q h := h.congr rfl rfl
  newCycle s h := h.congr rfl rfl
  setLink s l _ _ h := h.congr rfl rfl
  upstreamRequest s init tag kind a h := h.upstreamRequest hb init tag kind a
  issueResponse s init tag _ h := h.issueResponse init tag
  arbitrate s h := h.arbitrate
  performed s e rd hc := absurd rfl (hc.1 e rd)
  decideItem s h := h.decideItem
  endItem s _ h := h.endItem
  tickBase s c h := (BeingDrained.schedulerClosed hb).tickBase c h
  mark s c h := (BeingDrained.schedulerClosed hb).mark c h
  settleMarkAt s w h := (BeingDrained.watchClosed hb).settleMarkAt w h
  sampleReleaseLine s n high cycles h := (BeingDrained.schedulerClosed hb).sampleReleaseLine n high cycles h
  sampleFaultLine s n high cycles h := (BeingDrained.schedulerClosed hb).sampleFaultLine n high cycles h
  cycle s h := (BeingDrained.schedulerClosed hb).cycle h
  writeWindow n f s d t _ h hok := by
    obtain ⟨rfl, -⟩ := writeWindow_ok hok
    exact h.congr rfl rfl
  writeGroup k f s d t _ h hok := by
    dsimp only [State.writeGroup, written] at hok
    repeat' split at hok
    all_goals cases hok
    exact h.setGroup k (by rfl)
  writeSafe n f s d t _ h hok := by
    dsimp only [State.writeSafe, written] at hok
    repeat' split at hok
    all_goals cases hok
    exact h.congr rfl rfl
  writeWatch w f s d t _ h hok := by
    dsimp only [State.writeWatch, written] at hok
    repeat' split at hok
    all_goals cases hok
    exact h.congr rfl rfl
  writeTimebase i c f _ _ := (BeingDrained.schedulerClosed hb).writeTimebase i c f
  writeLines f := (BeingDrained.schedulerClosed hb).writeLines f
  writeMemport x s d t _ h hok := by
    dsimp only [State.writeMemport, written] at hok
    split at hok <;> cases hok
    exact h.congr rfl rfl
  startGroup k s d t _ h hok := by
    dsimp only [State.startGroup] at hok
    repeat' split at hok
    all_goals cases hok
    exact h.setGroup k (by rfl)
  groupStopDiscard k s d t _ h hok := by
    dsimp only [State.groupStopDiscard] at hok
    split at hok <;> cases hok
    · exact h.stopDiscard hb k
    · exact h.stopDiscard hb k
    · exact (h.setGroup k (by rfl)).submit _
  groupStopFlush k s d t _ h hok := by
    dsimp only [State.groupStopFlush] at hok
    split at hok <;> cases hok
    · exact h.stopFlush hb k
    · exact h
    · exact (h.setGroup k (by rfl)).submit _
  sealGroup k s d t _ h hok := by
    dsimp only [State.sealGroup] at hok
    split at hok <;> cases hok
    exact h.sealRequest k _
  releaseGroup k s d t _ h hok := by
    dsimp only [State.releaseGroup] at hok
    split at hok <;> cases hok
    exact h.releasePoint hb k
  clearCounters s k h := h.setGroup k (by rfl)
  forceFault k s d t _ h hok := by
    dsimp only [State.forceFault] at hok
    split at hok <;> cases hok <;> exact h.tripSource hb k _
  clearFault k force s d t _ h hok := by
    dsimp only [State.clearFault, State.clearFaulted] at hok
    repeat' split at hok
    all_goals cases hok
    exact h.clearGroup k _ _
  arm w s d t _ h hok := by
    dsimp only [State.arm] at hok
    split at hok <;> cases hok
    exact (BeingDrained.watchClosed hb).armWatch w h
  disarm w s d t _ h hok := by
    dsimp only [State.disarm] at hok
    split at hok <;> cases hok
    exact (BeingDrained.watchClosed hb).disarmWatch w h
  newReference r m w s d t _ h hok := by
    cases hok
    exact (BeingDrained.watchClosed hb).setReference w r m h
  startBase c := (BeingDrained.schedulerClosed hb).controlBases c _ _
  stopBase c := (BeingDrained.schedulerClosed hb).controlBases c _ _
  zeroBase c := (BeingDrained.schedulerClosed hb).controlBases c _ _
  pop s d t _ h hok := by
    dsimp only [State.pop] at hok
    split at hok <;> cases hok
    · exact h
    · exact h.congr rfl rfl
  startPeek a s t _ h hok := by
    unfold State.startPeek at hok
    split at hok <;> cases hok
    exact h.congr rfl rfl
  startPoke a d m s t _ h hok := by
    unfold State.startPoke at hok
    split at hok
    · cases hok
    · split at hok <;> cases hok
      exact h.congr rfl rfl
  softReset s _ h := h.softResetBody hb
  tryComplete s _ h := h.tryComplete
  powerOn s hc := absurd rfl hc.2
  powerOnEnd s r f h := by
    unfold State.powerOnEnd
    split
    · exact h.congr rfl rfl
    · exact h

/-- R90: the answered write of the engine takes the first entry off a batch with more. -/
theorem drainPerformed_more {s : State} {g : Fin 8} {q : Seq} {b : Batch} {e next : Entry} {rest : List Entry} (err : Bool)
    (hc : s.drain.current = some (.batch g q)) (ho : (s.group g).other = some b) (he : b.entries = e :: next :: rest) :
    s.drainPerformed err = (s.setGroup g { s.group g with
      other := some { b with entries := next :: rest, errorsSeen := if err then b.errorsSeen + 1 else b.errorsSeen }
      held := (s.group g).held - 1
      drainErrors := if err then bump (s.group g).drainErrors else (s.group g).drainErrors }).setFreeSlots (s.freeSlots + 1) := by
  rw [State.drainPerformed, hc]
  dsimp only
  rw [entryWritten_of_entry s g err b e (next :: rest) ho he]
  rfl

theorem reportBlocks_group (s : State) (g : Fin 8) : s.reportBlocks.group g = s.group g := by
  rw [reportBlocks_eq]
  unfold reported
  split <;> rfl

theorem reportClearance_group (s : State) (g : Fin 8) : s.reportClearance.group g = s.group g := by
  obtain ⟨_, h, -⟩ := reportClearance_spec s
  rw [h]
  rfl

/-- R90: the engine's transaction at the port is the write of the batch's first entry. -/
theorem drainTransaction {s : State} {g : Fin 8} {b : Batch} {e : Entry} {rest : List Entry} {x : Transaction} (hs : BatchesOk s)
    (hx : s.port.current = some x) (hr : x.requester = .drain) (hc : s.drain.current = some (.batch g b.seq))
    (hp : s.drain.progress = .writing) (ho : (s.group g).other = some b) (he : b.entries = e :: rest) :
    x = { requester := .drain, kind := .write e.data e.mask, addr := e.addr } := by
  obtain ⟨-, -, -, ⟨-, -, hw⟩, -⟩ := hs
  obtain ⟨y, hy, ha, hk⟩ := hw x hx hr
  have hdw : s.drainWrite = some (e.addr, e.data, e.mask) := (drainWrite_eq_some s _).2 ⟨hp, .inl ⟨g, b.seq, b, e, hc, ho, by rw [he]; rfl, rfl⟩⟩
  obtain rfl : _ = y := Option.some.inj (hdw.symm.trans hy)
  obtain ⟨_, _, _⟩ := x
  dsimp only at hr ha hk
  rw [hr, ha, hk]

/-- Settles O27: the engine's own write takes the first entry, and every other step keeps the batch (`beingDrained_kept`). -/
theorem drainingKept : Obligations.DrainingKept := by
  intro c g b e next rest s t hs hexec hp ho hb he
  obtain ⟨hbd, hcur, hprog⟩ := BeingDrained.of_batchesOk hb hs ho
  have hsame (u : State) (hu : BeingDrained g b u) (hg : (t.group g).other = (u.group g).other) :
      ∃ b' : Batch, (t.group g).other = some b' ∧ b'.state = .draining ∧ b'.seq = b.seq ∧ (b'.entries = b.entries ∨
        (b'.entries = next :: rest ∧ ∃ err rd, c = .transactionPerformed err rd ∧
          s.port.current = some { requester := .drain, kind := .write e.data e.mask, addr := e.addr })) :=
    ⟨b, hg.trans hu.other, hb, rfl, .inl rfl⟩
  by_cases hc : ∀ err rd, c ≠ .transactionPerformed err rd
  · exact hsame t ((beingDrained_kept hb).exec c s t ⟨hc, hp⟩ hbd hexec) rfl
  · push Not at hc
    obtain ⟨err, rd, rfl⟩ := hc
    by_cases hx : s.port.current = none
    · have hq : (quiet s).port.current = none := hx
      have ht : exec (.transactionPerformed err rd) s = .next (quiet s) := by
        show Host.Outcome.next ((quiet s).performed err rd) = _
        rw [State.performed, hq]
      obtain rfl := Host.Outcome.next.inj (ht.symm.trans hexec)
      exact hsame (quiet s) (hbd.congr rfl rfl) rfl
    · obtain ⟨x, hx⟩ := Option.ne_none_iff_exists'.1 hx
      obtain rfl := Host.Outcome.next.inj ((exec_performed hx err rd).symm.trans hexec)
      have hq : BeingDrained g b (quiet s) := hbd.congr rfl rfl
      have hv := hq.acked hb x err rd
      have hcv : (((quiet s).acked x err rd).reportLanded x err).drain.current = some (.batch g b.seq) := by
        rw [(reportLanded_watchesOnly _ x err).drain]
        exact hcur
      generalize ((quiet s).acked x err rd).reportLanded x err = v at hv hcv hsame ⊢
      rw [reportBlocks_group, reportClearance_group] at hsame ⊢
      by_cases hr : x.requester = .drain
      · have hport := drainTransaction hs hx hr hcur hprog ho he
        rw [hr, State.toRequester, drainPerformed_more err hcv hv.other he]
        refine ⟨{ b with entries := next :: rest, errorsSeen := if err then b.errorsSeen + 1 else b.errorsSeen }, ?_, hb, rfl,
          .inr ⟨rfl, err, rd, rfl, by rw [hx, hport]⟩⟩
        show (State.group (State.setGroup v g _) g).other = _
        rw [setGroup_group, if_pos rfl]
      · exact hsame _ (hv.toRequester hb hr err _) rfl

end Sys2Proof.Machine

/-! PROOFS. Section 4.6: what one event queues joins the release queue in increasing order of group number (R83): a candidate or a trip
source of a group adds at most one item, of that group, and the event's groups are dealt with in increasing order. -/

namespace Sys2Proof.Machine

open Sys2Proof.Safety

/-! ### What one group adds -/

/-- The change of the release queue by a candidate or a trip source of a group. -/
inductive JoinStep (g : Fin 8) (q : List Item) : List Item → Prop where
  | none : JoinStep g q q
  | batch (n : Seq) : JoinStep g q (q ++ [.batch g n])
  | safe : JoinStep g q (joinSafe (q.filter fun it => !it.isBatchOf g) g)

theorem tripSource_joinStep (s : State) (g : Fin 8) (x : TripSource) : JoinStep g s.releaseQueue (s.tripSource g x).releaseQueue := by
  rcases tripSource_cases s g x with ⟨-, e⟩ | ⟨-, -, e⟩ | ⟨-, -, e⟩ <;> rw [e]
  · exact .none
  · unfold State.firstTrip
    rw [submit_releaseQueue]
    exact .safe
  · exact .none

theorem releasePoint_joinStep (s : State) (g : Fin 8) : JoinStep g s.releaseQueue (s.releasePoint g).1.releaseQueue := by
  rcases releasePoint_cases s g with ⟨e, -⟩ | ⟨-, ⟨-, -, e⟩ | ⟨b, -, hb, -, e⟩ | ⟨b, -, -, -, e⟩ | ⟨-, -, e⟩⟩ <;> rw [e]
  · exact .none
  · unfold State.miss
    dsimp only
    split
    · have h := tripSource_joinStep ((s.setGroup g { s.group g with
          misses := bump (s.group g).misses, consecutive := satInc Config.missesMax (s.group g).consecutive }).submit
          (.releaseMissed g (((s.group g).opened.map (·.seq)).getD 0) (satInc Config.missesMax (s.group g).consecutive))) g
        (.missLimit (satInc Config.missesMax (s.group g).consecutive))
      rw [submit_releaseQueue] at h
      exact h
    · rw [submit_releaseQueue]
      exact .none
  · unfold State.queueSealed
    rw [queueOther_of_some _ g b (by simpa using hb)]
    exact .batch _
  · unfold State.overrun
    rw [submit_releaseQueue]
    exact .none
  · unfold State.clearGroup
    rw [submit_releaseQueue]
    exact .none

theorem candidate_joinStep (s : State) (g : Fin 8) : JoinStep g s.releaseQueue (s.candidate g).releaseQueue := by
  rcases candidate_cases s g with ⟨-, e⟩ | ⟨-, ⟨-, e⟩ | ⟨-, e⟩⟩ <;> rw [e]
  · exact .none
  · exact .none
  · exact releasePoint_joinStep (s.setGroup g _) g

/-! ### The items that have joined -/

theorem joined_append (before q r : List Item) (k : Bool) : joined before (q ++ r) k = joined before q k ++ joined before r k := by
  simp [joined]

theorem joined_self (q : List Item) (k : Bool) : joined q q k = [] := by
  simp only [joined, List.map_eq_nil_iff, List.filter_eq_nil_iff]
  intro it hit hj
  simp [hit] at hj

theorem joined_sublist {before q r : List Item} (h : q.Sublist r) (k : Bool) : (joined before q k).Sublist (joined before r k) :=
  (h.filter _).map _

theorem joined_true_eq (before q : List Item) : joined before q true = (q.filter (newSafe before)).map (·.group) := by
  unfold joined newSafe
  simp

/-- One item joins the items that have joined. -/
theorem joined_singleton (before : List Item) (it : Item) (k : Bool) :
    joined before [it] k = [] ∨ it.isSafe = k ∧ joined before [it] k = [it.group] := by
  unfold joined
  rw [List.filter_singleton]
  cases h : it.isSafe == k && !before.contains it with
  | false => exact .inl rfl
  | true =>
    simp only [Bool.and_eq_true, beq_iff_eq] at h
    exact .inr ⟨h.1, rfl⟩

/-- The items of each kind that have joined stand in increasing order, all of groups below `k`, the safe jobs ahead of every batch. -/
structure JoinedBelow (before : List Item) (k : Nat) (q : List Item) : Prop where
  sorted : ∀ x, (joined before q x).Pairwise (· < ·)
  below : ∀ x, ∀ g ∈ joined before q x, g.val < k
  ahead : joined before (q.dropWhile (·.isSafe)) true = []

theorem JoinedBelow.start (q : List Item) : JoinedBelow q 0 q := by
  refine ⟨fun x => ?_, fun x => ?_, ?_⟩
  · rw [joined_self]
    exact .nil
  · rw [joined_self]
    simp
  · have h := joined_sublist (before := q) (List.dropWhile_sublist (l := q) (·.isSafe)) true
    rw [joined_self] at h
    exact List.sublist_nil.1 h

theorem JoinedBelow.mono {before q : List Item} {k n : Nat} (h : JoinedBelow before k q) (hk : k ≤ n) : JoinedBelow before n q :=
  ⟨h.sorted, fun x g hg => Nat.lt_of_lt_of_le (h.below x g hg) hk, h.ahead⟩

/-- A list with one more group at its end, which is above the others. -/
theorem pairwise_snoc {l r : List (Fin 8)} {g : Fin 8} (hl : l.Pairwise (· < ·)) (hb : ∀ x ∈ l, x.val < g.val) (hr : r = [] ∨ r = [g]) :
    (l ++ r).Pairwise (· < ·) := by
  rcases hr with rfl | rfl
  · simpa using hl
  · exact List.pairwise_append.2 ⟨hl, List.pairwise_singleton _ _, fun a ha b hb' => by
      rw [List.mem_singleton.1 hb']
      exact hb a ha⟩

/-- Dropping the leading safe jobs of a queue without some batch items. -/
theorem dropWhile_filter_sublist (q : List Item) {p : Item → Bool} :
    ((q.filter p).dropWhile (·.isSafe)).Sublist (q.dropWhile (·.isSafe)) := by
  induction q with
  | nil => exact .refl _
  | cons it q ih =>
    by_cases hs : it.isSafe = true
    · rw [List.dropWhile_cons_of_pos hs]
      by_cases hp : p it = true
      · rw [List.filter_cons_of_pos hp, List.dropWhile_cons_of_pos hs]
        exact ih
      · rw [List.filter_cons_of_neg hp]
        exact ih
    · rw [List.dropWhile_cons_of_neg hs]
      exact (List.dropWhile_sublist _).trans List.filter_sublist

theorem JoinedBelow.filter {before q : List Item} {k : Nat} (h : JoinedBelow before k q) (p : Item → Bool) :
    JoinedBelow before k (q.filter p) :=
  ⟨fun x => (h.sorted x).sublist (joined_sublist List.filter_sublist x),
    fun x g hg => h.below x g ((joined_sublist List.filter_sublist x).subset hg),
    List.sublist_nil.1 (h.ahead ▸ joined_sublist (dropWhile_filter_sublist q) true)⟩

/-- The queue by the kind of its leading items. -/
theorem takeWhile_safe_append_dropWhile (q : List Item) : q.takeWhile (·.isSafe) ++ q.dropWhile (·.isSafe) = q :=
  List.takeWhile_append_dropWhile

theorem JoinedBelow.append_batch {before q : List Item} {g : Fin 8} (h : JoinedBelow before g.val q) (n : Seq) :
    JoinedBelow before (g.val + 1) (q ++ [.batch g n]) := by
  have hone (x : Bool) : joined before [.batch g n] x = [] ∨ joined before [.batch g n] x = [g] :=
    (joined_singleton before (.batch g n) x).imp_right (·.2)
  have hsafe : joined before [.batch g n] true = [] :=
    (joined_singleton before (.batch g n) true).resolve_right (by simp [Item.isSafe])
  refine ⟨fun x => ?_, fun x k hk => ?_, ?_⟩
  · rw [joined_append]
    exact pairwise_snoc (h.sorted x) (h.below x) (hone x)
  · rw [joined_append, List.mem_append] at hk
    rcases hk with hk | hk
    · exact Nat.lt_succ_of_lt (h.below x k hk)
    · rcases hone x with e | e <;> rw [e] at hk
      · cases hk
      · rw [List.mem_singleton.1 hk]
        exact Nat.lt_succ_self _
  · have hd : (q ++ [Item.batch g n]).dropWhile (·.isSafe) = q.dropWhile (·.isSafe) ++ [.batch g n] := by
      rw [List.dropWhile_append]
      split
      · rename_i e
        rw [List.isEmpty_iff.1 e]
        rfl
      · rfl
    rw [hd, joined_append, h.ahead, hsafe]
    rfl

theorem JoinedBelow.joinSafe {before q : List Item} {g : Fin 8} (h : JoinedBelow before g.val q) :
    JoinedBelow before (g.val + 1) (joinSafe q g) := by
  have hq (x : Bool) : joined before q x = joined before (q.takeWhile (·.isSafe)) x ++ joined before (q.dropWhile (·.isSafe)) x := by
    rw [← joined_append, takeWhile_safe_append_dropWhile]
  have hj (x : Bool) : joined before (Machine.joinSafe q g) x =
      joined before (q.takeWhile (·.isSafe)) x ++ (joined before [.safe g] x ++ joined before (q.dropWhile (·.isSafe)) x) := by
    rw [← joined_append, ← joined_append]
    rfl
  have hbatch : joined before [.safe g] false = [] := (joined_singleton before (.safe g) false).resolve_right (by simp [Item.isSafe])
  have hone : joined before [.safe g] true = [] ∨ joined before [.safe g] true = [g] :=
    (joined_singleton before (.safe g) true).imp_right (·.2)
  have htrue : joined before (Machine.joinSafe q g) true = joined before q true ++ joined before [.safe g] true := by
    rw [hj, hq true, h.ahead, List.append_nil, List.append_nil]
  have hfalse : joined before (Machine.joinSafe q g) false = joined before q false := by
    rw [hj, hq false, hbatch, List.nil_append]
  refine ⟨fun x => ?_, fun x k hk => ?_, ?_⟩
  · cases x with
    | false =>
      rw [hfalse]
      exact h.sorted false
    | true =>
      rw [htrue]
      exact pairwise_snoc (h.sorted true) (h.below true) hone
  · cases x with
    | false =>
      rw [hfalse] at hk
      exact Nat.lt_succ_of_lt (h.below false k hk)
    | true =>
      rw [htrue, List.mem_append] at hk
      rcases hk with hk | hk
      · exact Nat.lt_succ_of_lt (h.below true k hk)
      · rcases hone with e | e <;> rw [e] at hk
        · cases hk
        · rw [List.mem_singleton.1 hk]
          exact Nat.lt_succ_self _
  · have hd : (Machine.joinSafe q g).dropWhile (·.isSafe) = q.dropWhile (·.isSafe) := by
      unfold Machine.joinSafe
      rw [List.dropWhile_append_of_pos (fun a ha => List.mem_takeWhile_imp ha), List.dropWhile_cons_of_pos rfl, List.dropWhile_idempotent]
    rw [hd]
    exact h.ahead

theorem JoinedBelow.step {before q r : List Item} {g : Fin 8} (h : JoinedBelow before g.val q) (hs : JoinStep g q r) :
    JoinedBelow before (g.val + 1) r := by
  cases hs with
  | none => exact h.mono (Nat.le_succ _)
  | batch n => exact h.append_batch n
  | safe => exact (h.filter _).joinSafe

/-- R83: an event that deals with groups in increasing order. -/
theorem JoinedBelow.foldl {before : List Item} {f : State → Fin 8 → State} (hf : ∀ s g, JoinStep g s.releaseQueue (f s g).releaseQueue)
    (l : List (Fin 8)) (hl : l.Pairwise (· < ·)) {k : Nat} (hk : ∀ g ∈ l, k ≤ g.val) {s : State} (h : JoinedBelow before k s.releaseQueue) :
    JoinedBelow before 8 (l.foldl f s).releaseQueue ∨ k > 8 := by
  induction l generalizing k s with
  | nil =>
    by_cases h8 : k ≤ 8
    · exact .inl (h.mono h8)
    · exact .inr (Nat.lt_of_not_le h8)
  | cons g l ih =>
    obtain ⟨hg, hl⟩ := List.pairwise_cons.1 hl
    have hstep := (h.mono (hk g List.mem_cons_self)).step (hf s g)
    rcases ih hl (fun x hx => Nat.succ_le_of_lt (hg x hx)) hstep with h | h
    · exact .inl h
    · exact absurd g.isLt (by omega)

/-- R83: what the event has queued stands in increasing order of group number. -/
theorem joinInOrder_foldl {f : State → Fin 8 → State} (hf : ∀ s g, JoinStep g s.releaseQueue (f s g).releaseQueue) (s : State) :
    JoinInOrder s.releaseQueue (groupNumbers.foldl f s).releaseQueue := by
  rcases JoinedBelow.foldl hf groupNumbers groupNumbers_sorted (k := 0) (fun _ _ => Nat.zero_le _) (.start s.releaseQueue) with h | h
  · exact ⟨h.sorted true, h.sorted false⟩
  · exact absurd h (by omega)

/-- R83: the same where some of the groups are passed over. -/
theorem joinStep_ite {p : Prop} [Decidable p] {g : Fin 8} {s t : State} (h : JoinStep g s.releaseQueue t.releaseQueue) :
    JoinStep g s.releaseQueue (if p then t else s).releaseQueue := by
  split
  · exact h
  · exact .none

end Sys2Proof.Machine

/-! PROOFS. Chapter 07: what each event at the watches does to groups and event queue, said apart from the watches' own records
(R137, R139, R141, R142, R145), and the order of the safe jobs that several trips of one event queue (R83). -/

namespace Sys2Proof.Machine

open Sys2Proof.Safety

/-! ### Mismatches, restores and deferred mismatches -/

theorem graft_graft (s t v : State) : graft s (graft t v) = graft s v := rfl

theorem mismatchMade_groupsOnly (s : State) (w : Fin 12) (x : Watch) (c : MismatchCause) : GroupsOnly s (mismatchMade s w x c) := by
  unfold mismatchMade
  split
  · exact (submit_groupsOnly _ _).trans (tripSource_groupsOnly _ _ _)
  · exact submit_groupsOnly _ _

theorem mismatchMade_graft {s v : State} (hA : v.baseA = s.baseA) (hs : v.softResetting = s.softResetting) (w : Fin 12) (x : Watch)
    (c : MismatchCause) : mismatchMade (graft s v) w x c = graft s (mismatchMade v w x c) := by
  have hsub := submit_groupsOnly v (.watchMismatch w c)
  unfold mismatchMade
  rw [submit_graft hA, tripSource_graft (hsub.baseA.trans hA) (hsub.softResetting.trans hs)]
  split <;> rfl

theorem reportMismatch_eq (s : State) (w : Fin 12) (c : MismatchCause) : s.reportMismatch w c = mismatchMade s w (s.watch w) c := rfl

/-- R141: a mismatch reported beside a change of the watch's record. -/
theorem reportMismatch_setWatch (s : State) (w : Fin 12) (x : Watch) (c : MismatchCause) (ha : x.action = (s.watch w).action)
    (hg : x.tripGroup = (s.watch w).tripGroup) :
    (s.setWatch w x).reportMismatch w c = graft (s.setWatch w x) (mismatchMade s w (s.watch w) c) := by
  have hx : mismatchMade s w x c = mismatchMade s w (s.watch w) c := by
    unfold mismatchMade
    rw [ha, hg]
  have hm := mismatchMade_graft (s := s.setWatch w x) (v := s) rfl rfl w x c
  rw [reportMismatch_eq, setWatch_watch, if_pos rfl, ← hx]
  exact hm

/-- R141, R142: what a transition of a watch with the record `x` reports. -/
def transited (u : State) (w : Fin 12) (x : Watch) (f h : Found) : State :=
  match f, h with
  | .agrees, .agrees => u
  | .agrees, .differs => if x.marks = 0 then mismatchMade u w x .write else u
  | .differs, .agrees => if x.deferred = false ∧ x.reportRestore = true then u.submit (.watchRestored w) else u
  | .differs, .differs => u

theorem transited_groupsOnly (u : State) (w : Fin 12) (x : Watch) (f h : Found) : GroupsOnly u (transited u w x f h) := by
  unfold transited
  split
  · exact .refl u
  · split
    · exact mismatchMade_groupsOnly _ _ _ _
    · exact .refl u
  · split
    · exact submit_groupsOnly _ _
    · exact .refl u
  · exact .refl u

theorem transited_graft {s v : State} (hA : v.baseA = s.baseA) (hs : v.softResetting = s.softResetting) (w : Fin 12) (x : Watch) (f h : Found) :
    transited (graft s v) w x f h = graft s (transited v w x f h) := by
  cases f <;> cases h <;> unfold transited <;> dsimp only
  · rw [mismatchMade_graft hA hs]
    split <;> rfl
  · rw [submit_graft hA]
    split <;> rfl

theorem toMismatch_eq (s : State) (w : Fin 12) :
    s.toMismatch w = graft (s.setWatch w ((s.watch w).transit .agrees .differs)) (transited s w (s.watch w) .agrees .differs) := by
  unfold State.toMismatch transited Watch.transit
  dsimp only
  split
  · rename_i hm
    rw [reportMismatch_setWatch s w _ _ (by rfl) (by rfl)]
    simp [hm]
  · rename_i hm
    simp only [ne_eq, hm, not_false_eq_true, decide_true, Bool.or_true]
    rfl

theorem toMatch_eq (s : State) (w : Fin 12) :
    s.toMatch w = graft (s.setWatch w ((s.watch w).transit .differs .agrees)) (transited s w (s.watch w) .differs .agrees) := by
  have hsub := submit_graft (s := s.setWatch w ((s.watch w).transit .differs .agrees)) (v := s) rfl (.watchRestored w)
  unfold State.toMatch transited
  dsimp only
  by_cases hd : (s.watch w).deferred = true
  · rw [if_pos hd, if_neg (by simp [hd])]
    rfl
  · rw [if_neg hd]
    by_cases hr : (s.watch w).reportRestore = true
    · rw [if_pos hr, if_pos ⟨by simpa using hd, hr⟩]
      exact hsub
    · rw [if_neg hr, if_neg (by simp [hr])]
      rfl

/-- What a transition reports does not depend on the shadow. -/
theorem transited_shadow (s : State) (w : Fin 12) (x : Watch) (word : Word) (f h : Found) :
    transited s w { x with shadow := word } f h = transited s w x f h := by
  cases f <;> cases h <;> rfl

/-- R137: a transition of a watch, its record and its reports. -/
theorem transition_eq {s : State} {w : Fin 12} {f : Found} (h : Found) (hs : (s.watch w).state = .compared f) :
    s.transition w f h = graft (s.setWatch w ((s.watch w).transit f h)) (transited s w (s.watch w) f h) := by
  cases f <;> cases h
  · rw [Watch.transit_self hs, setWatch_self]
    rfl
  · exact toMismatch_eq s w
  · exact toMatch_eq s w
  · rw [Watch.transit_self hs, setWatch_self]
    rfl

/-! ### An event at every watch -/

/-- An event's step at a watch: the watch's record becomes `x` of it, its probe is raised where `add` says so, and the groups' part is
`G`, which reads the watch's record alone. -/
structure WatchEvent (F : State → Fin 12 → State) (x : Watch → Watch) (add : Watch → Bool) (G : State → Fin 12 → Watch → State) : Prop where
  step : ∀ s w, F s w = graft (s.watchAt w (x (s.watch w)) (s.port.service ++ joining add s [w])) (G s w (s.watch w))
  frame : ∀ s w y, GroupsOnly s (G s w y)
  apart : ∀ s v w y, v.baseA = s.baseA → v.softResetting = s.softResetting → G (graft s v) w y = graft s (G v w y)

namespace WatchEvent

variable {F : State → Fin 12 → State} {x : Watch → Watch} {add : Watch → Bool} {G : State → Fin 12 → Watch → State}

theorem groupsOnly (h : WatchEvent F x add G) (s : State) (w : Fin 12) :
    GroupsOnly (s.watchAt w (x (s.watch w)) (s.port.service ++ joining add s [w])) (F s w) := by
  rw [h.step]
  exact ⟨_, _, _, _, rfl⟩

/-- The groups' part of the event at several watches, read from the watches as the event found them. -/
theorem foldl (h : WatchEvent F x add G) {s : State} (y : Fin 12 → Watch) (l : List (Fin 12)) (hl : l.Nodup) {u : State}
    (hA : u.baseA = s.baseA) (hs : u.softResetting = s.softResetting) (hy : ∀ w ∈ l, u.watch w = y w) :
    graft s (l.foldl F u) = l.foldl (fun v w => G v w (y w)) (graft s u) := by
  induction l generalizing u with
  | nil => rfl
  | cons a l ih =>
    obtain ⟨ha, hl⟩ := List.nodup_cons.1 hl
    have hfr := h.groupsOnly u a
    have hstep : graft s (F u a) = G (graft s u) a (y a) := by
      rw [h.apart s u a (y a) hA hs, h.step, hy a List.mem_cons_self]
      rfl
    rw [List.foldl_cons, List.foldl_cons, ← hstep]
    refine ih hl (hfr.baseA.trans hA) (hfr.softResetting.trans hs) fun w hw => ?_
    rw [hfr.watch, watchAt_watch, if_neg (by rintro rfl; exact ha hw)]
    exact hy w (List.mem_cons_of_mem _ hw)

end WatchEvent

/-! ### A landed write and a period mark -/

/-- R137: what a landed write reports at a watch with the record `y`. -/
def landedReport (addr : WordAddr) (data : Word) (mask : Mask) (error : Bool) (s : State) (w : Fin 12) (y : Watch) : State :=
  match foundOf y.state with
  | none => s
  | some f =>
    if y.addr = addr ∧ error = false then transited s w y f (y.compare (mergeLanes mask y.shadow data)) else s

theorem landedAt_event (addr : WordAddr) (data : Word) (mask : Mask) (error : Bool) :
    WatchEvent (State.landedAt addr data mask error) (Watch.landed addr data mask error) (Watch.rearmedBy addr error)
      (landedReport addr data mask error) where
  step s w := by
    have hnone (hr : ¬ Watch.rearmedBy addr error (s.watch w) = true) : joining (Watch.rearmedBy addr error) s [w] = [] := by
      simp [joining, hr]
    rw [Watch.rearmedBy_iff] at hnone
    have hstay (hl : (s.watch w).landed addr data mask error = s.watch w) (hr : joining (Watch.rearmedBy addr error) s [w] = []) :
        s.watchAt w ((s.watch w).landed addr data mask error) (s.port.service ++ joining (Watch.rearmedBy addr error) s [w]) = s := by
      rw [hr, List.append_nil, ← setWatch_eq_watchAt, hl, setWatch_self]
    unfold landedReport
    cases hst : (s.watch w).state with
    | disarmed =>
      rw [hstay (Watch.landed_uncompared (by simp [hst]) _ _ _ _) (hnone (by simp [hst]))]
      simp [State.landedAt, hst, foundOf, graft_self]
    | arming o =>
      rw [hstay (Watch.landed_uncompared (by simp [hst]) _ _ _ _) (hnone (by simp [hst]))]
      simp [State.landedAt, hst, foundOf, graft_self]
    | compared f =>
      dsimp only [foundOf]
      by_cases ha : (s.watch w).addr = addr
      · subst ha
        cases error with
        | true =>
          have hj : joining (Watch.rearmedBy (s.watch w).addr true) s [w] = [.probe w] := by
            simp [joining, Watch.rearmedBy, hst, foundOf]
          rw [hj, Watch.landed_failed hst, if_neg (by simp)]
          simp [State.landedAt, hst]
          rfl
        | false =>
          have h := transition_eq (s := s.setWatch w { s.watch w with shadow := mergeLanes mask (s.watch w).shadow data }) (w := w) (f := f)
            ((s.watch w).compare (mergeLanes mask (s.watch w).shadow data)) (by rw [setWatch_watch, if_pos rfl]; exact hst)
          rw [setWatch_watch, if_pos rfl, setWatch_setWatch] at h
          rw [hnone (by simp), List.append_nil, ← setWatch_eq_watchAt, Watch.landed_written hst, if_pos ⟨rfl, rfl⟩]
          have ht := transited_graft (s := s.setWatch w { s.watch w with shadow := mergeLanes mask (s.watch w).shadow data }) (v := s) rfl rfl w
            { s.watch w with shadow := mergeLanes mask (s.watch w).shadow data } f
            ((s.watch w).compare (mergeLanes mask (s.watch w).shadow data))
          rw [transited_shadow s w] at ht
          have he : s.landedAt (s.watch w).addr data mask false w = s.shadowWrite w data mask f := by simp [State.landedAt, hst]
          rw [he]
          exact (h.trans (congrArg (graft _) ht)).trans (graft_graft _ _ _)
      · rw [hstay (Watch.landed_far ha _ _ _) (hnone (by simp [ha])), if_neg (by simp [ha])]
        simp [State.landedAt, hst, ha, graft_self]
  frame s w y := by
    unfold landedReport
    split
    · exact .refl s
    · split
      · exact transited_groupsOnly _ _ _ _ _
      · exact .refl s
  apart s v w y hA hs := by
    unfold landedReport
    split
    · rfl
    · split
      · exact transited_graft hA hs _ _ _ _
      · rfl

/-- R140: what a landed write does to groups and event queue, but for the order of the safe jobs that it queues. -/
theorem foldl_landedAt (s : State) (addr : WordAddr) (data : Word) (mask : Mask) (error : Bool) :
    graft s (watchNumbers.foldl (State.landedAt addr data mask error) s) =
      watchNumbers.foldl (fun v w => landedReport addr data mask error v w (s.watch w)) s :=
  (landedAt_event addr data mask error).foldl s.watch watchNumbers watchNumbers_nodup rfl rfl fun _ _ => rfl

/-- R145: what a period mark of base `b` reports at a watch with the record `y`. -/
def markReport (b : Base) (s : State) (w : Fin 12) (y : Watch) : State :=
  if y.settleBase = b ∧ y.marks = 1 ∧ y.state = .compared .differs ∧ y.deferred = true then mismatchMade s w y .settleEnd else s

/-- R145: what the last mark of a window reports at a watch with the record `y`. -/
def endReported (s : State) (w : Fin 12) (y : Watch) : State :=
  if y.marks = 1 ∧ y.state = .compared .differs ∧ y.deferred = true then mismatchMade s w y .settleEnd else s

theorem settleMarkAt_eq (s : State) (w : Fin 12) :
    s.settleMarkAt w = graft (s.setWatch w (s.watch w).marked) (endReported s w (s.watch w)) := by
  unfold State.settleMarkAt endReported
  dsimp only
  by_cases hm : (s.watch w).marks = 1
  · rw [if_pos hm]
    unfold State.windowEnd
    rw [setWatch_watch, if_pos rfl]
    dsimp only
    by_cases hd : (s.watch w).state = .compared .differs ∧ (s.watch w).deferred = true
    · obtain ⟨hd1, hd2⟩ := hd
      rw [if_pos (by simp [hd1, hd2]), if_pos ⟨hm, hd1, hd2⟩]
      unfold State.settleReport
      rw [setWatch_setWatch, setWatch_watch, if_pos rfl, reportMismatch_setWatch s w _ _ (by rfl) (by rfl)]
      simp only [Watch.marked, hm, hd1, hd2]
      rfl
    · rw [if_neg (by simpa using hd), if_neg (fun h => hd h.2)]
      have hoff : (s.watch w).marked = { s.watch w with marks := (s.watch w).marks - 1 } := by
        have hkept : ((s.watch w).deferred && !(decide ((s.watch w).marks = 1) && decide ((s.watch w).state = .compared .differs))) =
            (s.watch w).deferred := by
          cases hf : (s.watch w).deferred with
          | false => rfl
          | true =>
            have hne : (s.watch w).state ≠ .compared .differs := fun e => hd ⟨e, hf⟩
            simp [hne]
        unfold Watch.marked
        rw [hkept]
      rw [hoff]
      rfl
  · rw [if_neg hm, if_neg (fun h => hm h.1)]
    simp only [Watch.marked, hm, decide_false, Bool.false_and, Bool.not_false, Bool.and_true]
    rfl

theorem settleMark_event (b : Base) :
    WatchEvent (fun s w => if (s.watch w).settleBase = b && (s.watch w).marks != 0 then s.settleMarkAt w else s) (Watch.atMark b)
      (fun _ => false) (markReport b) where
  step s w := by
    have hj : joining (fun _ => false) s [w] = [] := by simp [joining]
    rw [hj, List.append_nil, ← setWatch_eq_watchAt]
    unfold Watch.atMark markReport
    by_cases hc : (s.watch w).settleBase = b ∧ (s.watch w).marks ≠ 0
    · obtain ⟨hb, hm⟩ := hc
      have hcond : ((decide ((s.watch w).settleBase = b)) && (s.watch w).marks != 0) = true := by simp [hb, hm]
      rw [if_pos hcond, if_pos hcond, settleMarkAt_eq]
      unfold endReported
      simp only [hb, true_and]
    · have hcond : ¬ ((decide ((s.watch w).settleBase = b)) && (s.watch w).marks != 0) = true := by simpa using hc
      rw [if_neg hcond, if_neg hcond, if_neg (fun h => hc ⟨h.1, by omega⟩), setWatch_self]
      rfl
  frame s w y := by
    unfold markReport
    split
    · exact mismatchMade_groupsOnly _ _ _ _
    · exact .refl s
  apart s v w y hA hs := by
    unfold markReport
    split
    · exact mismatchMade_graft hA hs _ _ _
    · rfl

/-! ### The order of an event's safe jobs (R83) -/

/-- Each safe job that has joined stands in the queue once, and its group takes no further first trip. -/
structure TripsOnce (before : List Item) (s : State) : Prop where
  once : (s.releaseQueue.filter (newSafe before)).Nodup
  spent : ∀ g, Item.safe g ∈ s.releaseQueue → newSafe before (.safe g) = true → (s.group g).state ≠ .active ∧ (s.group g).state ≠ .stopping

theorem TripsOnce.start (s : State) : TripsOnce s.releaseQueue s := by
  have hold (it : Item) (h : it ∈ s.releaseQueue) : newSafe s.releaseQueue it = false := by simp [newSafe, h]
  refine ⟨?_, fun g hg hn => ?_⟩
  · rw [List.filter_eq_nil_iff.2 fun it hit => by simp [hold it hit]]
    exact .nil
  · rw [hold _ hg] at hn
    cases hn

theorem TripsOnce.congr {before : List Item} {s t : State} (h : TripsOnce before s) (hq : t.releaseQueue = s.releaseQueue)
    (hg : ∀ g, (t.group g).state = (s.group g).state) : TripsOnce before t :=
  ⟨by rw [hq]; exact h.once, fun g => by rw [hq, hg]; exact h.spent g⟩

theorem joinSafe_filter_perm (q : List Item) (g : Fin 8) : (joinSafe (q.filter fun it => !it.isBatchOf g) g).Perm
    (.safe g :: q.filter fun it => !it.isBatchOf g) := joinSafe_perm _ g

theorem TripsOnce.tripSource {before : List Item} {s : State} (h : TripsOnce before s) (g : Fin 8) (x : TripSource) :
    TripsOnce before (s.tripSource g x) := by
  rcases tripSource_cases s g x with ⟨-, e⟩ | ⟨-, hst, e⟩ | ⟨-, -, e⟩ <;> rw [e]
  · exact h
  · have hq : (s.firstTrip g x).releaseQueue = joinSafe (s.releaseQueue.filter fun it => !it.isBatchOf g) g := by
      unfold State.firstTrip
      rw [submit_releaseQueue]
      rfl
    have hp := joinSafe_filter_perm s.releaseQueue g
    have hsub : ((s.releaseQueue.filter fun it => !it.isBatchOf g).filter (newSafe before)).Sublist (s.releaseQueue.filter (newSafe before)) :=
      List.filter_sublist.filter _
    refine ⟨?_, fun k hk hn => ?_⟩
    · rw [hq, (hp.filter _).nodup_iff]
      by_cases hn : newSafe before (.safe g) = true
      · rw [List.filter_cons_of_pos hn]
        refine List.nodup_cons.2 ⟨fun hm => ?_, h.once.sublist hsub⟩
        obtain ⟨h1, h2⟩ := h.spent g (List.mem_filter.1 (hsub.subset hm)).1 hn
        exact hst.elim h1 h2
      · rw [List.filter_cons_of_neg hn]
        exact h.once.sublist hsub
    · rw [firstTrip_group]
      rw [hq, hp.mem_iff] at hk
      split
      · exact ⟨by simp [Group.firstTrip], by simp [Group.firstTrip]⟩
      · rename_i hne
        refine h.spent k ?_ hn
        rcases List.mem_cons.1 hk with hk | hk
        · exact absurd (Item.safe.inj hk).symm hne
        · exact (List.mem_filter.1 hk).1
  · refine h.congr rfl fun k => ?_
    rw [State.secondFault, setGroup_group]
    split
    · rename_i e
      rw [e]
    · rfl

theorem TripsOnce.submit {before : List Item} {s : State} (h : TripsOnce before s) (e : EventBody) : TripsOnce before (s.submit e) :=
  h.congr (submit_releaseQueue s e) fun g => by rw [submit_group]

theorem TripsOnce.mismatchMade {before : List Item} {s : State} (h : TripsOnce before s) (w : Fin 12) (x : Watch) (c : MismatchCause) :
    TripsOnce before (mismatchMade s w x c) := by
  unfold Safety.mismatchMade
  split
  · exact (h.submit _).tripSource _ _
  · exact h.submit _

theorem TripsOnce.landedReport {before : List Item} {s : State} (h : TripsOnce before s) (addr : WordAddr) (data : Word) (mask : Mask)
    (error : Bool) (w : Fin 12) (y : Watch) : TripsOnce before (landedReport addr data mask error s w y) := by
  unfold Machine.landedReport
  split
  · exact h
  · split
    · unfold transited
      split
      · exact h
      · split
        · exact h.mismatchMade _ _ _
        · exact h
      · split
        · exact h.submit _
        · exact h
      · exact h
    · exact h

theorem TripsOnce.markReport {before : List Item} {s : State} (h : TripsOnce before s) (b : Base) (w : Fin 12) (y : Watch) :
    TripsOnce before (markReport b s w y) := by
  unfold Machine.markReport
  split
  · exact h.mismatchMade _ _ _
  · exact h

/-- R83: the safe jobs of one event stand in increasing order of group number. -/
theorem joined_inGroupOrder {before q : List Item} (hq : (q.filter (newSafe before)).Nodup) :
    (joined before (inGroupOrder before q) true).Pairwise (· < ·) := by
  have hinj : Function.Injective Item.safe := fun a b h => by cases h; rfl
  have hsorted : (newSafeGroups before q).Pairwise (· < ·) := groupNumbers_sorted.filter _
  have hnd : (newSafeGroups before q).Nodup := hsorted.imp fun h => Fin.ne_of_lt h
  have hperm : ((newSafeGroups before q).map .safe).Perm (q.filter (newSafe before)) := by
    refine (List.perm_ext_iff_of_nodup (hnd.map hinj) hq).2 fun it => ?_
    simp only [newSafeGroups, List.mem_map, List.mem_filter, mem_groupNumbers, true_and, Bool.and_eq_true, List.contains_iff_mem, newSafe]
    constructor
    · rintro ⟨g, ⟨h1, h2⟩, rfl⟩
      exact ⟨h1, rfl, h2⟩
    · rintro ⟨h1, h2, h3⟩
      cases it with
      | batch g n => cases h2
      | safe g => exact ⟨g, ⟨h1, h3⟩, rfl⟩
  have hf := (fillSafe_filter before (newSafeGroups before q) q
    (List.length_map (as := newSafeGroups before q) Item.safe ▸ hperm.length_eq) (newSafeGroups_new before q)).1
  rw [joined_true_eq, inGroupOrder_eq, hf, List.map_map]
  have : (Item.group ∘ Item.safe) = id := rfl
  rw [this, List.map_id]
  exact hsorted

theorem eachWatch_releaseQueue (s : State) (f : State → Fin 12 → State) :
    (s.eachWatch f).releaseQueue = inGroupOrder s.releaseQueue (watchNumbers.foldl f s).releaseQueue := rfl

/-- R83: the safe jobs of an event dealt with at every watch, where the fold and `t` queue the same. -/
theorem eachWatch_inOrder {s t : State} {f : State → Fin 12 → State} (hq : graft s (watchNumbers.foldl f s) = t)
    (ht : TripsOnce s.releaseQueue t) : (joined s.releaseQueue (s.eachWatch f).releaseQueue true).Pairwise (· < ·) := by
  rw [eachWatch_releaseQueue]
  have hr : (watchNumbers.foldl f s).releaseQueue = t.releaseQueue := by
    rw [← hq]
    rfl
  rw [hr]
  exact joined_inGroupOrder ht.once

/-- R83, R140: the safe jobs that a landed write queues. -/
theorem landedWrite_inOrder (s : State) (addr : WordAddr) (data : Word) (mask : Mask) (error : Bool) :
    (joined s.releaseQueue (s.landedWrite addr data mask error).releaseQueue true).Pairwise (· < ·) :=
  eachWatch_inOrder (foldl_landedAt s addr data mask error)
    (foldl_keeps (P := TripsOnce s.releaseQueue) (fun _ w hv => hv.landedReport addr data mask error w (s.watch w)) _ _ (.start s))

end Sys2Proof.Machine

/-! PROOFS. Chapter 07: landed writes, transitions, probe results, settle windows and the watch commands (O20 to O24). -/

namespace Sys2Proof.Machine

open Sys2Proof.Safety

/-! ### Landed writes (R137, R138, R140) -/

theorem toRequester_marksOnly (s : State) {r : Requester} (h : ∀ w, r ≠ .probe w) (e : Bool) (word : Word) :
    MarksOnly s (s.toRequester r e word) := by
  cases r with
  | pass i => exact .of_eq (passPerformed_requestsOnly s i e word).watches (passPerformed_requestsOnly s i e word).port
  | drain => exact drainPerformed_marksOnly s e
  | probe w => exact absurd rfl (h w)
  | peek => cases e <;> exact .of_eq rfl rfl
  | poke => cases e <;> exact .of_eq rfl rfl

/-- R11: a performed PASS transaction changes requests alone. -/
theorem passPerformed_eq (s : State) (i : Fin 16) (e : Bool) (word : Word) : ∃ up, s.passPerformed i e word = { s with upstream := up } := by
  unfold State.passPerformed State.answer
  dsimp only
  cases e with
  | true => exact ⟨_, rfl⟩
  | false => cases (s.slot i).kind <;> exact ⟨_, rfl⟩

theorem toRequester_releaseQueue (s : State) {r : Requester} (h : ∀ w, r ≠ .probe w) (hd : r ≠ .drain) (e : Bool) (word : Word) :
    (s.toRequester r e word).releaseQueue = s.releaseQueue := by
  cases r with
  | pass i =>
    obtain ⟨up, hu⟩ := passPerformed_eq s i e word
    exact (congrArg State.releaseQueue hu).trans (by rfl)
  | drain => exact absurd rfl hd
  | probe w => exact absurd rfl (h w)
  | peek => cases e <;> rfl
  | poke => cases e <;> rfl

/-- R19, R166: the reports at a step's end leave watches, service list and release queue. -/
theorem reports_marksOnly (s : State) : MarksOnly s s.reportClearance.reportBlocks := by
  obtain ⟨_, h, -⟩ := reportClearance_spec s
  rw [reportBlocks_eq, h]
  unfold reported
  split
  · refine ⟨fun _ => rfl, fun _ => .inl rfl, ?_⟩
    dsimp only
    split <;> rfl
  · exact .of_eq rfl rfl

theorem reports_releaseQueue (s : State) : s.reportClearance.reportBlocks.releaseQueue = s.releaseQueue := by
  obtain ⟨_, h, -⟩ := reportClearance_spec s
  rw [reportBlocks_eq, h]
  unfold reported
  split <;> rfl

theorem reports_watches (s : State) : s.reportClearance.reportBlocks.watches = s.watches := by
  obtain ⟨_, h, -⟩ := reportClearance_spec s
  rw [reportBlocks_eq, h]
  unfold reported
  split <;> rfl

theorem reports_groups (s : State) :
    s.reportClearance.reportBlocks.groups = s.groups ∧ s.reportClearance.reportBlocks.events = s.events := by
  obtain ⟨_, h, -⟩ := reportClearance_spec s
  rw [reportBlocks_eq, h]
  unfold reported
  split <;> exact ⟨rfl, rfl⟩

theorem map_watch (s : State) (x : Watch → Watch) (w : Fin 12) : (s.watches.map x)[w] = x (s.watch w) := by
  simp [State.watch]

/-- R138: the probes that a landed write raises. -/
theorem joining_rearmed (s : State) (a : WordAddr) (e : Bool) :
    joining (Watch.rearmedBy a e) s watchNumbers =
      if e then
        ((List.finRange 12).filter fun w =>
          ((s.watch w).state = .compared .agrees ∨ (s.watch w).state = .compared .differs) ∧ (s.watch w).addr = a).map ServiceRequest.probe
      else [] := by
  unfold joining
  rw [watchNumbers_eq]
  cases e with
  | false => simp [Watch.rearmedBy]
  | true =>
    rw [if_pos rfl]
    congr 2
    funext w
    rw [Bool.eq_iff_iff, Watch.rearmedBy_iff, decide_eq_true_eq]
    cases (s.watch w).state with
    | disarmed => simp
    | arming o => simp
    | compared f => cases f <;> simp

/-- Settles O20. -/
theorem landedWriteAtWatches : Obligations.LandedWriteAtWatches := by
  intro tr d m e rd s hc hk hp
  have hland : (((quiet s).acked tr e rd).reportLanded tr e) = ((quiet s).acked tr e rd).landedWrite tr.addr d m e := by
    unfold State.reportLanded
    rw [hk]
  have hg := landedWrite_step ((quiet s).acked tr e rd) tr.addr d m e
  have ho := landedWrite_inOrder ((quiet s).acked tr e rd) tr.addr d m e
  have hx := exec_performed hc e rd
  rw [hland] at hx
  generalize ((quiet s).acked tr e rd).landedWrite tr.addr d m e = v at hx hg ho
  have hm := (toRequester_marksOnly v hp e (readWord s.mem tr.addr rd)).trans (reports_marksOnly _)
  have hq (hd : tr.requester ≠ .drain) : (v.toRequester tr.requester e (readWord s.mem tr.addr rd)).reportClearance.reportBlocks.releaseQueue =
      v.releaseQueue := by rw [reports_releaseQueue, toRequester_releaseQueue v hp hd]
  generalize (v.toRequester tr.requester e (readWord s.mem tr.addr rd)).reportClearance.reportBlocks = t at hx hm hq
  have hvw (w : Fin 12) : v.watch w = (s.watch w).landed tr.addr d m e := by
    rw [hg.watch]
    exact map_watch s _ w
  have htw (w : Fin 12) : t.watch w = { (s.watch w).landed tr.addr d m e with marks := (t.watch w).marks } := by
    rw [hm.watch, hvw]
  refine ⟨t, hx, fun w f hf ha => ⟨fun he => ?_, fun he => ?_⟩, fun w hn => ?_, ?_, fun hd => ?_⟩
  · subst he
    rw [htw, ← ha, Watch.landed_written hf]
    exact ⟨rfl, rfl, rfl⟩
  · subst he
    rw [htw, ← ha, Watch.landed_failed hf]
    exact ⟨rfl, rfl, rfl, rfl⟩
  · rw [htw]
    rcases hn with hn | hn
    · rw [Watch.landed_uncompared hn]
    · rw [Watch.landed_far hn]
  · rw [hm.service, hg.port, ← joining_rearmed s]
    rfl
  · rw [hq hd]
    exact ho

/-! ### The reports of one landed write (R141, R142) -/

/-- A fold whose steps change nothing but for one element. -/
theorem foldl_once {α β : Type} {f : α → β → α} {a : α} {b : β} {l : List β} (hl : l.Nodup) (hb : b ∈ l)
    (h : ∀ x c, c ≠ b → f x c = x) : l.foldl f a = f a b := by
  obtain ⟨l₁, l₂, rfl⟩ := List.append_of_mem hb
  have hn := List.nodup_append.1 hl
  rw [List.foldl_append, foldl_same fun c hc => h a c (hn.2.2 c hc b List.mem_cons_self), List.foldl_cons]
  exact foldl_same fun c hc => h _ c fun e => (List.nodup_cons.1 hn.2.1).1 (e ▸ hc)

theorem landedReport_other {addr : WordAddr} {y : Watch}
    (h : y.addr = addr → y.state ≠ .compared .agrees ∧ y.state ≠ .compared .differs) (d : Word) (m : Mask) (e : Bool) (s : State)
    (w : Fin 12) : landedReport addr d m e s w y = s := by
  unfold landedReport foundOf
  split
  · rfl
  · rename_i f hf
    refine if_neg fun hc => ?_
    obtain ⟨h1, h2⟩ := h hc.1
    cases hs : y.state with
    | disarmed => simp [hs] at hf
    | arming o => simp [hs] at hf
    | compared k =>
      cases k
      · exact h1 hs
      · exact h2 hs

theorem graft_groups (s v : State) : (graft s v).groups = v.groups ∧ (graft s v).events = v.events := ⟨rfl, rfl⟩

theorem eachWatch_groups {s t : State} {f : State → Fin 12 → State} (h : graft s (watchNumbers.foldl f s) = t) :
    (s.eachWatch f).groups = t.groups ∧ (s.eachWatch f).events = t.events := by
  rw [← h]
  exact ⟨rfl, rfl⟩

/-- R137: a landed write that one watch alone observes, from a state `u` with the groups and watches of `s`. -/
theorem landedWrite_alone {s u : State} (hg : graft u s = u) (hA : s.baseA = u.baseA) (hr : s.softResetting = u.softResetting) {w : Fin 12}
    {x : Watch} (hx : u.watch w = x) {f : Found} (hs : x.state = .compared f)
    (ho : ∀ v : Fin 12, v ≠ w → (u.watch v).addr = x.addr →
      (u.watch v).state ≠ .compared .agrees ∧ (u.watch v).state ≠ .compared .differs) (d : Word) (m : Mask) {t : State}
    (ht : transited s w x f (x.compare (mergeLanes m x.shadow d)) = t) :
    (u.landedWrite x.addr d m false).groups = t.groups ∧ (u.landedWrite x.addr d m false).events = t.events ∧
      (u.landedWrite x.addr d m false).watch w =
        { x with shadow := mergeLanes m x.shadow d }.transit f (x.compare (mergeLanes m x.shadow d)) := by
  have h := foldl_landedAt u x.addr d m false
  rw [foldl_once watchNumbers_nodup (mem_watchNumbers w) fun y v hv => landedReport_other (ho v hv) d m false y v, hx] at h
  have hrep : landedReport x.addr d m false u w x = graft u t := by
    unfold landedReport
    rw [hs]
    dsimp only [foundOf]
    rw [if_pos ⟨rfl, rfl⟩, ← ht, ← transited_graft hA hr, hg]
  rw [hrep] at h
  obtain ⟨h1, h2⟩ := eachWatch_groups h
  refine ⟨h1, h2, ?_⟩
  rw [(landedWrite_step u x.addr d m false).watch, ← Watch.landed_written hs, ← hx]
  exact map_watch u _ w

/-- R100: what a performed PASS write of slot `i` leaves of groups, records and watches is what the landed write leaves. -/
theorem performed_pass {s : State} {i : Fin 16} {d : Word} {m : Mask} {a : WordAddr}
    (hc : s.port.current = some { requester := .pass i, kind := .write d m, addr := a }) (e : Bool) (rd : Word) :
    ∃ u t, exec (.transactionPerformed e rd) s = .next t ∧ graft u s = u ∧ s.baseA = u.baseA ∧ s.softResetting = u.softResetting ∧
      (∀ w, u.watch w = s.watch w) ∧ t.groups = (u.landedWrite a d m e).groups ∧ t.events = (u.landedWrite a d m e).events ∧
      ∀ w, t.watch w = (u.landedWrite a d m e).watch w := by
  refine ⟨(quiet s).acked { requester := .pass i, kind := .write d m, addr := a } e rd, _, exec_performed hc e rd, rfl, rfl, rfl, fun _ => rfl, ?_⟩
  dsimp only [State.reportLanded, State.toRequester]
  generalize ((quiet s).acked { requester := .pass i, kind := .write d m, addr := a } e rd).landedWrite a d m e = v
  obtain ⟨up, hu⟩ := passPerformed_eq v i e (readWord s.mem a rd)
  rw [hu]
  obtain ⟨h1, h2⟩ := reports_groups { v with upstream := up }
  exact ⟨h1, h2, fun w => congrArg (fun ws : Vector Watch 12 => ws[w]) (reports_watches { v with upstream := up })⟩

/-- Settles O21, by the transition. -/
theorem mismatchReported : Obligations.MismatchReported := by
  rintro w i d m rd before after x y s rfl hk ha hc hs rfl ho rfl
  rw [hk, ha] at hc
  obtain ⟨u, t, hx, hug, hA, hr, huw, hgroups, hevents, hwatch⟩ := performed_pass hc false rd
  obtain ⟨hl1, hl2, hl3⟩ := landedWrite_alone hug hA hr (huw w) hs (fun v hv => by rw [huw]; exact ho v hv) d m rfl
  rw [hl1] at hgroups
  rw [hl2] at hevents
  have hwatch := (hwatch w).trans hl3
  generalize (s.watch w).compare (mergeLanes m (s.watch w).shadow d) = after at hgroups hevents hwatch ⊢
  refine ⟨t, hx, ?_, ?_, ?_, ?_⟩
  · rintro rfl
    rw [hwatch, hgroups, hevents]
    cases before <;> exact ⟨rfl, rfl, rfl⟩
  · rintro rfl rfl hm
    rw [hwatch, hgroups, hevents]
    unfold transited
    dsimp only
    rw [if_neg hm]
    refine ⟨?_, rfl, rfl⟩
    simp [Watch.transit, hm]
  · rintro rfl rfl hm
    rw [hwatch, hgroups, hevents]
    unfold transited
    dsimp only
    rw [if_pos hm]
    refine ⟨?_, fun ha => ?_, fun ha => ?_⟩
    · simp [Watch.transit, hm]
    · rw [mismatchMade, if_neg (by simp [ha])]
      exact ⟨rfl, submit_groups _ _⟩
    · rw [mismatchMade, if_pos ha]
      exact ⟨rfl, rfl⟩
  · rintro rfl rfl
    rw [hwatch, hgroups, hevents]
    unfold transited
    dsimp only
    split
    · exact ⟨rfl, submit_groups _ _, rfl⟩
    · exact ⟨rfl, rfl, rfl⟩

end Sys2Proof.Machine

/-! PROOFS. Chapter 07: what a probe's result does (R134, R135, R136, R139). -/

namespace Sys2Proof.Machine

open Sys2Proof.Safety

theorem mismatchMade_congr (s : State) (w : Fin 12) {x y : Watch} (ha : y.action = x.action) (hg : y.tripGroup = x.tripGroup)
    (c : MismatchCause) : mismatchMade s w y c = mismatchMade s w x c := by
  unfold mismatchMade
  rw [ha, hg]

/-- R139: what follows WATCH_ARMED of a re-arm, from `u`, in which it has been submitted, for a watch with the record `y`. -/
def rearmEffect (u : State) (w : Fin 12) (y : Watch) (prior found : Found) : State :=
  match prior, found with
  | .agrees, .agrees => u
  | .agrees, .differs => if y.marks = 0 then mismatchMade u w y .write else u.setWatch w { y with deferred := true }
  | .differs, .agrees =>
    if y.deferred = false ∧ y.reportRestore = true then (u.setWatch w { y with deferred := false }).submit (.watchRestored w)
    else u.setWatch w { y with deferred := false }
  | .differs, .differs =>
    if y.deferred = true ∧ y.marks = 0 then mismatchMade (u.setWatch w { y with deferred := false }) w y .settleEnd else u

/-- R175: an event record does not depend on the watches. -/
theorem submit_setWatches (s : State) (ws : Vector Watch 12) (b : EventBody) :
    State.submit { s with watches := ws } b = { s with watches := ws, events := (s.submit b).events } :=
  submit_eq_of_congr (s := s) (t := { s with watches := ws }) rfl rfl (fun _ => rfl) b

theorem setWatch_of_eq {s : State} {w : Fin 12} {y : Watch} (h : s.watch w = y) : s.setWatch w y = s := h ▸ setWatch_self s w

/-- R139: a re-arm's probe result. -/
theorem reArmed_eq {s u : State} {w : Fin 12} {x y : Watch} {word : Word} {found : Found} (prior : Found) (hx : s.watch w = x)
    (hf : x.compare word = found) (hy : { x with shadow := word, state := .compared found, probe := .none } = y)
    (hu : (s.setWatch w y).submit (.watchArmed w found true) = u) : s.reArmed w word prior = rearmEffect u w y prior found := by
  have hw : u.watch w = y := by rw [← hu, (submit_groupsOnly _ _).watch, setWatch_watch, if_pos rfl]
  have hst : y.state = .compared found := by rw [← hy]
  have hm : y.marks = x.marks := by rw [← hy]
  have hd : y.deferred = x.deferred := by rw [← hy]
  unfold State.reArmed rearmEffect
  dsimp only
  rw [hx, hf, hy, hu]
  cases prior with
  | agrees =>
    cases found with
    | agrees => rfl
    | differs =>
      have hself : ({ y with state := .compared .differs } : Watch) = y := by
        rw [← hst]
      dsimp only [State.transition]
      unfold State.toMismatch
      rw [hw]
      dsimp only
      rw [hself, setWatch_of_eq hw, reportMismatch_eq, hw]
      split
      · rfl
      · rw [hst]
  | differs =>
    cases found with
    | agrees =>
      have hself : ({ y with state := .compared .agrees, deferred := false } : Watch) = { y with deferred := false } := by
        rw [← hst]
      dsimp only [State.transition]
      unfold State.toMatch
      rw [hw]
      dsimp only
      rw [hself]
      cases y.deferred <;> cases y.reportRestore <;> rfl
    | differs =>
      dsimp only
      rw [← hd, ← hm]
      unfold State.settleReport
      rw [hw, reportMismatch_eq, setWatch_watch, if_pos rfl, mismatchMade_congr _ w (x := y) (by rfl) (by rfl)]
      by_cases hc : y.deferred = true ∧ y.marks = 0
      · rw [if_pos hc, if_pos (by simp [hc.1, hc.2])]
      · rw [if_neg hc, if_neg (by simpa using hc)]

/-! ### A probe's answer -/

/-- R100: the state in which a probe's read of the word `a` is answered. -/
def State.probed (s : State) (a : WordAddr) (e : Bool) (rd : Word) : State :=
  { quiet s with
    port := { s.port with current := none }
    mem := if e then s.mem else writeWord s.mem a (readWord s.mem a rd) 0xF#4 }

theorem probed_watch (s : State) (a : WordAddr) (e : Bool) (rd : Word) (w : Fin 12) : (s.probed a e rd).watch w = s.watch w := rfl

theorem exec_probeAnswered {s : State} {w : Fin 12} {a : WordAddr}
    (hc : s.port.current = some { requester := .probe w, kind := .read, addr := a }) (hcl : ClearanceOk s) (e : Bool) (rd : Word) {t : State}
    (ht : (s.probed a e rd).probeResult w e (readWord s.mem a rd) = t) :
    exec (.transactionPerformed e rd) s = .next (reported t) := by
  rw [exec_performed hc e rd]
  dsimp only [State.reportLanded, State.toRequester]
  have hs : (quiet s).acked { requester := .probe w, kind := .read, addr := a } e rd = s.probed a e rd := by
    cases e <;> rfl
  have hw := probeResult_watchesOnly ((quiet s).acked { requester := .probe w, kind := .read, addr := a } e rd) w e (readWord s.mem a rd)
  rw [hs] at hw ⊢
  rw [ht] at hw ⊢
  have hok : ClearanceOk t := by
    obtain ⟨_, _, _, _, _, _, rfl⟩ := hw
    exact hcl
  rw [reportClearance_of_ok hok, reportBlocks_eq]

theorem probeResult_dropped {s : State} {w : Fin 12} {x : Watch} (hx : s.watch w = x) (h : x.probe ≠ .inFlight) (e : Bool) (word : Word) :
    s.probeResult w e word = s.setWatch w { x with probe := if x.probe = .orphaned then .none else x.probe } := by
  unfold State.probeResult
  dsimp only
  rw [hx]
  have hself : x.probe ≠ .orphaned → s = s.setWatch w { x with probe := if x.probe = .orphaned then .none else x.probe } := by
    intro ho
    rw [if_neg ho]
    exact (setWatch_of_eq hx).symm
  cases hp : x.probe with
  | none => rw [hp] at hself; exact hself (by simp)
  | raised => rw [hp] at hself; exact hself (by simp)
  | inFlight => exact absurd hp h
  | orphaned => rfl

/-- R139: the result of a first probe or of a re-arm's, by the origin of the arming. -/
def State.probeRead (s : State) (w : Fin 12) (word : Word) : Origin → State
  | .arm => s.armed w word
  | .reArm prior => s.reArmed w word prior

theorem probeResult_inFlight {s : State} {w : Fin 12} {x : Watch} {o : Origin} (hx : s.watch w = x) (h : x.probe = .inFlight)
    (hs : x.state = .arming o) (e : Bool) (word : Word) :
    s.probeResult w e word = if e then s.armFailed w (o ≠ .arm) else s.probeRead w word o := by
  unfold State.probeResult
  dsimp only
  rw [hx, h, hs]
  cases o <;> cases e <;> rfl

/-- R175: an event record submitted beside the answer and the watch's record. -/
theorem probed_submit (s : State) (a : WordAddr) (e : Bool) (rd : Word) (w : Fin 12) (y : Watch) (b : EventBody) :
    ((s.probed a e rd).setWatch w y).submit b = { (s.probed a e rd).setWatch w y with events := (s.submit b).events } :=
  submit_eq_of_congr (s := s) (t := (s.probed a e rd).setWatch w y) rfl rfl (fun _ => rfl) b

/-- Settles O22, by the probe's field and the watch's state. -/
theorem probeAnswered : Obligations.ProbeAnswered := by
  refine ⟨fun w e rd word x s hx hc hcl hw => ⟨fun hs hp he => ?_, fun o hs hp he => ?_⟩, fun w a e rd x s hx hc hcl hp => ?_,
    fun w rd word prior found x y s s' hx hc hcl hw hs hp hf hy hs' => ?_⟩
  · subst he hw
    refine exec_probeAnswered hc hcl false rd ?_
    rw [probeResult_inFlight (s := s.probed _ _ _) (x := x) hx.symm hp hs, if_neg (by simp)]
    dsimp only [State.probeRead]
    unfold State.armed
    rw [probed_submit, probed_watch, ← hx]
    rfl
  · subst he hw
    refine exec_probeAnswered hc hcl true rd ?_
    rw [probeResult_inFlight (s := s.probed _ _ _) (x := x) hx.symm hp hs, if_pos rfl]
    unfold State.armFailed
    rw [probed_submit, probed_watch, ← hx]
    rfl
  · refine exec_probeAnswered hc hcl e rd ?_
    rw [probeResult_dropped (s := s.probed _ _ _) (x := x) hx.symm hp]
    rfl
  · subst hw
    refine exec_probeAnswered hc hcl false rd ?_
    rw [probeResult_inFlight (s := s.probed _ _ _) (x := x) hx.symm hp hs, if_neg (by simp)]
    dsimp only [State.probeRead]
    rw [reArmed_eq (s := s.probed _ _ _) (u := s') prior hx.symm hf.symm hy.symm
      (by rw [probed_submit, hs']; rfl)]
    have hset (z : Watch) : s'.setWatch w z = { s' with watches := s.watches.set w z } := by
      have hws : s'.watches = s.watches.set w y := by rw [hs']
      unfold State.setWatch
      rw [hws, Vector.set_set]
    have hmis (u : State) (c : MismatchCause) : mismatchMade u w y c = mismatchMade u w x c :=
      mismatchMade_congr u w (by rw [hy]) (by rw [hy]) c
    have hm : y.marks = x.marks := by rw [hy]
    have hd : y.deferred = x.deferred := by rw [hy]
    have hr : y.reportRestore = x.reportRestore := by rw [hy]
    clear hs' hy hf
    unfold rearmEffect
    rw [hmis, hmis, hset, hset, hm, hd, hr]
    cases prior <;> cases found <;> dsimp only
    · by_cases hc : x.deferred = false ∧ x.reportRestore = true
      · rw [if_pos hc, if_pos hc]
        exact submit_setWatches s' _ _
      · rw [if_neg hc, if_neg hc]

end Sys2Proof.Machine

/-! PROOFS. Chapter 07: the end of a settle window (R145), and ARM_WATCH, DISARM_WATCH and SET_REFERENCE (R133, R136, R143). -/

namespace Sys2Proof.Machine

open Sys2Proof.Safety

/-! ### Settle windows (R145) -/

theorem atMark_iff (s : State) (b : Base) : s.atMark b = true ↔ AtMark (s.base b) := by
  unfold State.atMark AtMark
  rw [Bool.and_eq_true, beq_iff_eq]

theorem markDue_iff (s : State) (b : Base) : s.markDue b = true ↔ MarkDue s b := by
  cases b with
  | timeA => exact atMark_iff s .timeA
  | timeB =>
    unfold State.markDue MarkDue
    dsimp only
    rw [Bool.or_eq_true, Bool.and_eq_true, Bool.and_eq_true, Bool.and_eq_true, atMark_iff, atMark_iff, bne_iff_ne]
    unfold RestartsB
    simp only [State.base, and_assoc]

theorem mismatchMade_setWatch (s : State) (w : Fin 12) (z x : Watch) (c : MismatchCause) :
    mismatchMade (s.setWatch w z) w x c = graft (s.setWatch w z) (mismatchMade s w x c) :=
  mismatchMade_graft (s := s.setWatch w z) (v := s) rfl rfl w x c

theorem endReported_of_not {y : Watch} (h : y.state ≠ .compared .differs ∨ y.deferred = false) (s : State) (w : Fin 12) :
    endReported s w y = s := by
  refine if_neg fun hc => ?_
  rcases h with h | h
  · exact h hc.2.1
  · simp [h] at hc

/-- Settles O23. -/
theorem settleWindowEnds : Obligations.SettleWindowEnds := by
  rintro w x y s s' rfl rfl rfl
  have hexec : exec (.settleWindowEnd w) s =
      .next (if (s.watch w).marks = 1 && s.markDue (s.watch w).settleBase then (quiet s).settleMarkAt w else quiet s) := rfl
  refine ⟨fun h => ?_, fun hm hd => ?_⟩
  · rw [hexec, if_neg]
    rw [Bool.and_eq_true, decide_eq_true_eq, markDue_iff]
    rintro ⟨h1, h2⟩
    rcases h with h | h
    · exact h h1
    · exact h h2
  · have hr : exec (.settleWindowEnd w) s = .next (graft ((quiet s).setWatch w (s.watch w).marked) (endReported (quiet s) w (s.watch w))) := by
      rw [hexec, if_pos (by rw [Bool.and_eq_true, decide_eq_true_eq, markDue_iff]; exact ⟨hm, hd⟩), settleMarkAt_eq]
      rfl
    refine ⟨fun hs hf => ?_, fun hn => ?_⟩
    · have hmark : (s.watch w).marked = { s.watch w with marks := 0, deferred := false } := by
        unfold Watch.marked
        simp [hm, hs]
      have hrep : endReported (quiet s) w (s.watch w) = mismatchMade (quiet s) w (s.watch w) .settleEnd := if_pos ⟨hm, hs, hf⟩
      rw [hr, hmark, hrep, ← mismatchMade_setWatch]
      rfl
    · have hmark : (s.watch w).marked = { s.watch w with marks := 0 } := by
        have hk : ((s.watch w).deferred && !(decide ((s.watch w).marks = 1) && decide ((s.watch w).state = .compared .differs))) =
            (s.watch w).deferred := by
          rcases hn with h | h
          · simp [h]
          · simp [h]
        unfold Watch.marked
        rw [hk, hm]
      rw [hr, hmark, endReported_of_not hn]
      rfl

/-! ### Watch commands -/

theorem arm_of_disarmed {s : State} {w : Fin 12} (h : (s.watch w).state = .disarmed) : s.arm w = .ok ([], s.armWatch w) :=
  if_neg (by simp [h])

theorem arm_of_not {s : State} {w : Fin 12} (h : (s.watch w).state ≠ .disarmed) : s.arm w = .error .badState := if_pos h

theorem disarm_of_disarmed {s : State} {w : Fin 12} (h : (s.watch w).state = .disarmed) : s.disarm w = .error .badState := if_pos h

theorem disarm_of_not {s : State} {w : Fin 12} (h : (s.watch w).state ≠ .disarmed) : s.disarm w = .ok ([], s.disarmWatch w) := if_neg h

/-- R136: DISARM_WATCH's effect in Safety's words. -/
theorem disarmWatch_eq (s : State) (w : Fin 12) :
    s.disarmWatch w = { s with
      watches := s.watches.set w { s.watch w with
        state := .disarmed, deferred := false, marks := 0
        probe := (s.watch w).probe.afterDisarm }
      port := { s.port with
        service := if (s.watch w).probe = .raised then s.port.service.filter (fun r => r != .probe w) else s.port.service } } := by
  unfold State.disarmWatch
  dsimp only
  split <;> rfl

/-- SET_REFERENCE of a watch, with the link free. -/
theorem exec_setReference {s t : State} (h : LinkReady s) (w : Fin 12) (r k : Word)
    (ht : (readied s s).setReference w r k = readied s t) :
    exec (.setReference (watchByte w) r k) s = .next (taken s t 0x42#8 [(t.watch w).state.code]) := by
  rw [exec_immediate h (c := .setReference (watchByte w) r k) rfl, withWatch_watchByte, State.newReference]
  rw [ht]
  rfl

theorem readied_mismatchMade (s t : State) (ht : t.link.pending = s.link.pending) (w : Fin 12) (x : Watch) (c : MismatchCause) :
    mismatchMade (readied s t) w x c = readied s (mismatchMade t w x c) := by
  have hl : (t.submit (.watchMismatch w c)).link.pending = s.link.pending := by rw [(submit_groupsOnly _ _).link, ht]
  unfold mismatchMade
  rw [readied_submit, readied_tripSource hl]
  split <;> rfl

/-- R143: the return to MATCH by SET_REFERENCE, of a watch with the new record `y`. -/
theorem readied_toMatch (s : State) (w : Fin 12) (y : Watch) :
    (readied s (s.setWatch w y)).toMatch w = readied s { s with
      watches := s.watches.set w { y with state := .compared .agrees, deferred := false }
      events := if y.deferred = false ∧ y.reportRestore then (s.submit (.watchRestored w)).events else s.events } := by
  have hw : (readied s (s.setWatch w y)).watch w = y := (setWatch_watch s w w y).trans (if_pos rfl)
  have hset : (readied s (s.setWatch w y)).setWatch w { y with state := .compared .agrees, deferred := false } =
      readied s (s.setWatch w { y with state := .compared .agrees, deferred := false }) :=
    congrArg (readied s) (setWatch_setWatch s w y _)
  have hsub : (s.setWatch w { y with state := .compared .agrees, deferred := false }).submit (.watchRestored w) = { s with
      watches := s.watches.set w { y with state := .compared .agrees, deferred := false }
      events := (s.submit (.watchRestored w)).events } := submit_setWatches s _ _
  unfold State.toMatch
  rw [hw]
  dsimp only
  rw [hset, readied_submit, hsub]
  cases y.deferred <;> cases y.reportRestore <;> rfl

/-- Settles O24, command by command. -/
theorem watchCommands : Obligations.WatchCommands := by
  refine ⟨fun w x s h hx => ?_, fun w r k x y s s' h hx hy hs' => ?_⟩
  · subst hx
    have harm := exec_immediate h (c := .armWatch (watchByte w)) rfl
    have hdis := exec_immediate h (c := .disarmWatch (watchByte w)) rfl
    rw [withWatch_watchByte] at harm hdis
    refine ⟨fun hd => ?_, fun hd => ?_, fun hd => ?_, fun hd => ?_⟩
    · rw [harm, arm_of_disarmed (by exact hd)]
      rfl
    · rw [harm, arm_of_not (by exact hd)]
      rfl
    · rw [hdis, disarm_of_not (by exact hd), disarmWatch_eq]
      have hw : (readied s s).watch w = s.watch w := rfl
      rw [hw]
      generalize s.watch w = x
      cases x.probe <;> rfl
    · rw [hdis, disarm_of_disarmed (by exact hd)]
      rfl
  · subst hx
    refine ⟨fun hst => ?_, fun hst hc => ?_, fun hst hc => ?_⟩
    · have hsame : (readied s s).setReference w r k = readied s (s.setWatch w y) := by
        rw [setReference_same, hy]
        · rfl
        · intro f hf
          have hf' : (s.watch w).state = .compared f := hf
          rw [hy] at hst
          rw [hf'] at hst
          obtain hst | hst | ⟨_, hst⟩ | ⟨f', hst, hc⟩ := hst
          · cases hst
          · cases hst
          · cases hst
          · cases hst
            exact hc
      rw [exec_setReference h w r k hsame, setWatch_watch, if_pos rfl, hy]
      rfl
    · have hsub : (s.setWatch w { y with state := .compared .differs }).submit (.watchMismatch w .reference) = s' := by
        rw [hs']
        exact submit_setWatches s _ _
      have hd : (readied s s).setReference w r k =
          readied s (mismatchMade (s.setWatch w { y with state := .compared .differs }) w (s.watch w) .reference) := by
        have hr : (readied s s).setReference w r k =
            ((readied s s).setWatch w { y with state := .compared .differs }).reportMismatch w .reference := by
          rw [setReference_differs (by exact hst) (by rw [hy] at hc; exact hc), hy]
          rfl
        rw [hr, reportMismatch_eq, setWatch_watch, if_pos rfl, ← readied_mismatchMade _ _ (by rfl),
          mismatchMade_congr _ w (x := s.watch w) (by rw [hy]) (by rw [hy])]
        rfl
      have hw : (mismatchMade (s.setWatch w { y with state := .compared .differs }) w (s.watch w) .reference).watch w =
          { y with state := .compared .differs } := by
        rw [(mismatchMade_groupsOnly _ _ _ _).watch, setWatch_watch, if_pos rfl]
      rw [exec_setReference h w r k hd, hw]
      unfold mismatchMade
      rw [hsub]
      rfl
    · have hd : (readied s s).setReference w r k = readied s { s with
          watches := s.watches.set w { y with state := .compared .agrees, deferred := false }
          events := if (s.watch w).deferred = false ∧ (s.watch w).reportRestore then (s.submit (.watchRestored w)).events else s.events } := by
        have hr : (readied s s).setReference w r k = (readied s (s.setWatch w y)).toMatch w := by
          rw [setReference_agrees (by exact hst) (by rw [hy] at hc; exact hc), hy]
          rfl
        have hdef : y.deferred = (s.watch w).deferred := by rw [hy]
        have hrep : y.reportRestore = (s.watch w).reportRestore := by rw [hy]
        rw [hr, ← hdef, ← hrep]
        exact readied_toMatch s w y
      have hw : State.watch { s with
          watches := s.watches.set w { y with state := .compared .agrees, deferred := false }
          events := if (s.watch w).deferred = false ∧ (s.watch w).reportRestore then (s.submit (.watchRestored w)).events else s.events } w =
            { y with state := .compared .agrees, deferred := false } :=
        (setWatch_watch s w w _).trans (if_pos rfl)
      rw [exec_setReference h w r k hd, hw]
      rfl

end Sys2Proof.Machine

/-! PROOFS. Chapter 04: the folds of one event over the groups (R73, R75, R83, R108), with the choice of groups made from the
configurations, which no candidate and no trip source changes. -/

namespace Sys2Proof.Machine

open Sys2Proof.Safety

/-! ### Configurations -/

/-- Every group's configuration is the same. -/
def SameConfigs (s t : State) : Prop := ∀ g, (t.group g).config = (s.group g).config

namespace SameConfigs

variable {s t u : State}

theorem refl (s : State) : SameConfigs s s := fun _ => rfl

theorem trans (h : SameConfigs s t) (k : SameConfigs t u) : SameConfigs s u := fun g => (k g).trans (h g)

theorem setGroup (s : State) {g : Fin 8} {x : Group} (hx : x.config = (s.group g).config) : SameConfigs s (s.setGroup g x) := by
  intro h
  rw [setGroup_group]
  split
  · rename_i e
    rw [hx, e]
  · rfl

theorem submit (s : State) (b : EventBody) : SameConfigs s (s.submit b) := fun g => by rw [submit_group]

theorem tripSource (s : State) (g : Fin 8) (x : TripSource) : SameConfigs s (s.tripSource g x) := fun h => tripSource_config s g h x

theorem releasePoint (s : State) (g : Fin 8) : SameConfigs s (s.releasePoint g).1 := by
  rcases releasePoint_cases s g with ⟨e, -⟩ | ⟨-, ⟨-, -, e⟩ | ⟨b, -, hb, -, e⟩ | ⟨b, -, -, -, e⟩ | ⟨-, -, e⟩⟩ <;> rw [e]
  · exact .refl s
  · unfold State.miss
    dsimp only
    split
    · exact ((setGroup s (by rfl)).trans (submit _ _)).trans (tripSource _ _ _)
    · exact (setGroup s (by rfl)).trans (submit _ _)
  · have h := setGroup (x := { s.group g with consecutive := 0 }) s rfl
    unfold State.queueSealed
    rw [queueOther_of_some _ g b (by simpa using hb)]
    refine h.trans (.trans (setGroup _ ?_) (refl _))
    rfl
  · exact (setGroup (x := { s.group g with overruns := bump (s.group g).overruns }) s rfl).trans (submit _ _)
  · exact (setGroup s (by rfl)).trans (submit _ _)

theorem candidate (s : State) (g : Fin 8) : SameConfigs s (s.candidate g) := by
  rcases candidate_cases s g with ⟨-, e⟩ | ⟨-, ⟨-, e⟩ | ⟨-, e⟩⟩ <;> rw [e]
  · exact .refl s
  · exact setGroup s rfl
  · exact (setGroup (x := { s.group g with skipRemaining := (s.group g).config.skip }) s rfl).trans (releasePoint _ _)

end SameConfigs

/-! ### Folds over the groups -/

/-- A fold's choice that its steps do not change may be made beforehand. -/
theorem foldl_static {I : State → Prop} {p : State → Fin 8 → Prop} {q : Fin 8 → Prop} [∀ s g, Decidable (p s g)] [DecidablePred q]
    {f : State → Fin 8 → State} (hp : ∀ v g, I v → (p v g ↔ q g)) (hf : ∀ v g, I v → I (f v g)) (l : List (Fin 8)) {s : State} (hs : I s) :
    l.foldl (fun v g => if p v g then f v g else v) s = l.foldl (fun v g => if q g then f v g else v) s := by
  induction l generalizing s with
  | nil => rfl
  | cons g l ih =>
    rw [List.foldl_cons, List.foldl_cons]
    by_cases hq : q g
    · rw [if_pos hq, if_pos ((hp s g hs).2 hq)]
      exact ih (hf s g hs)
    · rw [if_neg hq, if_neg (mt (hp s g hs).1 hq)]
      exact ih hs

/-- A fold whose steps change nothing but for one element, in the states it passes through. -/
theorem foldl_only {α β : Type} {f : α → β → α} {a : α} {b : β} {l : List β} {I : α → Prop} (hl : l.Nodup) (hb : b ∈ l) (ha : I a)
    (hfb : I (f a b)) (h : ∀ x c, I x → c ≠ b → f x c = x) : l.foldl f a = f a b := by
  obtain ⟨l₁, l₂, rfl⟩ := List.append_of_mem hb
  have hn := List.nodup_append.1 hl
  rw [List.foldl_append, foldl_same fun c hc => h a c ha (hn.2.2 c hc b List.mem_cons_self), List.foldl_cons]
  exact foldl_same fun c hc => h _ c hfb fun e => (List.nodup_cons.1 hn.2.1).1 (e ▸ hc)

/-! ### Phase matches (R75) -/

theorem phaseMatch_iff (s : State) (b : Base) (g : Fin 8) :
    s.phaseMatch b g = true ↔
      (s.group g).config.trigger = .timed ∧ (s.group g).config.base = b ∧ (s.group g).config.phase = (s.base b).count := by
  simp only [State.phaseMatch, Bool.and_eq_true, beq_iff_eq, and_assoc]

/-- R75: the candidates of a count are those of the configurations as they stand. -/
theorem phaseMatches_eq {s u : State} {b : Base} {n : Nat} (hu : SameConfigs s u) (hn : (u.base b).count = n) :
    u.phaseMatches b = phaseCandidates s b n u := by
  unfold State.phaseMatches phaseCandidates
  rw [groupNumbers_eq]
  refine foldl_static (I := fun v => SameConfigs s v ∧ (v.base b).count = n) (fun v g hv => ?_) (fun v g hv => ?_) _ ⟨hu, hn⟩
  · rw [phaseMatch_iff, hv.1 g, hv.2]
  · exact ⟨hv.1.trans (.candidate v g), by rw [(candidate_groupsOnly v g).base]; exact hv.2⟩

theorem phaseMatches_inOrder (s : State) (b : Base) : JoinInOrder s.releaseQueue (s.phaseMatches b).releaseQueue :=
  joinInOrder_foldl (fun u g => joinStep_ite (candidate_joinStep u g)) s

/-- R75: one phase match alone. -/
theorem phaseMatches_one {s : State} {b : Base} {g : Fin 8} (hg : s.phaseMatch b g = true)
    (h : ∀ k, k ≠ g → s.phaseMatch b k = false) : s.phaseMatches b = s.candidate g := by
  have hp (v : State) (hc : SameConfigs s v) (hb : v.base b = s.base b) (k : Fin 8) : v.phaseMatch b k = s.phaseMatch b k := by
    rw [Bool.eq_iff_iff, phaseMatch_iff, phaseMatch_iff, hc k, hb]
  have hstep : (if s.phaseMatch b g = true then s.candidate g else s) = s.candidate g := if_pos hg
  refine (foldl_only (I := fun v => SameConfigs s v ∧ v.base b = s.base b) groupNumbers_nodup (mem_groupNumbers g) ⟨.refl s, rfl⟩ ?_
    fun v k hv hk => ?_).trans hstep
  · rw [hstep]
    exact ⟨.candidate s g, (candidate_groupsOnly s g).base b⟩
  · rw [hp v hv.1 hv.2, h k hk]
    rfl

/-! ### Line candidates (R73) -/

theorem lineCandidates_eq {s u : State} (n : Fin 4) (hu : SameConfigs s u) : u.lineCandidates n = lineCandidatesOf s n u := by
  unfold State.lineCandidates lineCandidatesOf
  rw [groupNumbers_eq]
  refine foldl_static (I := SameConfigs s) (fun v g hv => ?_) (fun v g hv => hv.trans (.candidate v g)) _ hu
  rw [Bool.and_eq_true, decide_eq_true_eq, decide_eq_true_eq, hv g]

theorem lineCandidates_inOrder (s : State) (n : Fin 4) : JoinInOrder s.releaseQueue (s.lineCandidates n).releaseQueue :=
  joinInOrder_foldl (fun u g => joinStep_ite (candidate_joinStep u g)) s

/-- R73: no LINE group, no candidate. -/
theorem lineCandidatesOf_none {s : State} {n : Fin 4}
    (h : ∀ g : Fin 8, (s.group g).config.trigger = .line → (s.group g).config.releaseLine ≠ n) (u : State) : lineCandidatesOf s n u = u :=
  foldl_same fun g _ => if_neg fun hc => h g hc.1 hc.2

/-- R73: one LINE group alone. -/
theorem lineCandidatesOf_one {s : State} {n : Fin 4} {g : Fin 8} (ht : (s.group g).config.trigger = .line)
    (hn : (s.group g).config.releaseLine = n)
    (h : ∀ k : Fin 8, k ≠ g → (s.group k).config.trigger = .line → (s.group k).config.releaseLine ≠ n) (u : State) :
    lineCandidatesOf s n u = u.candidate g :=
  (foldl_once (List.nodup_finRange 8) (List.mem_finRange g) fun _ k hk => if_neg fun hc => h k hk hc.1 hc.2).trans (if_pos ⟨ht, hn⟩)

/-! ### Fault lines (R108) -/

theorem lineReported_inOrder (s : State) (n : Fin 2) : JoinInOrder s.releaseQueue (lineReported s n).releaseQueue := by
  unfold lineReported
  rw [← groupNumbers_eq]
  exact joinInOrder_foldl (fun u g => joinStep_ite (tripSource_joinStep u g _)) s

/-- R112: a trip source of a group leaves the other groups. -/
theorem tripSource_other (s : State) {g k : Fin 8} (x : TripSource) (h : k ≠ g) : (s.tripSource g x).group k = s.group k := by
  rcases tripSource_cases s g x with ⟨-, e⟩ | ⟨-, -, e⟩ | ⟨-, -, e⟩ <;> rw [e]
  · exact (firstTrip_onlyGroup s g x).others k h
  · rw [State.secondFault, setGroup_group, if_neg (Ne.symm h)]

theorem tripSource_off {s : State} {g : Fin 8} (h : (s.group g).state = .off) (x : TripSource) : s.tripSource g x = s := by
  rcases tripSource_cases s g x with ⟨-, e⟩ | ⟨-, hst, -⟩ | ⟨-, hst, -⟩
  · exact e
  · rw [h] at hst
    rcases hst with hst | hst <;> cases hst
  · rw [h] at hst
    rcases hst with hst | hst <;> cases hst

theorem lineReported_off {s : State} {n : Fin 2} (h : ∀ g : Fin 8, (s.group g).config.lineEnabled n = true → (s.group g).state = .off) :
    lineReported s n = s := by
  refine foldl_same fun g _ => ?_
  split
  · exact tripSource_off (h g ‹_›) _
  · rfl

theorem lineReported_one {s : State} {n : Fin 2} {g : Fin 8} (hg : (s.group g).config.lineEnabled n = true)
    (h : ∀ k : Fin 8, k ≠ g → (s.group k).config.lineEnabled n = true → (s.group k).state = .off) :
    lineReported s n = s.tripSource g (.line n) := by
  have hstep : (if (s.group g).config.lineEnabled n = true then s.tripSource g (.line n) else s) = s.tripSource g (.line n) := if_pos hg
  refine (foldl_only (I := fun v => ∀ k, k ≠ g → v.group k = s.group k) (List.nodup_finRange 8) (List.mem_finRange g) (fun _ _ => rfl)
    (fun k hk => ?_) fun v k hv hk => ?_).trans hstep
  · rw [hstep]
    exact tripSource_other s _ hk
  · split
    · exact tripSource_off (by rw [hv k hk]; exact h k hk ‹_›) _
    · rfl

end Sys2Proof.Machine

/-! PROOFS. Chapters 04 and 06: the qualification of release and fault lines (O32, O33), and the ticks and period marks of the time
bases (O30, O31). -/

namespace Sys2Proof.Machine

open Sys2Proof.Safety

/-! ### Release lines (R72, R73) -/

theorem exec_releaseLine (n : Fin 4) (high : Bool) (cycles : Nat) (s : State) :
    exec (.releaseLineQualifiedEdge n high cycles) s = .next ((quiet s).sampleReleaseLine n high (if s.inReset then 0 else cycles)) := rfl

theorem sampleReleaseLine_zero (s : State) (n : Fin 4) (high : Bool) :
    s.sampleReleaseLine n high 0 = s.setReleaseLine n { s.releaseLines[n] with pin := high } := by
  unfold State.sampleReleaseLine
  exact if_pos rfl

theorem sampleReleaseLine_same {s : State} {n : Fin 4} {high : Bool} {cycles : Nat} (hc : cycles ≠ 0) (h : high = s.releaseLines[n].level) :
    s.sampleReleaseLine n high cycles = s.setReleaseLine n { s.releaseLines[n] with pin := high, count := 0 } := by
  unfold State.sampleReleaseLine
  rw [if_neg hc, if_pos h]

theorem sampleReleaseLine_counting {s : State} {n : Fin 4} {high : Bool} {cycles : Nat} (hc : cycles ≠ 0)
    (h : high ≠ s.releaseLines[n].level) (hq : s.releaseLines[n].count + cycles < s.releaseLines[n].qual) :
    s.sampleReleaseLine n high cycles =
      s.setReleaseLine n { s.releaseLines[n] with pin := high, count := s.releaseLines[n].count + cycles } := by
  have hqual : qualify s.releaseLines[n].qual s.releaseLines[n].count cycles = some (s.releaseLines[n].count + cycles) :=
    if_neg (Nat.not_le_of_lt hq)
  unfold State.sampleReleaseLine
  rw [if_neg hc, if_neg h]
  dsimp only
  rw [hqual]

theorem sampleReleaseLine_edge {s : State} {n : Fin 4} {high : Bool} {cycles : Nat} (hc : cycles ≠ 0)
    (h : high ≠ s.releaseLines[n].level) (hq : s.releaseLines[n].qual ≤ s.releaseLines[n].count + cycles) {u : State}
    (hu : u = s.setReleaseLine n { s.releaseLines[n] with pin := high, level := high, count := 0 }) :
    s.sampleReleaseLine n high cycles = if s.releaseLines[n].edge.accepts high then u.lineCandidates n else u := by
  have hqual : qualify s.releaseLines[n].qual s.releaseLines[n].count cycles = none := if_pos hq
  unfold State.sampleReleaseLine
  rw [if_neg hc, if_neg h]
  dsimp only
  rw [hqual, hu]

theorem accepts_iff (e : EdgeChoice) (high : Bool) :
    e.accepts high = true ↔ e = .both ∨ e = (if high then .rising else .falling) := by
  cases e <;> cases high <;> simp [EdgeChoice.accepts]

theorem not_accepts {e : EdgeChoice} {high : Bool} (h : e = .rising ∧ high = false ∨ e = .falling ∧ high = true) :
    e.accepts high = false := by
  rcases h with ⟨rfl, rfl⟩ | ⟨rfl, rfl⟩ <;> rfl

/-- Settles O32, by the pin level, the cycles and the edge choice. -/
theorem releaseLineQualified : Obligations.ReleaseLineQualified := by
  intro n high cycles l s hl
  have hexec := exec_releaseLine n high cycles s
  refine ⟨fun h => ?_, fun hr hc => ?_⟩
  · have hz : (if s.inReset = true then 0 else cycles) = 0 := by
      rcases h with h | h
      · rw [if_pos h]
      · rw [h, ite_self]
    rw [hexec, hz, sampleReleaseLine_zero, hl]
    rfl
  · rw [hr, if_neg (by simp)] at hexec
    refine ⟨fun h => ?_, fun h hq => ?_, fun h hq => ?_⟩
    · rw [hexec, sampleReleaseLine_same hc (by rw [hl] at h; exact h), hl]
      rfl
    · rw [hexec, sampleReleaseLine_counting hc (by rw [hl] at h; exact h) (by rw [hl] at hq; exact hq), hl]
      rfl
    · obtain ⟨u, hu⟩ : ∃ u, u = { quiet s with releaseLines := s.releaseLines.set n { l with level := high, count := 0 } } := ⟨_, rfl⟩
      have hedge : l.edge = s.releaseLines[n].edge := by rw [hl]
      have hsame : SameConfigs s u := by
        rw [hu]
        exact fun _ => rfl
      have hq' : u.releaseQueue = s.releaseQueue := by rw [hu]; rfl
      rw [sampleReleaseLine_edge (u := u) hc (by rw [hl] at h; exact h) (by rw [hl] at hq; exact hq) (by rw [hu, hl]; rfl),
        lineCandidates_eq n hsame] at hexec
      have hexec : exec (.releaseLineQualifiedEdge n high cycles) s =
          .next (if s.releaseLines[n].edge.accepts high then lineCandidatesOf s n u else u) := hexec
      rw [← hu, hedge]
      have hyes (h : s.releaseLines[n].edge = .both ∨ s.releaseLines[n].edge = (if high then .rising else .falling)) :
          exec (.releaseLineQualifiedEdge n high cycles) s = .next (lineCandidatesOf s n u) := by
        rw [hexec]
        exact congrArg Host.Outcome.next (if_pos ((accepts_iff _ _).2 h))
      refine ⟨fun h => ?_, fun g he ht hn ho => ?_, fun he => ⟨_, hyes he, rfl, ?_⟩⟩
      · rw [hexec]
        refine congrArg Host.Outcome.next ?_
        have hno : (∀ g : Fin 8, (s.group g).config.trigger = .line → (s.group g).config.releaseLine ≠ n) ∨
            s.releaseLines[n].edge.accepts high = false := by
          rcases h with h | h | h
          · exact .inr (not_accepts (.inl h))
          · exact .inr (not_accepts (.inr h))
          · exact .inl h
        rcases hno with h | h
        · rw [lineCandidatesOf_none h, ite_self]
        · exact if_neg (Bool.eq_false_iff.1 h)
      · rw [hyes he, lineCandidatesOf_one ht hn ho]
      · rw [← lineCandidates_eq n hsame, ← hq']
        exact lineCandidates_inOrder u n

/-! ### Fault lines (R107, R108) -/

theorem exec_faultLine (n : Fin 2) (high : Bool) (cycles : Nat) (s : State) :
    exec (.faultLineQualifiedEdge n high cycles) s = .next ((quiet s).sampleFaultLine n high (if s.inReset then 0 else cycles)) := rfl

theorem sampleFaultLine_zero (s : State) (n : Fin 2) (high : Bool) :
    s.sampleFaultLine n high 0 = s.setFaultLine n { s.faultLines[n] with pin := high } := by
  unfold State.sampleFaultLine
  exact if_pos rfl

theorem sampleFaultLine_same {s : State} {n : Fin 2} {high : Bool} {cycles : Nat} (hc : cycles ≠ 0) (h : high = s.faultLines[n].level) :
    s.sampleFaultLine n high cycles = s.setFaultLine n { s.faultLines[n] with pin := high, count := 0 } := by
  unfold State.sampleFaultLine
  rw [if_neg hc, if_pos h]

theorem sampleFaultLine_counting {s : State} {n : Fin 2} {high : Bool} {cycles : Nat} (hc : cycles ≠ 0)
    (h : high ≠ s.faultLines[n].level) (hq : s.faultLines[n].count + cycles < s.faultLines[n].qual) :
    s.sampleFaultLine n high cycles =
      s.setFaultLine n { s.faultLines[n] with pin := high, count := s.faultLines[n].count + cycles } := by
  have hqual : qualify s.faultLines[n].qual s.faultLines[n].count cycles = some (s.faultLines[n].count + cycles) :=
    if_neg (Nat.not_le_of_lt hq)
  unfold State.sampleFaultLine
  rw [if_neg hc, if_neg h]
  dsimp only
  rw [hqual]

/-- R108: a qualified change of level is reported where the line becomes active. -/
theorem sampleFaultLine_edge {s : State} {n : Fin 2} {high : Bool} {cycles : Nat} (hc : cycles ≠ 0)
    (h : high ≠ s.faultLines[n].level) (hq : s.faultLines[n].qual ≤ s.faultLines[n].count + cycles) {u : State}
    (hu : u = s.setFaultLine n { s.faultLines[n] with pin := high, level := high, count := 0 }) :
    s.sampleFaultLine n high cycles = if high = s.faultLines[n].activeHigh then lineReported u n else u := by
  have hqual : qualify s.faultLines[n].qual s.faultLines[n].count cycles = none := if_pos hq
  have hact : (s.lineActive n = false ∧ FaultLine.active { s.faultLines[n] with pin := high, level := high, count := 0 } = true) ↔
      high = s.faultLines[n].activeHigh := by
    unfold State.lineActive FaultLine.active
    revert h
    cases s.faultLines[n].level <;> cases s.faultLines[n].activeHigh <;> cases high <;> simp
  unfold State.sampleFaultLine
  rw [if_neg hc, if_neg h]
  dsimp only
  rw [hqual]
  refine (changeFaultLine_eq s n _).trans ?_
  rw [← hu]
  exact if_congr hact rfl rfl

/-- Settles O33, by the pin level, the cycles and the line's active level. -/
theorem faultLineQualified : Obligations.FaultLineQualified := by
  intro n high cycles l s hl
  have hexec := exec_faultLine n high cycles s
  refine ⟨fun h => ?_, fun hr hc => ?_⟩
  · have hz : (if s.inReset = true then 0 else cycles) = 0 := by
      rcases h with h | h
      · rw [if_pos h]
      · rw [h, ite_self]
    rw [hexec, hz, sampleFaultLine_zero, hl]
    rfl
  · rw [hr, if_neg (by simp)] at hexec
    refine ⟨fun h => ?_, fun h hq => ?_, fun h hq => ?_⟩
    · rw [hexec, sampleFaultLine_same hc (by rw [hl] at h; exact h), hl]
      rfl
    · rw [hexec, sampleFaultLine_counting hc (by rw [hl] at h; exact h) (by rw [hl] at hq; exact hq), hl]
      rfl
    · obtain ⟨u, hu⟩ : ∃ u, u = { quiet s with faultLines := s.faultLines.set n { l with level := high, count := 0 } } := ⟨_, rfl⟩
      have hactive : l.activeHigh = s.faultLines[n].activeHigh := by rw [hl]
      have hgroup (g : Fin 8) : u.group g = s.group g := by rw [hu]; rfl
      have hq' : u.releaseQueue = s.releaseQueue := by rw [hu]; rfl
      rw [sampleFaultLine_edge (u := u) hc (by rw [hl] at h; exact h) (by rw [hl] at hq; exact hq) (by rw [hu, hl]; rfl)] at hexec
      have hexec : exec (.faultLineQualifiedEdge n high cycles) s = .next (if high = l.activeHigh then lineReported u n else u) := by
        rw [hexec, hactive]
        rfl
      rw [← hu]
      refine ⟨fun h => ?_, fun g ha hg ho => ?_, fun ha => ⟨_, by rw [hexec, if_pos ha], rfl, ?_⟩⟩
      · rw [hexec]
        rcases h with h | h
        · rw [if_neg h]
        · rw [lineReported_off (fun g hg => by rw [hgroup] at hg ⊢; exact h g hg), ite_self]
      · rw [hexec, if_pos ha, lineReported_one (by rw [hgroup]; exact hg) fun k hk hk' => by
          rw [hgroup] at hk' ⊢
          exact ho k hk hk']
      · rw [← hq']
        exact lineReported_inOrder u n

end Sys2Proof.Machine

/-! PROOFS. Section 4.1: ticks below the period mark, and the period mark (O30, O31). -/

namespace Sys2Proof.Machine

open Sys2Proof.Safety

theorem exec_tick {b : Base} {s : State} (h : (s.base b).running = true) : exec (.tick b) s = .next ((quiet s).tickBase b) := by
  show Host.Outcome.next (if (s.base b).running = true then (quiet s).tickBase b else quiet s) = _
  rw [if_pos h]

theorem exec_tick_stopped {b : Base} {s : State} (h : (s.base b).running = false) : exec (.tick b) s = .next (quiet s) := by
  show Host.Outcome.next (if (s.base b).running = true then (quiet s).tickBase b else quiet s) = _
  rw [h]
  rfl

theorem exec_periodMark {b : Base} {s : State} (h : AtMark (s.base b)) : exec (.periodMark b) s = .next ((quiet s).mark b) := by
  show Host.Outcome.next (if s.atMark b = true then (quiet s).mark b else quiet s) = _
  rw [if_pos ((atMark_iff s b).2 h)]

theorem exec_periodMark_not {b : Base} {s : State} (h : ¬ AtMark (s.base b)) : exec (.periodMark b) s = .next (quiet s) := by
  show Host.Outcome.next (if s.atMark b = true then (quiet s).mark b else quiet s) = _
  rw [if_neg (mt (atMark_iff s b).1 h)]

theorem quiet_base (s : State) (b : Base) : (quiet s).base b = s.base b := by cases b <;> rfl

/-- R67: the count raised, the interval begun again. -/
def TimeBase.counted (t : TimeBase) : TimeBase := { t with count := t.count + 1, interval := 0 }

theorem tickBase_counted {s : State} {b : Base} (h : (s.base b).count + 1 < (s.base b).period) :
    (quiet s).tickBase b = ((quiet s).setBase b (s.base b).counted).phaseMatches b := by
  rcases tickBase_cases (quiet s) b with ⟨-, e⟩ | ⟨hge, -⟩
  · rw [e, quiet_base]
    rfl
  · rw [quiet_base] at hge
    omega

theorem setBase_sameConfigs (s : State) (b : Base) (x : TimeBase) : SameConfigs s (s.setBase b x) := fun g => by rw [setBase_group]

/-! ### Settle marks (R145) -/

/-- R145: with no settle window open a period mark reaches no watch. -/
theorem settleMarks_closed {s : State} (h : ∀ w : Fin 12, (s.watch w).marks = 0) (b : Base) : s.settleMarks b = s := by
  have hfold : watchNumbers.foldl (fun s w => if (s.watch w).settleBase = b && (s.watch w).marks != 0 then s.settleMarkAt w else s) s = s :=
    foldl_same fun w _ => if_neg (by simp [h w])
  exact (eachWatch_of_old s _ fun it hit _ => by rwa [hfold] at hit).trans hfold

theorem ownMark_closed {s : State} (h : ∀ w : Fin 12, (s.watch w).marks = 0) (b : Base) :
    s.ownMark b = (s.setBase b (s.base b).marked).phaseMatches b := by
  unfold State.ownMark
  refine settleMarks_closed (fun w => ?_) b
  have hg : GroupsOnly (s.setBase b (s.base b).marked) ((s.setBase b (s.base b).marked).phaseMatches b) := phaseMatches_groupsOnly _ _
  rw [hg.watch]
  cases b <;> exact h w

/-! ### Ticks -/

/-- Settles O30, by the place of the count and the groups at it. -/
theorem tickMade : Obligations.TickMade := by
  refine ⟨fun b s => ⟨fun h => ⟨exec_tick_stopped h, exec_periodMark_not fun hm => by cases h.symm.trans hm.1⟩, fun hr hlow hn => ⟨?_, ?_⟩⟩,
    fun b g s s' hr hlow ht hb hp ho hs' => ?_, fun b s => ⟨fun hr hlow => ?_, fun hm hw hb => ?_⟩⟩
  · rw [exec_tick hr, tickBase_low (by rw [quiet_base]; exact hlow) (fun g h1 h2 => by rw [quiet_base]; exact hn g h1 h2), quiet_base]
  · exact exec_periodMark_not fun hm => by omega
  · have hx : exec (.tick b) s = .next (s'.candidate g) := by
      rw [exec_tick hr, tickBase_counted hlow, hs']
      refine congrArg Host.Outcome.next (phaseMatches_one ?_ fun k hk => ?_)
      · rw [phaseMatch_iff, setBase_group, setBase_base, if_pos rfl]
        exact ⟨ht, hb, hp⟩
      · rw [← Bool.not_eq_true, phaseMatch_iff, setBase_group, setBase_base, if_pos rfl]
        rintro ⟨h1, h2, h3⟩
        exact ho k hk h1 h2 h3
    have hg : s'.group g = s.group g := by
      rw [hs', setBase_group]
      rfl
    rw [hx]
    have hc := candidate_cases s' g
    rw [hg] at hc
    refine ⟨fun h => ?_, fun h => ⟨fun hk => ?_, fun hk => ?_⟩⟩
    · rcases hc with ⟨-, e⟩ | ⟨h', -⟩
      · rw [e]
      · rcases h with h | h | h <;> rw [h] at h' <;> rcases h' with h' | h' <;> cases h'
    · rcases hc with ⟨h', -⟩ | ⟨-, ⟨-, e⟩ | ⟨h0, -⟩⟩
      · exact absurd h (by simpa using h')
      · rw [e]
      · exact absurd h0 hk
    · rcases hc with ⟨h', -⟩ | ⟨-, ⟨h0, -⟩ | ⟨-, e⟩⟩
      · exact absurd h (by simpa using h')
      · exact absurd hk h0
      · rw [e]
  · have hq : ((quiet s).setBase b (s.base b).counted).releaseQueue = s.releaseQueue := by cases b <;> rfl
    refine ⟨_, by rw [exec_tick hr, tickBase_counted hlow], ?_, ?_⟩
    · refine phaseMatches_eq (setBase_sameConfigs (quiet s) b _) ?_
      rw [setBase_base, if_pos rfl]
      rfl
    · rw [← hq]
      exact phaseMatches_inOrder _ b
  · have hown : (quiet s).ownMark b = ((quiet s).setBase b (afterMark (s.base b))).phaseMatches b := by
      rw [ownMark_closed (by exact hw), quiet_base]
      rfl
    have hcand : (quiet s).ownMark b = phaseCandidates s b 0 ((quiet s).setBase b (afterMark (s.base b))) := by
      rw [hown]
      refine phaseMatches_eq (setBase_sameConfigs (quiet s) b _) ?_
      rw [setBase_base, if_pos rfl]
      rfl
    have hq : ((quiet s).setBase b (afterMark (s.base b))).releaseQueue = s.releaseQueue := by cases b <;> rfl
    have hjoin : JoinInOrder s.releaseQueue ((quiet s).ownMark b).releaseQueue := by
      rw [hown, ← hq]
      exact phaseMatches_inOrder _ b
    refine ⟨_, exec_periodMark hm, ?_⟩
    cases b with
    | timeB =>
      have hmark : (quiet s).mark .timeB = (quiet s).ownMark .timeB := rfl
      rw [hmark]
      exact ⟨fun _ => hcand, hjoin⟩
    | timeA =>
      have hB : ((quiet s).ownMark .timeA).baseB = s.baseB := by
        rw [hown, (phaseMatches_groupsOnly _ _).baseB]
        rfl
      have hmark : (quiet s).mark .timeA = ((quiet s).ownMark .timeA).restartB := rfl
      rw [hmark]
      rcases restartB_cases ((quiet s).ownMark .timeA) with ⟨-, e⟩ | ⟨h1, h2, -, e⟩ | ⟨h1, h2, h3, -⟩
      · rw [e]
        exact ⟨fun _ => hcand, hjoin⟩
      · rw [hB] at h1 h2
        rw [e]
        refine ⟨fun h => ?_, by rw [setBase_releaseQueue]; exact hjoin⟩
        rcases h with h | h | h
        · cases h
        · rw [h1] at h
          cases h
        · rw [h2] at h
          cases h
      · rw [hB] at h1 h2 h3
        rcases hb with h | h
        · cases h
        · exact absurd ⟨h1, h2, h3⟩ h

end Sys2Proof.Machine

/-! PROOFS. Section 4.1: the period mark, its restart of B, and the settle marks it counts (R67, R70, R145). -/

namespace Sys2Proof.Machine

open Sys2Proof.Safety

/-! ### What a mark does to the bases -/

/-- R67: a base at its mark is marked by its tick. -/
theorem tickBase_atMark {s : State} {b : Base} (h : (s.base b).count + 1 = (s.base b).period) : s.tickBase b = s.mark b := by
  rcases tickBase_cases s b with ⟨hlow, -⟩ | ⟨-, e⟩
  · omega
  · exact e

theorem phaseMatches_at_zero {s : State} {b : Base}
    (h : ∀ g : Fin 8, (s.group g).config.trigger = .timed → (s.group g).config.base = b → (s.group g).config.phase ≠ 0) :
    (s.setBase b (afterMark (s.base b))).phaseMatches b = s.setBase b (afterMark (s.base b)) := by
  refine phaseMatches_of_none fun g => ?_
  rw [← Bool.not_eq_true, phaseMatch_iff, setBase_group, setBase_base, if_pos rfl]
  rintro ⟨h1, h2, h3⟩
  exact h g h1 h2 h3

theorem ownMark_plain {s : State} {b : Base}
    (h : ∀ g : Fin 8, (s.group g).config.trigger = .timed → (s.group g).config.base = b → (s.group g).config.phase ≠ 0)
    (hw : ∀ w : Fin 12, (s.watch w).marks = 0) : s.ownMark b = s.setBase b (afterMark (s.base b)) := by
  rw [ownMark_closed hw]
  exact phaseMatches_at_zero h

/-! ### What a mark does to the watches (R145) -/

theorem windowMarked_eq (x : Watch) : windowMarked x = x.marked := by
  have hd : (if x.marks = 1 ∧ x.state = .compared .differs then false else x.deferred) =
      (x.deferred && !(decide (x.marks = 1) && decide (x.state = .compared .differs))) := by
    by_cases h1 : x.marks = 1
    · by_cases h2 : x.state = .compared .differs
      · simp [h1, h2]
      · simp [h2]
    · simp [h1]
  unfold windowMarked Watch.marked
  rw [hd]

theorem ownMark_watch (s : State) (b : Base) (w : Fin 12) : (s.ownMark b).watch w = (s.watch w).atMark b := by
  have hp : GroupsOnly (s.setBase b (s.base b).marked) ((s.setBase b (s.base b).marked).phaseMatches b) := phaseMatches_groupsOnly _ _
  have hm := settleMarks_step ((s.setBase b (s.base b).marked).phaseMatches b) b
  unfold State.ownMark
  rw [hm.watch]
  refine (map_watch _ _ w).trans ?_
  rw [hp.watch]
  cases b <;> rfl

theorem ownMark_baseB (s : State) : (s.ownMark .timeA).baseB = s.baseB := by
  have hp : GroupsOnly (s.setBase .timeA (s.base .timeA).marked) ((s.setBase .timeA (s.base .timeA).marked).phaseMatches .timeA) :=
    phaseMatches_groupsOnly _ _
  have hm := settleMarks_watchesOnly ((s.setBase .timeA (s.base .timeA).marked).phaseMatches .timeA) .timeA
  unfold State.ownMark
  rw [hm.baseB, hp.baseB]
  rfl

theorem atMark_eq (b : Base) (x : Watch) : x.atMark b = if x.marks ≠ 0 ∧ x.settleBase = b then windowMarked x else x := by
  unfold Watch.atMark
  rw [windowMarked_eq]
  refine if_congr ?_ rfl rfl
  rw [Bool.and_eq_true, decide_eq_true_eq, bne_iff_ne]
  exact And.comm

/-- R145, R70: the watches after a period mark, and after that of B which A's mark makes. -/
theorem mark_watch (s : State) (b : Base) (w : Fin 12) :
    (s.mark b).watch w =
      if (s.watch w).marks ≠ 0 ∧ MarkReaches s b (s.watch w).settleBase then windowMarked (s.watch w) else s.watch w := by
  cases b with
  | timeB =>
    refine (ownMark_watch s .timeB w).trans ((atMark_eq _ _).trans (if_congr ?_ rfl rfl))
    simp [MarkReaches]
  | timeA =>
    have hmark : s.mark .timeA = (s.ownMark .timeA).restartB := rfl
    have hown := (ownMark_watch s .timeA w).trans (atMark_eq _ _)
    have hB := ownMark_baseB s
    rw [hmark]
    have hplain (hr : ¬ RestartsB s) : (s.ownMark .timeA).watch w =
        if (s.watch w).marks ≠ 0 ∧ MarkReaches s .timeA (s.watch w).settleBase then windowMarked (s.watch w) else s.watch w := by
      refine hown.trans (if_congr ?_ rfl rfl)
      simp [MarkReaches, hr]
    rcases restartB_cases (s.ownMark .timeA) with ⟨hn, e⟩ | ⟨-, -, h0, e⟩ | ⟨h1, h2, h3, e⟩
    · rw [hB] at hn
      rw [e]
      exact hplain fun h => hn ⟨h.1, h.2.1⟩
    · rw [hB] at h0
      rw [e, setBase_watch]
      exact hplain fun h => h.2.2 h0
    · rw [hB] at h1 h2 h3
      rw [e, ownMark_watch, hown, atMark_eq]
      have hr : RestartsB s := ⟨h1, h2, h3⟩
      by_cases hm : (s.watch w).marks = 0
      · simp [hm]
      · cases hb : (s.watch w).settleBase with
        | timeA =>
          have hwb : (windowMarked (s.watch w)).settleBase = .timeA := hb
          simp [hm, MarkReaches, hwb]
        | timeB => simp [hm, MarkReaches, hb, hr]

/-! ### What a mark reports (R145) -/

namespace WatchEvent

variable {F : State → Fin 12 → State} {x : Watch → Watch} {add : Watch → Bool} {G : State → Fin 12 → Watch → State}

/-- The groups' part of an event goes by the groups' part of its state. -/
theorem foldl_graft (h : WatchEvent F x add G) {s : State} (y : Fin 12 → Watch) (l : List (Fin 12)) {u : State} (hA : u.baseA = s.baseA)
    (hs : u.softResetting = s.softResetting) :
    l.foldl (fun v w => G v w (y w)) (graft s u) = graft s (l.foldl (fun v w => G v w (y w)) u) := by
  induction l generalizing u with
  | nil => rfl
  | cons a l ih =>
    have hg := h.frame u a (y a)
    rw [List.foldl_cons, List.foldl_cons, h.apart s u a (y a) hA hs]
    exact ih (hg.baseA.trans hA) (hg.softResetting.trans hs)

end WatchEvent

theorem eachWatch_freeSlots {s t : State} {f : State → Fin 12 → State} (h : graft s (watchNumbers.foldl f s) = t) :
    (s.eachWatch f).freeSlots = t.freeSlots := by
  rw [← h]
  rfl

/-- R145, R83: what a period mark's settle marks report, from a state `u` with the groups of `v`. -/
theorem settleMarks_reports {u v : State} (hg : graft u v = u) (hA : v.baseA = u.baseA) (hs : v.softResetting = u.softResetting)
    {y : Fin 12 → Watch} (hy : ∀ w, u.watch w = y w) (b : Base) {r : State}
    (hr : watchNumbers.foldl (fun v w => markReport b v w (y w)) v = r) :
    (u.settleMarks b).events = r.events ∧ (u.settleMarks b).groups = r.groups ∧ (u.settleMarks b).freeSlots = r.freeSlots ∧
      (joined u.releaseQueue (u.settleMarks b).releaseQueue true).Pairwise (· < ·) := by
  have h := (settleMark_event b).foldl (s := u) y watchNumbers watchNumbers_nodup rfl rfl fun w _ => hy w
  have hf := (settleMark_event b).foldl_graft (s := u) y watchNumbers (u := v) hA hs
  rw [hg, hr] at hf
  have hu : graft u u = u := rfl
  rw [hu, hf] at h
  have ht : TripsOnce u.releaseQueue (watchNumbers.foldl (fun v w => markReport b v w (y w)) u) :=
    foldl_keeps (P := TripsOnce u.releaseQueue) (fun _ w hv => hv.markReport b w (y w)) _ _ (.start u)
  rw [hf] at ht
  have hfree := eachWatch_freeSlots h
  exact ⟨(eachWatch_groups h).2, (eachWatch_groups h).1, hfree, eachWatch_inOrder h ht⟩

/-- R145: what a period mark with no phase match and no restart of B reports. -/
theorem mark_reports {s : State} {b : Base}
    (hphase : ∀ g : Fin 8, (s.group g).config.trigger = .timed → (s.group g).config.base = b → (s.group g).config.phase ≠ 0)
    (hb : b = .timeB ∨ ¬ RestartsB s) {u : State} (hu : (s.setBase b (afterMark (s.base b))).settleMarks b = u) :
    (s.mark b).events = u.events ∧ (s.mark b).groups = u.groups ∧ (s.mark b).freeSlots = u.freeSlots ∧
      (s.mark b).releaseQueue = u.releaseQueue := by
  have hown : s.ownMark b = u := by
    rw [← hu, ← phaseMatches_at_zero hphase]
    rfl
  cases b with
  | timeB =>
    have hmark : s.mark .timeB = s.ownMark .timeB := rfl
    rw [hmark, hown]
    exact ⟨rfl, rfl, rfl, rfl⟩
  | timeA =>
    have hmark : s.mark .timeA = (s.ownMark .timeA).restartB := rfl
    have hB := ownMark_baseB s
    rw [hown] at hmark hB
    rw [hmark]
    rcases restartB_cases u with ⟨-, e⟩ | ⟨-, -, -, e⟩ | ⟨h1, h2, h3, -⟩
    · rw [e]
      exact ⟨rfl, rfl, rfl, rfl⟩
    · rw [e, setBase_events, setBase_groups, setBase_freeSlots, setBase_releaseQueue]
      exact ⟨rfl, rfl, rfl, rfl⟩
    · rw [hB] at h1 h2 h3
      rcases hb with h | h
      · cases h
      · exact absurd ⟨h1, h2, h3⟩ h

/-- Settles O31, base by base, and by what the mark's parts do. -/
theorem periodMarkMade : Obligations.PeriodMarkMade := by
  refine ⟨fun s hp hw => ⟨fun hr hc => ?_, fun hr hc => ?_⟩, fun b s u hm hu => ?_⟩
  · have hmark : (quiet s).mark .timeB = { quiet s with baseB := afterMark s.baseB } :=
      ownMark_plain (s := quiet s) (fun g h _ => hp g h) (by exact hw)
    refine ⟨?_, ?_⟩
    · rw [exec_tick (b := .timeB) hr, tickBase_atMark (by exact hc), hmark]
    · rw [exec_periodMark (b := .timeB) ⟨hr, hc⟩, hmark]
  · have hown : (quiet s).ownMark .timeA = { quiet s with baseA := afterMark s.baseA } :=
      ownMark_plain (s := quiet s) (fun g h _ => hp g h) (by exact hw)
    have hmark : (quiet s).mark .timeA = State.restartB { quiet s with baseA := afterMark s.baseA } := congrArg State.restartB hown
    refine ⟨_, exec_periodMark (b := .timeA) ⟨hr, hc⟩, ?_, ?_⟩
    · rw [exec_tick (b := .timeA) hr, tickBase_atMark (by exact hc)]
    · rw [hmark]
      have hplain : State.ownMark { quiet s with baseA := afterMark s.baseA } .timeB =
          { quiet s with baseA := afterMark s.baseA, baseB := afterMark s.baseB } :=
        ownMark_plain (s := { quiet s with baseA := afterMark s.baseA }) (fun g h _ => hp g h) (by exact hw)
      rcases restartB_cases { quiet s with baseA := afterMark s.baseA } with ⟨hn, e⟩ | ⟨h1, h2, h3, e⟩ | ⟨h1, h2, h3, e⟩
      · have hn : ¬ (s.baseB.running = true ∧ s.baseB.bLock = true) := hn
        rw [e]
        exact ⟨fun _ => rfl, fun h1 h2 => absurd ⟨h1, h2⟩ hn, fun h1 h2 => absurd ⟨h1, h2⟩ hn⟩
      · have h1 : s.baseB.running = true := h1
        have h2 : s.baseB.bLock = true := h2
        have h3 : s.baseB.count = 0 := h3
        rw [e]
        refine ⟨fun h => ?_, fun _ _ h => absurd h3 h, fun _ _ _ => rfl⟩
        rcases h with h | h
        · cases h.symm.trans h1
        · cases h.symm.trans h2
      · have h1 : s.baseB.running = true := h1
        have h2 : s.baseB.bLock = true := h2
        have h3 : s.baseB.count ≠ 0 := h3
        rw [e, hplain]
        refine ⟨fun h => ?_, fun _ _ _ => rfl, fun _ _ h => absurd h h3⟩
        rcases h with h | h
        · cases h.symm.trans h1
        · cases h.symm.trans h2
  · refine ⟨_, exec_periodMark hm, fun w => mark_watch (quiet s) b w, fun hphase hb => ?_⟩
    obtain ⟨h1, h2, h3, h4⟩ := mark_reports (s := quiet s) (by exact hphase) (by exact hb) rfl
    obtain ⟨v, hv⟩ : ∃ v, v = (quiet s).setBase b (afterMark (s.base b)) := ⟨_, rfl⟩
    have hvb : (quiet s).setBase b (afterMark ((quiet s).base b)) = v := by rw [hv, quiet_base]
    rw [hvb] at h1 h2 h3 h4
    rw [h1, h2, h3, h4]
    have hfold : watchNumbers.foldl (fun v w => markReport b v w (s.watch w)) (s.setBase b (afterMark (s.base b))) = u := by
      rw [hu, watchNumbers_eq]
      rfl
    have hq : v.releaseQueue = s.releaseQueue := by
      rw [hv, setBase_releaseQueue]
      rfl
    have h := settleMarks_reports (u := v) (v := s.setBase b (afterMark (s.base b))) (y := s.watch) (by rw [hv]; cases b <;> rfl)
      (by rw [hv]; cases b <;> rfl) (by rw [hv]; cases b <;> rfl) (fun w => by rw [hv]; cases b <;> rfl) b hfold
    rw [hq] at h
    exact h

end Sys2Proof.Machine

/-! PROOFS. Sections 5.3 and 5.5: what a performed DRAIN write does (R90, R91, R97, R98). -/

namespace Sys2Proof.Machine

open Sys2Proof.Safety

/-- R100: the memory and the port after the answer to a DRAIN write. -/
def State.drained (s : State) (a : WordAddr) (d : Word) (m : Mask) (e : Bool) : State :=
  { quiet s with
    port := { s.port with current := none }
    mem := if e then forgetWord s.mem a else writeWord s.mem a d m }

/-- R101: the answer to a DRAIN write of a word that no watch observes. -/
theorem exec_drainPerformed {s : State} {a : WordAddr} {d : Word} {m : Mask}
    (hc : s.port.current = some { requester := .drain, kind := .write d m, addr := a }) (hu : Unwatched s a) (hcl : ClearanceOk s)
    (e : Bool) (rd : Word) {t : State} (ht : (s.drained a d m e).drainPerformed e = t) :
    exec (.transactionPerformed e rd) s = .next (reported t) := by
  rw [exec_performed hc e rd]
  dsimp only [State.reportLanded, State.toRequester]
  rw [landedWrite_unwatched (by exact hu)]
  have hs : (quiet s).acked { requester := .drain, kind := .write d m, addr := a } e rd = s.drained a d m e := by cases e <;> rfl
  have hw := drainPerformed_engineOnly (s.drained a d m e) e
  rw [hs, ht]
  rw [ht] at hw
  have hok : ClearanceOk t := by
    obtain ⟨_, _, _, _, _, _, dr, -, hwait, rfl⟩ := hw
    show ∀ g : Fin 8, dr.clearanceWait[g] = true ↔ _
    rw [hwait]
    exact hcl
  rw [reportClearance_of_ok hok, reportBlocks_eq]

/-! ### Safe entries -/

/-- R97: the next safe entry is the first enabled one of the group from the index on. -/
theorem nextSafe_of_first {s : State} {g : Fin 8} {start : Nat} {n : Fin 128} (hn : start ≤ n.val) (he : s.safeTable[n].enabled = true)
    (hg : s.safeTable[n].group = g)
    (hf : ∀ j : Fin 128, start ≤ j.val → j < n → ¬ (s.safeTable[j].enabled = true ∧ s.safeTable[j].group = g)) :
    s.nextSafe g start = some n := by
  have hp : (decide (start ≤ n.val) && s.safeTable[n].enabled && s.safeTable[n].group == g) = true := by
    rw [Bool.and_eq_true, Bool.and_eq_true, decide_eq_true_eq, beq_iff_eq]
    exact ⟨⟨hn, he⟩, hg⟩
  rw [State.nextSafe, List.find?_eq_some_iff_getElem]
  refine ⟨hp, n.val, by simp [safeIndices], by simp [safeIndices], fun j hj => ?_⟩
  have hj128 : j < 128 := by omega
  simp only [safeIndices, List.getElem_finRange, Bool.not_eq_true', ← Bool.not_eq_true, Bool.and_eq_true, decide_eq_true_eq, beq_iff_eq]
  rintro ⟨⟨h1, h2⟩, h3⟩
  exact hf ⟨j, hj128⟩ h1 hj ⟨h2, h3⟩

theorem advanceSafe_of_first {s : State} {g : Fin 8} {start : Nat} {n : Fin 128} (h : s.nextSafe g start = some n) :
    s.advanceSafe g start = s.setDrain { s.drain with safeNext := n } := by
  unfold State.advanceSafe
  rw [h]

theorem advanceSafe_of_none {s : State} {g : Fin 8} {start : Nat}
    (h : ∀ n : Fin 128, start ≤ n.val → ¬ (s.safeTable[n].enabled = true ∧ s.safeTable[n].group = g)) :
    s.advanceSafe g start = s.completeSafe g := by
  have hn : s.nextSafe g start = none := (nextSafe_eq_none s g start).2 fun k hk he hg => h k hk ⟨he, hg⟩
  unfold State.advanceSafe
  rw [hn]

theorem softResetting_ite (s : State) {α : Type} (a b : α) :
    (if s.softResetting then a else b) = if s.link.pending = some .softReset then a else b :=
  if_congr (softResetting_iff s) rfl rfl

/-- R98, R123: the completion of a safe job, from a state `s` with the engine's counts in `d`. -/
theorem completeSafe_eq (s : State) (g : Fin 8) :
    s.completeSafe g = { s with
      groups := s.groups.set g { s.group g with
        state := if s.link.pending = some .softReset then .off else .faulted
        safeIncomplete := (s.group g).safeIncomplete || decide (s.drain.errors ≠ 0) }
      events := (s.submit (.safeApplied g s.drain.errors s.drain.written)).events
      drain := { s.drain with progress := .ending } } := by
  unfold State.completeSafe
  dsimp only
  rw [submit_setGroup (by rfl), softResetting_ite]
  rfl

/-- R97: a performed safe write counts, and the engine goes on. -/
theorem safePerformed {s : State} {g : Fin 8} {k : Fin 128} {a : WordAddr} {d : Word} {m : Mask} {e : Bool} {errors : Nat}
    (hcur : s.drain.current = some (.safe g)) (hk : s.drain.safeNext = k) (herr : errors = if e then s.drain.errors + 1 else s.drain.errors) :
    (s.drained a d m e).drainPerformed e =
      ((s.drained a d m e).setDrain { s.drain with written := s.drain.written + 1, errors := errors }).advanceSafe g (k.val + 1) := by
  have hc : (s.drained a d m e).drain.current = some (.safe g) := hcur
  unfold State.drainPerformed
  rw [hc, herr, ← hk]
  rfl

theorem drained_submit (s : State) (a : WordAddr) (d : Word) (m : Mask) (e : Bool) (x : Drain) (b : EventBody) :
    (((s.drained a d m e).setDrain x).submit b).events = (s.submit b).events := by
  rw [submit_eq_of_congr (s := s) (t := (s.drained a d m e).setDrain x) rfl rfl (fun _ => rfl) b]

/-- Settles O26, by the item and, for a safe job, by the next entry. -/
theorem entryWritten : Obligations.EntryWritten := by
  refine ⟨fun g q b e next rest err rd s hcur ho he hc hu hcl => ?_, fun g k err rd errors s hcur hk hc hu hcl herr => ⟨fun n hn he hg hf => ?_, fun hn => ?_⟩⟩
  · refine exec_drainPerformed hc hu hcl err rd ?_
    have hp : (s.drained e.addr e.data e.mask err).drainPerformed err = (s.drained e.addr e.data e.mask err).entryWritten g err := by
      have : (s.drained e.addr e.data e.mask err).drain.current = some (.batch g q) := hcur
      unfold State.drainPerformed
      rw [this]
    rw [hp, entryWritten_of_entry (s.drained e.addr e.data e.mask err) g err b e (next :: rest) ho he]
    rfl
  · refine exec_drainPerformed hc hu hcl err rd ?_
    rw [safePerformed hcur hk herr]
    refine advanceSafe_of_first (nextSafe_of_first ?_ he hg fun j hj => hf j ?_)
    · exact hn
    · exact hj
  · refine exec_drainPerformed hc hu hcl err rd ?_
    have hnone : ∀ n : Fin 128, k.val + 1 ≤ n.val → ¬ (s.safeTable[n].enabled = true ∧ s.safeTable[n].group = g) := fun n h => hn n h
    rw [safePerformed hcur hk herr]
    refine (advanceSafe_of_none (by exact hnone)).trans ((completeSafe_eq _ g).trans ?_)
    rw [drained_submit]
    rfl

end Sys2Proof.Machine

/-! PROOFS. Section 5.4: the retirement of a batch (R93 to R95), and the group controller's part of it (R56, R37, R38). -/

namespace Sys2Proof.Machine

open Sys2Proof.Safety

/-! ### The group controller's part (R56, R37, R38) -/

theorem queueOther_keeps (s : State) (g : Fin 8) : (s.queueOther g).events = s.events ∧ (s.queueOther g).freeSlots = s.freeSlots := by
  unfold State.queueOther
  split <;> exact ⟨rfl, rfl⟩

theorem sealOpen_keeps (s : State) (g : Fin 8) (c : SealCause) :
    (s.sealOpen g c).events = s.events ∧ (s.sealOpen g c).freeSlots = s.freeSlots := by
  unfold State.sealOpen
  dsimp only
  split
  · exact ⟨rfl, rfl⟩
  · split
    · split
      · exact queueOther_keeps _ g
      · exact ⟨rfl, rfl⟩
    · exact queueOther_keeps _ g

theorem followUp_freeSlots (s : State) (g : Fin 8) : (s.followUp g).freeSlots = s.freeSlots := by
  rcases followUp_cases s g with ⟨-, e⟩ | ⟨-, -, e⟩ | ⟨-, -, -, e⟩ | ⟨-, -, -, e⟩ <;> rw [e]
  · rfl
  · exact (sealOpen_keeps _ g _).2
  · rw [submit_freeSlots]
    rfl

/-- `v` is what the group controller finds at a retirement recorded in `u`: `gr` is the group without its retired batch. -/
structure Recorded (u v : State) (g : Fin 8) (gr : Group) : Prop where
  self : v.group g = gr
  others : ∀ h, h ≠ g → v.group h = u.group h
  queue : v.releaseQueue = u.releaseQueue
  events : v.events = u.events
  pending : v.link.pending = u.link.pending
  baseA : v.baseA = u.baseA
  mask : gr.config.eventMask = (u.group g).config.eventMask

theorem Recorded.submit {u v : State} {g : Fin 8} {gr : Group} (h : Recorded u v g gr) (x : GroupState) (b : EventBody) :
    ((v.setGroup g { gr with state := x }).submit b).events = (u.submit b).events := by
  rw [submit_eq_of_congr (s := u) (t := v.setGroup g { gr with state := x }) h.events h.baseA (fun k => ?_) b]
  rw [setGroup_group]
  split
  · rename_i e
    rw [← e]
    exact h.mask
  · rename_i e
    rw [h.others k (Ne.symm e)]

/-- R56, R37, R38. -/
theorem Recorded.followsUp {u v : State} {g : Fin 8} {gr : Group} (h : Recorded u v g gr) : FollowsUp u (v.followUp g) g gr := by
  have hsoft : v.softResetting = true ↔ u.link.pending = some .softReset := by rw [softResetting_iff, h.pending]
  have hset (x : Group) (k : Fin 8) (hk : k ≠ g) : (v.setGroup g x).group k = u.group k := by
    rw [setGroup_group, if_neg (Ne.symm hk), h.others k hk]
  have hself := h.self
  rcases followUp_cases v g with ⟨hs, e⟩ | ⟨hs, hp, e⟩ | ⟨hs, hp, hst, e⟩ | ⟨hs, hp, hst, e⟩ <;> rw [hself] at *
  · rw [hsoft] at hs
    rw [e]
    refine ⟨fun k hk => hset _ k hk, fun _ => ⟨?_, h.queue, h.events⟩, fun hn => absurd hs hn, fun hn => absurd hs hn⟩
    rw [setGroup_group, if_pos rfl]
  · have hn : ¬ u.link.pending = some .softReset := fun hn => by simp [hsoft.2 hn] at hs
    have honly := sealOpen_onlyGroup (v.setGroup g { gr with sealPending := false }) g .pendingSeal
    have hkeep := sealOpen_keeps (v.setGroup g { gr with sealPending := false }) g .pendingSeal
    have hg : (v.setGroup g { gr with sealPending := false }).group g = { gr with sealPending := false } := by
      rw [setGroup_group, if_pos rfl]
    rw [e]
    refine ⟨fun k hk => (honly.others k hk).trans (hset _ k hk), fun hn' => absurd hn' hn, fun _ hf => ?_, fun _ _ o ho => ⟨?_, fun hst => ?_, fun hst => ?_⟩⟩
    · rw [hp] at hf
      cases hf
    · exact hkeep.1.trans h.events
    · rw [sealOpen_of_active (b := o) .pendingSeal (by rw [hg]; exact hst) (by rw [hg]; exact ho), hg]
      refine ⟨?_, ?_⟩
      · rw [setReleaseQueue_group, setGroup_group, if_pos rfl]
      · show queueSealed _ g _ o = queueSealed u g gr o
        unfold queueSealed
        rw [setGroup_releaseQueue, h.queue]
    · rw [sealOpen_of_stopping (b := o) .pendingSeal (by rw [hg]; exact hst) (by rw [hg]; exact ho), hg]
      refine ⟨?_, ?_⟩
      · rw [setReleaseQueue_group, setGroup_group, if_pos rfl]
      · show _ ++ [Item.batch g o.seq] = _
        rw [setGroup_releaseQueue, h.queue]
  · have hn : ¬ u.link.pending = some .softReset := fun hn => by simp [hsoft.2 hn] at hs
    rw [e]
    refine ⟨fun k hk => ?_, fun hn' => absurd hn' hn, fun _ _ => ⟨fun hne => absurd hst hne, fun _ => ⟨?_, ?_, ?_⟩⟩, fun _ hf => ?_⟩
    · rw [submit_group, hset _ k hk]
    · rw [submit_group, setGroup_group, if_pos rfl]
    · rw [submit_releaseQueue, setGroup_releaseQueue, h.queue]
    · exact h.submit _ _
    · rw [hp] at hf
      cases hf
  · have hn : ¬ u.link.pending = some .softReset := fun hn => by simp [hsoft.2 hn] at hs
    rw [e]
    refine ⟨h.others, fun hn' => absurd hn' hn, fun _ _ => ⟨fun _ => ⟨h.self, h.queue, h.events⟩, fun hst' => absurd hst' hst⟩, fun _ hf => ?_⟩
    rw [hp] at hf
    cases hf

theorem followsUp_congr {u t t' : State} {g : Fin 8} {gr : Group} (h : FollowsUp u t g gr) (hg : ∀ k, t'.group k = t.group k)
    (hq : t'.releaseQueue = t.releaseQueue) (he : t'.events = t.events) : FollowsUp u t' g gr := by
  unfold FollowsUp at h ⊢
  simp only [hg, hq, he]
  exact h

/-! ### Retirement (R93, R94) -/

/-- R93, R94: the state in which the group controller takes its part: the record made, BATCH_RETIRED submitted, the batch gone. -/
def State.recorded (s : State) (g : Fin 8) (b : Batch) : State :=
  ((s.setGroup g { s.group g with retirement := s.retirementRecord g b }).submit (.batchRetired g b.seq b.sealCause b.errorsSeen)).setGroup g
    { s.group g with retirement := s.retirementRecord g b, other := none }

/-- R144, R93: what follows the group controller's part. -/
def State.windowsOpened (s : State) (g : Fin 8) : State :=
  { s with watches := s.watches.map (fun x => windowOpened x g), drain := { s.drain with progress := .ending } }

theorem windowOpened_eq (x : Watch) (g : Fin 8) : x.openWindow g = windowOpened x g := by
  unfold Watch.openWindow windowOpened
  refine if_congr ?_ rfl rfl
  rw [Bool.and_eq_true, Bool.and_eq_true, decide_eq_true_eq, bne_iff_ne, bne_iff_ne, and_assoc]
  exact and_congr_right fun _ => And.comm

theorem retire_eq (s : State) (g : Fin 8) (b : Batch) :
    s.retire g b =
      if (s.group g).config.drainError = .trip ∧ b.errorsSeen ≠ 0 then
        (((s.recorded g b).followUp g).windowsOpened g).tripSource g (.drainError b.errorsSeen)
      else ((s.recorded g b).followUp g).windowsOpened g := by
  have hg : ((s.setGroup g { s.group g with retirement := s.retirementRecord g b }).submit
      (.batchRetired g b.seq b.sealCause b.errorsSeen)).group g = { s.group g with retirement := s.retirementRecord g b } := by
    rw [submit_group, setGroup_group, if_pos rfl]
  have hw (v : State) : (v.openWindows g).setDrain { (v.openWindows g).drain with progress := .ending } = v.windowsOpened g := by
    have hx : (fun x : Watch => x.openWindow g) = fun x => windowOpened x g := funext fun x => windowOpened_eq x g
    rw [openWindows_eq, hx]
    rfl
  unfold State.retire
  dsimp only
  rw [hg, hw]
  rfl

theorem recorded_groupsOnly (s : State) (g : Fin 8) (b : Batch) : GroupsOnly s (s.recorded g b) :=
  ((setGroup_groupsOnly _ _ _).trans (submit_groupsOnly _ _)).trans (setGroup_groupsOnly _ _ _)

theorem recorded_freeSlots (s : State) (g : Fin 8) (b : Batch) : (s.recorded g b).freeSlots = s.freeSlots := by
  unfold State.recorded
  rw [setGroup_freeSlots, submit_freeSlots, setGroup_freeSlots]

theorem tripSource_softReset {s : State} (h : s.link.pending = some .softReset) (g : Fin 8) (x : TripSource) : s.tripSource g x = s := by
  unfold State.tripSource
  rw [if_pos ((softResetting_iff s).2 h)]

/-- R93, R95: a retirement without a DRAIN_ERROR trip. -/
theorem retire_plain {s : State} {g : Fin 8} {b : Batch}
    (h : (s.group g).config.drainError = .quiet ∨ b.errorsSeen = 0 ∨ s.link.pending = some .softReset) :
    s.retire g b = ((s.recorded g b).followUp g).windowsOpened g := by
  rw [retire_eq]
  split
  · rename_i hc
    rcases h with h | h | h
    · rw [h] at hc
      cases hc.1
    · exact absurd h hc.2
    · have hg := (recorded_groupsOnly s g b).trans (followUp_groupsOnly _ g)
      exact tripSource_softReset (by
        show ((s.recorded g b).followUp g).link.pending = _
        rw [hg.link]
        exact h) _ _
  · rfl

/-- The record of a retirement in `s`, for a state `u` with `s`'s other groups, in which BATCH_RETIRED has been submitted. -/
theorem recorded_of {s r u : State} {g : Fin 8} {b : Batch} (he : s.events = r.events) (hA : s.baseA = r.baseA)
    (hm : ∀ k, (s.group k).config.eventMask = (r.group k).config.eventMask) (ho : ∀ k, k ≠ g → s.group k = r.group k)
    (hp : s.link.pending = r.link.pending) (hug : ∀ k, u.group k = r.group k) (huA : u.baseA = r.baseA)
    (hup : u.link.pending = r.link.pending) (hue : u.events = (r.submit (.batchRetired g b.seq b.sealCause b.errorsSeen)).events)
    (huq : u.releaseQueue = s.releaseQueue) :
    Recorded u (s.recorded g b) g { s.group g with retirement := s.retirementRecord g b, other := none } where
  self := by
    unfold State.recorded
    rw [setGroup_group, if_pos rfl]
  others k hk := by
    unfold State.recorded
    rw [setGroup_group, if_neg (Ne.symm hk), submit_group, setGroup_group, if_neg (Ne.symm hk), hug, ho k hk]
  queue := by
    unfold State.recorded
    rw [setGroup_releaseQueue, submit_releaseQueue, setGroup_releaseQueue, huq]
  events := by
    unfold State.recorded
    rw [setGroup_events, hue, submit_setGroup (by rfl), submit_eq_of_congr he hA hm]
  pending := by
    rw [(recorded_groupsOnly s g b).link, hup, hp]
  baseA := by rw [(recorded_groupsOnly s g b).baseA, huA, hA]
  mask := by
    rw [hug, ← hm]

/-- R93, R94: a retirement, but for what the group controller does. -/
theorem retire_spec {s : State} {g : Fin 8} {b : Batch}
    (h : (s.group g).config.drainError = .quiet ∨ b.errorsSeen = 0 ∨ s.link.pending = some .softReset) {u : State}
    {gr : Group} (hr : Recorded u (s.recorded g b) g gr) :
    s.retire g b = { s with
        groups := (s.retire g b).groups
        releaseQueue := (s.retire g b).releaseQueue
        events := (s.retire g b).events
        watches := s.watches.map fun x => windowOpened x g
        drain := { s.drain with progress := .ending } } ∧
      FollowsUp u (s.retire g b) g gr := by
  have hg := (recorded_groupsOnly s g b).trans (followUp_groupsOnly _ g)
  have hn : ((s.recorded g b).followUp g).freeSlots = s.freeSlots := by rw [followUp_freeSlots, recorded_freeSlots]
  rw [retire_plain h]
  refine ⟨?_, followsUp_congr hr.followsUp (fun _ => rfl) rfl rfl⟩
  generalize (s.recorded g b).followUp g = f at hg hn ⊢
  obtain ⟨_, _, _, _, rfl⟩ := hg
  cases hn
  rfl

end Sys2Proof.Machine

/-! PROOFS. Section 5.4: the last write of a batch (R93 to R95). -/

namespace Sys2Proof.Machine

open Sys2Proof.Safety

/-- R91: the state in which a batch whose last entry has been written retires. -/
def State.lastWritten (s : State) (g : Fin 8) (b : Batch) (err : Bool) : State :=
  (s.setGroup g { s.group g with
    other := some b, held := (s.group g).held - 1
    drainErrors := if err then bump (s.group g).drainErrors else (s.group g).drainErrors }).setFreeSlots (s.freeSlots + 1)

/-- R91: the batch without its entries. -/
def Batch.emptied (b : Batch) (err : Bool) : Batch :=
  { b with entries := [], errorsSeen := if err then b.errorsSeen + 1 else b.errorsSeen }

theorem drainPerformed_last {s : State} {g : Fin 8} {q : Seq} {b : Batch} {e : Entry} (hcur : s.drain.current = some (.batch g q))
    (ho : (s.group g).other = some b) (he : b.entries = [e]) (err : Bool) :
    s.drainPerformed err = (s.lastWritten g (b.emptied err) err).retire g (b.emptied err) := by
  unfold State.drainPerformed
  rw [hcur]
  exact (entryWritten_of_entry s g err b e [] ho he).trans (if_pos rfl)

theorem lastWritten_group (s : State) (g k : Fin 8) (b : Batch) (err : Bool) :
    (s.lastWritten g b err).group k = if g = k then { s.group g with
      other := some b, held := (s.group g).held - 1
      drainErrors := if err then bump (s.group g).drainErrors else (s.group g).drainErrors } else s.group k :=
  setGroup_group s g k _

/-- R93: the record that the last write leaves the group controller. -/
theorem lastWritten_recorded (s : State) (a : WordAddr) (d : Word) (m : Mask) (g : Fin 8) (b : Batch) (err : Bool) {errors : Nat}
    (herr : errors = (if err then b.errorsSeen + 1 else b.errorsSeen)) :
    Recorded (s.submit (.batchRetired g b.seq b.sealCause errors))
      (((s.drained a d m err).lastWritten g (b.emptied err) err).recorded g (b.emptied err)) g { s.group g with
        other := none
        held := (s.group g).held - 1
        drainErrors := if err then min ((s.group g).drainErrors + 1) 65535 else (s.group g).drainErrors
        retirement := retirementOf s g b s.drain.taken errors } := by
  have hg := lastWritten_group (s.drained a d m err) g
  have h := recorded_of (s := (s.drained a d m err).lastWritten g (b.emptied err) err) (r := s) (g := g) (b := b.emptied err)
    (u := s.submit (.batchRetired g b.seq b.sealCause errors)) rfl rfl (fun k => ?_) (fun k hk => ?_) rfl (fun k => ?_) ?_ ?_ ?_ ?_
  · have hret : ((s.drained a d m err).lastWritten g (b.emptied err) err).retirementRecord g (b.emptied err) =
        retirementOf s g b s.drain.taken errors := by
      unfold State.retirementRecord
      rw [hg, if_pos rfl, herr]
      rfl
    rw [hret, hg, if_pos rfl] at h
    exact h
  · rw [hg]
    split
    · rename_i e
      rw [e]
      rfl
    · rfl
  · rw [hg, if_neg (Ne.symm hk)]
    rfl
  · rw [submit_group]
  · rw [(submit_groupsOnly s _).baseA]
  · rw [(submit_groupsOnly s _).link]
  · rw [herr]
    rfl
  · rw [submit_releaseQueue]
    rfl

/-- Settles O28, by the drain-error policy. -/
theorem batchRetires : Obligations.BatchRetires := by
  refine ⟨fun g q b e err rd errors gr s hcur ho he hc hu hcl herr hpol hgr => ?_, fun g q b e rd s hcur ho he hc hu hp hpol hst hsp => ?_⟩
  · have hlast := drainPerformed_last (s := s.drained e.addr e.data e.mask err) hcur ho he err
    refine ⟨_, exec_drainPerformed hc hu hcl err rd rfl, _, rfl, ?_⟩
    rw [hlast]
    have hrec := lastWritten_recorded s e.addr e.data e.mask g b err herr
    rw [← hgr] at hrec
    obtain ⟨h1, h2⟩ := retire_spec (s := (s.drained e.addr e.data e.mask err).lastWritten g (b.emptied err) err) (g := g) (b := b.emptied err)
      (by
        rw [lastWritten_group, if_pos rfl]
        rcases hpol with h | h | h
        · exact .inl h
        · exact .inr (.inl (herr.symm.trans h))
        · exact .inr (.inr h)) hrec
    exact ⟨h1, h2⟩
  · have hlast := drainPerformed_last (s := s.drained e.addr e.data e.mask true) hcur ho he true
    have hx := exec_performed hc true rd
    dsimp only [State.reportLanded, State.toRequester] at hx
    rw [landedWrite_unwatched (by exact hu)] at hx
    have hs : (quiet s).acked { requester := .drain, kind := .write e.data e.mask, addr := e.addr } true rd =
        s.drained e.addr e.data e.mask true := rfl
    rw [hs, hlast] at hx
    have hrec := lastWritten_recorded s e.addr e.data e.mask g b true rfl
    have hpolicy : (((s.drained e.addr e.data e.mask true).lastWritten g (b.emptied true) true).group g).config.drainError = .trip := by
      rw [lastWritten_group, if_pos rfl]
      exact hpol
    rw [retire_eq, if_pos ⟨hpolicy, Nat.succ_ne_zero _⟩] at hx
    generalize ((s.drained e.addr e.data e.mask true).lastWritten g (b.emptied true) true).recorded g (b.emptied true) = v at hx hrec
    obtain ⟨gr, hgr⟩ : ∃ gr, gr = v.group g := ⟨_, rfl⟩
    have hself := hrec.self
    rw [← hgr] at hself
    have hsoft : v.softResetting = false := by
      rw [← Bool.not_eq_true, softResetting_iff, hrec.pending, (submit_groupsOnly s _).link, hp]
      simp
    have hactive : gr.state = .active := by rw [hself]; exact hst
    have hfollow : v.followUp g = v := by
      rcases followUp_cases v g with ⟨h, -⟩ | ⟨-, h, -⟩ | ⟨-, -, h, -⟩ | ⟨-, -, -, e⟩
      · rw [hsoft] at h
        cases h
      · rw [← hgr, hself] at h
        cases h.symm.trans hsp
      · rw [← hgr, hactive] at h
        cases h
      · exact e
    have hw : (v.windowsOpened g).group g = gr := hgr.symm
    have htrip : (v.windowsOpened g).tripSource g (.drainError (b.errorsSeen + 1)) =
        (v.windowsOpened g).firstTrip g (.drainError (b.errorsSeen + 1)) := by
      rcases tripSource_cases (v.windowsOpened g) g (.drainError (b.errorsSeen + 1)) with ⟨h, -⟩ | ⟨-, -, e⟩ | ⟨-, h, -⟩
      · rcases h with h | h
        · cases h.symm.trans hsoft
        · rw [hw, hactive] at h
          cases h
      · exact e
      · rw [hw, hactive] at h
        rcases h with h | h <;> cases h
    have he' : (b.emptied true).errorsSeen = b.errorsSeen + 1 := rfl
    rw [hfollow, he', htrip] at hx
    have hgroup := firstTrip_group (v.windowsOpened g) g g (.drainError (b.errorsSeen + 1))
    rw [if_pos rfl, hw] at hgroup
    have hqueue : Item.safe g ∈ ((v.windowsOpened g).firstTrip g (.drainError (b.errorsSeen + 1))).releaseQueue := by
      unfold State.firstTrip
      rw [submit_releaseQueue]
      exact List.mem_append_right _ List.mem_cons_self
    generalize (v.windowsOpened g).firstTrip g (.drainError (b.errorsSeen + 1)) = u at hx hgroup hqueue
    refine ⟨_, hx, ?_⟩
    have htg : u.reportClearance.reportBlocks.group g = gr.firstTrip (.drainError (b.errorsSeen + 1)) :=
      (congrArg (fun gs : Vector Group 8 => gs[g]) (reports_groups u).1).trans hgroup
    dsimp only
    rw [htg, reports_releaseQueue, hself]
    exact ⟨rfl, rfl, rfl, rfl, rfl, rfl, rfl, rfl, hqueue⟩

end Sys2Proof.Machine

/-! PROOFS. Sections 5.2, 4.6 and 1.6: which item the engine takes, and what its start does (R15, R87, R88, R97). -/

namespace Sys2Proof.Machine

open Sys2Proof.Safety

/-! ### The hold at an item's start (R15) -/

/-- R15: several slots become HELD, whether or not one stands twice in the list. -/
theorem foldl_held (l : List (Fin 16)) (s : State) :
    l.foldl (fun s i => s.setSlot i { s.slot i with state := .held }) s = { s with upstream := { s.upstream with
      slots := Vector.ofFn fun i => if i ∈ l then { s.slot i with state := .held } else s.slot i } } := by
  induction l generalizing s with
  | nil =>
    have hs : (Vector.ofFn fun i => if i ∈ ([] : List (Fin 16)) then { s.slot i with state := .held } else s.slot i) = s.upstream.slots := by
      ext1 i hi
      simp [State.slot]
    rw [hs]
    rfl
  | cons i l ih =>
    rw [List.foldl_cons, ih]
    have hs : (Vector.ofFn fun j => if j ∈ l then { (s.setSlot i { s.slot i with state := .held }).slot j with state := .held }
        else (s.setSlot i { s.slot i with state := .held }).slot j) =
        Vector.ofFn fun j => if j ∈ i :: l then { s.slot j with state := .held } else s.slot j := by
      refine congrArg Vector.ofFn (funext fun j => ?_)
      rw [setSlot_slot]
      by_cases hij : i = j
      · subst hij
        simp
      · rw [if_neg hij]
        simp [Ne.symm hij]
    rw [hs]
    rfl

/-- R15: the start of an item of group `g`, from a state with the requests of `s`. -/
theorem holdAtStart_started {s u : State} (hup : u.upstream = (quiet s).upstream) (hw : u.windows = s.windows) (g : Fin 8) :
    u.holdAtStart g = { u with upstream := itemStarted s g } := by
  have hslot (i : Fin 16) : u.slot i = s.slot i := by
    unfold State.slot
    rw [hup]
    rfl
  have hin (i : Fin 16) : u.slotIn g i = true ↔ InGroup s g i := by
    rw [slotIn_iff]
    unfold InGroup State.wordGroup State.windowOf
    rw [hslot, hw]
  have hhl : u.upstream.holdList = s.upstream.holdList := by rw [hup]; rfl
  have hpq : u.upstream.passQueue = s.upstream.passQueue := by rw [hup]; rfl
  have hfilter : u.upstream.passQueue.filter (u.slotIn g) = s.upstream.passQueue.filter (fun i => InGroup s g i) := by
    rw [hpq]
    exact List.filter_congr fun i _ => by rw [Bool.eq_iff_iff, hin, decide_eq_true_eq]
  have hrest : u.upstream.passQueue.filter (fun i => !u.slotIn g i) = s.upstream.passQueue.filter (fun i => ¬ InGroup s g i) := by
    rw [hpq]
    exact List.filter_congr fun i _ => by rw [Bool.eq_iff_iff, decide_eq_true_eq, ← hin, Bool.not_eq_true', Bool.not_eq_true]
  unfold State.holdAtStart
  dsimp only
  rw [hfilter, hrest, foldl_held, hhl]
  have hslots : (Vector.ofFn fun i => if i ∈ s.upstream.passQueue.filter (fun i => InGroup s g i) then { u.slot i with state := .held }
      else u.slot i) = Vector.ofFn fun i => if i ∈ s.upstream.passQueue ∧ InGroup s g i then { s.slot i with state := .held } else s.slot i := by
    refine congrArg Vector.ofFn (funext fun i => ?_)
    rw [hslot]
    refine if_congr ?_ rfl rfl
    rw [List.mem_filter, decide_eq_true_eq]
  unfold itemStarted
  rw [← hslots, ← hup]
  rfl

/-! ### The item taken (R87) -/

theorem cleared_iff (s : State) (it : Item) : s.cleared it = true ↔ s.drain.clearanceWait[it.group] = false := by
  unfold State.cleared
  rw [Bool.not_eq_true']

/-- A list's first element with a property. -/
theorem find?_append_cons {α : Type} {p : α → Bool} {l r : List α} {a : α} (hl : ∀ x ∈ l, ¬ p x = true) (ha : p a = true) :
    (l ++ a :: r).find? p = some a := by
  rw [List.find?_append, List.find?_eq_none.2 hl, List.find?_cons_of_pos ha]
  rfl

/-- R87: with no safe job in the queue, the first batch item whose group is clear. -/
theorem pickItem_batch {s : State} {ahead behind : List Item} {it : Item} (hq : s.releaseQueue = ahead ++ it :: behind)
    (hs : ∀ j ∈ s.releaseQueue, j.isSafe = false) (ha : ∀ j ∈ ahead, s.drain.clearanceWait[j.group] = true)
    (hc : s.drain.clearanceWait[it.group] = false) : s.pickItem = some it := by
  have hany : ¬ s.releaseQueue.any (·.isSafe) = true := by
    rw [List.any_eq_true]
    rintro ⟨j, hj, hsafe⟩
    cases (hs j hj).symm.trans hsafe
  unfold State.pickItem
  rw [if_neg hany, hq]
  refine find?_append_cons (fun j hj => ?_) ((cleared_iff s it).2 hc)
  rw [cleared_iff, ha j hj]
  simp

/-- R87: the foremost safe job whose group is clear. -/
theorem pickItem_safe {s : State} {ahead behind : List Item} {g : Fin 8} (hq : s.releaseQueue = ahead ++ .safe g :: behind)
    (ha : ∀ j ∈ ahead, j.isSafe = true ∧ s.drain.clearanceWait[j.group] = true) (hc : s.drain.clearanceWait[g] = false) :
    s.pickItem = some (.safe g) := by
  have hany : s.releaseQueue.any (·.isSafe) = true := by
    rw [List.any_eq_true, hq]
    exact ⟨.safe g, List.mem_append_right _ List.mem_cons_self, rfl⟩
  unfold State.pickItem
  rw [if_pos hany, hq]
  refine find?_append_cons (fun j hj => ?_) ?_
  · rw [Bool.and_eq_true, cleared_iff, (ha j hj).2]
    simp
  · rw [Bool.and_eq_true, cleared_iff]
    exact ⟨rfl, hc⟩

/-- R87: no item may be taken. -/
theorem pickItem_none {s : State} (h : ∀ it ∈ s.releaseQueue, s.drain.clearanceWait[it.group] = true ∨
    (it.isSafe = false ∧ ∃ j ∈ s.releaseQueue, j.isSafe = true)) : s.pickItem = none := by
  unfold State.pickItem
  split
  · refine List.find?_eq_none.2 fun it hit => ?_
    rw [Bool.and_eq_true, cleared_iff]
    rintro ⟨h1, h2⟩
    rcases h it hit with h | ⟨h, -⟩
    · cases h.symm.trans h2
    · cases h.symm.trans h1
  · rename_i hany
    refine List.find?_eq_none.2 fun it hit => ?_
    rw [cleared_iff]
    intro h2
    rcases h it hit with h | ⟨-, h⟩
    · cases h.symm.trans h2
    · exact hany (List.any_eq_true.2 h)

/-- R84, R87, R15: the state in which a taken item starts. -/
def itemHeld (s : State) (up : Upstream) (it : Item) (q : List Item) : State :=
  { quiet s with
    upstream := up
    releaseQueue := q
    drain := { s.drain with current := some it, progress := .writing, written := 0, errors := 0 } }

theorem makeCurrent_held {s : State} {it : Item} {ahead behind : List Item} (hq : s.releaseQueue = ahead ++ it :: behind)
    (hn : it ∉ ahead) {g : Fin 8} (hg : it.group = g) :
    ((quiet s).makeCurrent it).holdAtStart it.group = itemHeld s (itemStarted s g) it (ahead ++ behind) := by
  have he : (quiet s).releaseQueue.erase it = ahead ++ behind := by
    have : (quiet s).releaseQueue = ahead ++ it :: behind := hq
    rw [this, List.erase_append_right _ hn, List.erase_cons_head]
  rw [hg]
  refine (holdAtStart_started (s := s) (u := (quiet s).makeCurrent it) rfl rfl g).trans ?_
  unfold State.makeCurrent
  rw [he]
  rfl

theorem exec_takeItem {s : State} {it : Item} (hr : s.inReset = false) (hc : s.drain.current = none) (hp : s.pickItem = some it) :
    exec .drainTakeItem s = .next ((quiet s).takeItem it) := by
  have hb : ¬ ((quiet s).inReset || (quiet s).drain.current.isSome) = true := by simp [quiet, hr, hc]
  have hpq : (quiet s).pickItem = some it := hp
  show Host.Outcome.next (quiet s).decideItem = _
  unfold State.decideItem
  rw [if_neg hb, hpq]

theorem not_mem_of_waiting {s : State} {it : Item} {ahead : List Item} (ha : ∀ j ∈ ahead, s.drain.clearanceWait[j.group] = true)
    (hc : s.drain.clearanceWait[it.group] = false) : it ∉ ahead := fun h => by cases (ha it h).symm.trans hc

/-- R87: the batch in DRAINING, and the number of its entries taken. -/
def State.startedBatch (s : State) (g : Fin 8) (b : Batch) : State :=
  (s.setGroup g { s.group g with other := some { b with state := .draining } }).setDrain { s.drain with taken := b.entries.length }

theorem startBatch_eq {s : State} {g : Fin 8} {b : Batch} (ho : (s.group g).other = some b) :
    s.startBatch g = if b.entries = [] then (s.startedBatch g b).retire g { b with state := .draining } else s.startedBatch g b := by
  unfold State.startBatch
  rw [ho]
  exact if_congr List.isEmpty_iff rfl rfl

theorem exec_takeBatch {g : Fin 8} {q : Seq} {ahead behind : List Item} {b : Batch} {s : State} (hr : s.inReset = false)
    (hc : s.drain.current = none) (hq : s.releaseQueue = ahead ++ .batch g q :: behind) (hs : ∀ it ∈ s.releaseQueue, it.isSafe = false)
    (ha : ∀ it ∈ ahead, s.drain.clearanceWait[it.group] = true) (hw : s.drain.clearanceWait[g] = false) (ho : (s.group g).other = some b) :
    exec .drainTakeItem s = .next (
      if b.entries = [] then ((itemHeld s (itemStarted s g) (.batch g q) (ahead ++ behind)).startedBatch g b).retire g { b with state := .draining }
      else (itemHeld s (itemStarted s g) (.batch g q) (ahead ++ behind)).startedBatch g b) := by
  rw [exec_takeItem hr hc (pickItem_batch hq hs ha hw)]
  refine congrArg Host.Outcome.next ?_
  unfold State.takeItem
  rw [makeCurrent_held hq (not_mem_of_waiting ha hw) (g := g) rfl]
  exact startBatch_eq ho

theorem exec_takeSafe {g : Fin 8} {ahead behind : List Item} {s : State} (hr : s.inReset = false)
    (hc : s.drain.current = none) (hq : s.releaseQueue = ahead ++ .safe g :: behind)
    (ha : ∀ it ∈ ahead, it.isSafe = true ∧ s.drain.clearanceWait[it.group] = true) (hw : s.drain.clearanceWait[g] = false) :
    exec .drainTakeItem s = .next ((itemHeld s (itemStarted s g) (.safe g) (ahead ++ behind)).advanceSafe g 0) := by
  rw [exec_takeItem hr hc (pickItem_safe hq ha hw)]
  refine congrArg Host.Outcome.next ?_
  unfold State.takeItem
  rw [makeCurrent_held hq (not_mem_of_waiting (fun j hj => (ha j hj).2) hw) (g := g) rfl]

/-- R93: the record that a batch without entries leaves the group controller. -/
theorem startedBatch_recorded (s : State) (up : Upstream) (g : Fin 8) (q : Seq) (items : List Item) {b : Batch} (he : b.entries = []) :
    Recorded { s.submit (.batchRetired g b.seq b.sealCause b.errorsSeen) with releaseQueue := items }
      (((itemHeld s up (.batch g q) items).startedBatch g b).recorded g { b with state := .draining }) g
      { s.group g with other := none, retirement := retirementOf s g b 0 b.errorsSeen } := by
  have hg (k : Fin 8) : ((itemHeld s up (.batch g q) items).startedBatch g b).group k =
      if g = k then { s.group g with other := some { b with state := .draining } } else s.group k :=
    setGroup_group (itemHeld s up (.batch g q) items) g k _
  have hret : ((itemHeld s up (.batch g q) items).startedBatch g b).retirementRecord g { b with state := .draining } =
      retirementOf s g b 0 b.errorsSeen := by
    have hb : ((itemHeld s up (.batch g q) items).startedBatch g b).drain.taken = 0 := by
      show b.entries.length = 0
      rw [he]
      rfl
    unfold State.retirementRecord
    rw [hg, if_pos rfl, hb]
    rfl
  have h := recorded_of (s := (itemHeld s up (.batch g q) items).startedBatch g b) (r := s) (g := g) (b := { b with state := .draining })
    (u := { s.submit (.batchRetired g b.seq b.sealCause b.errorsSeen) with releaseQueue := items }) rfl rfl (fun k => ?_) (fun k hk => ?_) rfl
    (fun k => submit_group s _ k) (submit_groupsOnly s _).baseA (congrArg Link.pending (submit_groupsOnly s _).link) rfl rfl
  · rw [hret, hg, if_pos rfl] at h
    exact h
  · rw [hg]
    split
    · rename_i e
      rw [e]
    · rfl
  · rw [hg, if_neg (Ne.symm hk)]

theorem itemHeld_submit (s : State) (up : Upstream) (it : Item) (items : List Item) (b : EventBody) :
    ((itemHeld s up it items).submit b).events = (s.submit b).events := by
  rw [submit_eq_of_congr (s := s) (t := itemHeld s up it items) rfl rfl (fun _ => rfl) b]

/-- Settles O25, by the item that the queue and the clearance flags let the engine take. -/
theorem itemTaken : Obligations.ItemTaken := by
  refine ⟨fun g q ahead behind b s hr hc hq hs ha hw ho => ?_, fun g ahead behind s hr hc hq ha hw => ?_, fun s h => ?_⟩
  · have hx := exec_takeBatch hr hc hq hs ha hw ho
    generalize itemStarted s g = up at hx ⊢
    refine ⟨fun he => ?_, fun he hpol => ⟨_, by rw [hx, if_pos he], ?_⟩⟩
    · rw [hx, if_neg he]
      rfl
    · obtain ⟨h1, h2⟩ := retire_spec (s := (itemHeld s up (.batch g q) (ahead ++ behind)).startedBatch g b) (g := g)
        (b := { b with state := .draining })
        (by
          have hcfg : (((itemHeld s up (.batch g q) (ahead ++ behind)).startedBatch g b).group g).config = (s.group g).config :=
            (congrArg Group.config (setGroup_group (itemHeld s up (.batch g q) (ahead ++ behind)) g g _)).trans (by rw [if_pos rfl]; rfl)
          rw [hcfg]
          rcases hpol with h | h
          · exact .inl h
          · exact .inr (.inl h)) (startedBatch_recorded s up g q (ahead ++ behind) he)
      generalize ((itemHeld s up (.batch g q) (ahead ++ behind)).startedBatch g b).retire g { b with state := .draining } = t at h1 h2 ⊢
      refine ⟨h1.trans ?_, h2⟩
      unfold State.startedBatch
      rw [he]
      rfl
  · have hx := exec_takeSafe hr hc hq ha hw
    generalize itemStarted s g = up at hx ⊢
    refine ⟨fun k he hg hf => ?_, fun hn => ?_⟩
    · rw [hx, advanceSafe_of_first (nextSafe_of_first (s := itemHeld s up (.safe g) (ahead ++ behind)) (Nat.zero_le _) he hg fun j _ hj => hf j hj)]
      rfl
    · have hsafe : (((itemHeld s up (.safe g) (ahead ++ behind)).group g).safeIncomplete ||
          decide ((itemHeld s up (.safe g) (ahead ++ behind)).drain.errors ≠ 0)) = (s.group g).safeIncomplete := Bool.or_false _
      rw [hx, advanceSafe_of_none (s := itemHeld s up (.safe g) (ahead ++ behind)) (fun n _ => hn n), completeSafe_eq,
        itemHeld_submit, hsafe]
      rfl
  · show Host.Outcome.next (quiet s).decideItem = _
    refine congrArg Host.Outcome.next ?_
    unfold State.decideItem
    split
    · rfl
    · rename_i hb
      have hn : (quiet s).pickItem = none := by
        rcases h with h | h
        · refine absurd ?_ hb
          rw [Bool.or_eq_true]
          exact .inr (Option.isSome_iff_ne_none.2 h)
        · exact pickItem_none (s := quiet s) h
      rw [hn]

end Sys2Proof.Machine

/-! PROOFS. Chapter 01, R18 and R19, with R96 and R99: the end report of an item, request by request in hold order. -/

namespace Sys2Proof.Machine

open Sys2Proof.Safety

/-! ### One held request decided again (R18) -/

theorem slotInit_toNat (i : Fin 16) : (slotInit i).toNat = i.val / 4 := by
  decide +revert

/-- R9: without an OPEN batch nothing is staged. -/
theorem stageSlot_none {s : State} {i : Fin 16} {w : Window} (ho : (s.group w.group).opened = none) (d : Word) (m : Mask) :
    s.stageSlot i w d m = s.setSlot i (answered (s.slot i) .staged) := by
  unfold State.stageSlot State.stage
  simp only [ho]
  rfl

/-- R18: a held slot returns, perhaps with a snapshot, or is answered. -/
theorem heldSlot_cases (s : State) (w : Window) (own : Bool) (x : Slot) :
    (∃ snap, heldSlot s w own x = returned { x with snapshot := snap } w.group) ∨
      ∃ snap r, heldSlot s w own x = answered { x with snapshot := snap } r := by
  unfold heldSlot
  dsimp only
  split
  · split
    · split
      · exact .inr ⟨_, _, rfl⟩
      · exact .inl ⟨_, rfl⟩
    · exact .inl ⟨x.snapshot, rfl⟩
  · split
    · exact .inl ⟨x.snapshot, rfl⟩
    · split
      · exact .inr ⟨x.snapshot, _, rfl⟩
      · split <;> exact .inr ⟨x.snapshot, _, rfl⟩

/-- R18: a slot as the re-decode leaves it, before the item's end gives the returning ones their mark. -/
def unmarkedSlot (s : State) (w : Window) (own : Bool) (x : Slot) : Slot :=
  if (heldSlot s w own x).state = .queued then { heldSlot s w own x with returnMark := x.returnMark } else heldSlot s w own x

theorem unmarkedSlot_returned {s : State} {w : Window} {own : Bool} {x y : Slot} {g : Fin 8} (h : heldSlot s w own x = returned y g) :
    unmarkedSlot s w own x = { y with state := .queued, returnMark := x.returnMark } := by
  unfold unmarkedSlot
  rw [h]
  exact if_pos rfl

theorem unmarkedSlot_answered {s : State} {w : Window} {own : Bool} {x y : Slot} {r : Response} (h : heldSlot s w own x = answered y r) :
    unmarkedSlot s w own x = answered y r := by
  unfold unmarkedSlot
  rw [h]
  exact if_neg (by simp [answered])

/-- R18: what the re-decode of the slot's request comes to. -/
def Redecoded (s : State) (i : Fin 16) (w : Window) (r : Route) : Prop :=
  s.follow i r = (heldEffect s w (w.owners.getLsbD (i.val / 4)) (slotInit i) (s.slot i)).setSlot i
    (unmarkedSlot s w (w.owners.getLsbD (i.val / 4)) (s.slot i)) ∧
  (r.toMemory = true ↔ (heldSlot s w (w.owners.getLsbD (i.val / 4)) (s.slot i)).state = .queued)

section
variable {s : State} {i : Fin 16} {w : Window}

theorem redecoded_pass (he : heldEffect s w (w.owners.getLsbD (i.val / 4)) (slotInit i) (s.slot i) = s)
    (hx : heldSlot s w (w.owners.getLsbD (i.val / 4)) (s.slot i) = returned (s.slot i) w.group) : Redecoded s i w .pass := by
  unfold Redecoded
  rw [he, unmarkedSlot_returned hx, hx]
  exact ⟨rfl, iff_of_true rfl rfl⟩

theorem redecoded_refuse {c : RefusalCause}
    (he : heldEffect s w (w.owners.getLsbD (i.val / 4)) (slotInit i) (s.slot i) = refusalMade s w.group c (slotInit i))
    (hx : heldSlot s w (w.owners.getLsbD (i.val / 4)) (s.slot i) = answered (s.slot i) (.refused c)) :
    Redecoded s i w (.refuse w.group c) := by
  unfold Redecoded
  rw [he, unmarkedSlot_answered hx, hx]
  exact ⟨refuse_eq s i w.group c, iff_of_false (by simp [Route.toMemory]) (by simp [answered])⟩

/-- R5: a read, whatever its group's state. -/
theorem redecoded_read (hw : s.windowOf (s.slot i).addr = some w) (hk : (s.slot i).kind = .read) : Redecoded s i w (s.route i) := by
  have he : heldEffect s w (w.owners.getLsbD (i.val / 4)) (slotInit i) (s.slot i) = s := by
    unfold heldEffect
    rw [hk]
  by_cases hoff : (s.group w.group).state = .off
  · rw [route_pass s i (.inr ⟨w, hw, hoff⟩)]
    refine redecoded_pass he ?_
    unfold heldSlot
    simp [hk, hoff]
  · rw [route_window s i w hw hoff, State.routeIn, hk]
    dsimp only
    rw [Window.owned, slotInit_toNat, State.routeOwnRead]
    cases ho : w.owners.getLsbD (i.val / 4) && w.readOwn with
    | false =>
      refine redecoded_pass he ?_
      unfold heldSlot
      simp only [hk]
      refine if_neg ?_
      rintro ⟨-, h1, h2, -⟩
      rw [h1, h2] at ho
      cases ho
    | true =>
      obtain ⟨h1, h2⟩ := Bool.and_eq_true_iff.1 ho
      rw [if_pos rfl]
      cases hs : (s.slot i).snapshot with
      | some snap =>
        refine redecoded_pass he ?_
        unfold heldSlot
        simp [hk, hs]
      | none =>
        dsimp only
        by_cases hc : (s.snapshot w.group (s.slot i).addr).covered = 0x0#4
        · rw [if_pos hc]
          refine redecoded_pass he ?_
          unfold heldSlot
          simp [hk, hc]
        · have hx : heldSlot s w (w.owners.getLsbD (i.val / 4)) (s.slot i) =
              if (s.snapshot w.group (s.slot i).addr).covered = 0xF#4 then
                answered { s.slot i with snapshot := some (s.snapshot w.group (s.slot i).addr) }
                  (.data (s.snapshot w.group (s.slot i).addr).value)
              else returned { s.slot i with snapshot := some (s.snapshot w.group (s.slot i).addr) } w.group := by
            unfold heldSlot
            simp only [hk]
            exact if_pos ⟨hoff, h1, h2, hs, hc⟩
          rw [if_neg hc]
          unfold Redecoded
          by_cases hf : (s.snapshot w.group (s.slot i).addr).covered = 0xF#4
          · rw [if_pos hf] at hx
            rw [if_pos hf, unmarkedSlot_answered hx, hx, he]
            refine ⟨?_, iff_of_false (by simp [Route.toMemory]) (by simp [answered])⟩
            unfold State.follow
            dsimp only
            unfold State.answer
            rw [setSlot_slot, if_pos rfl, setSlot_setSlot]
            rfl
          · rw [if_neg hf] at hx
            rw [if_neg hf, unmarkedSlot_returned hx, hx, he]
            exact ⟨rfl, iff_of_true rfl rfl⟩

/-- R6: a write, by its initiator's right and its group's state. -/
theorem redecoded_write (hw : s.windowOf (s.slot i).addr = some w) {d : Word} {m : Mask} (hk : (s.slot i).kind = .write d m) :
    Redecoded s i w (s.route i) := by
  by_cases hoff : (s.group w.group).state = .off
  · rw [route_pass s i (.inr ⟨w, hw, hoff⟩)]
    refine redecoded_pass ?_ ?_
    · unfold heldEffect
      simp [hk, hoff]
    · unfold heldSlot
      simp [hk, hoff]
  · rw [route_window s i w hw hoff, State.routeIn, hk]
    dsimp only
    rw [Window.owned, slotInit_toNat]
    cases ho : w.owners.getLsbD (i.val / 4) with
    | false =>
      rw [if_neg (by simp), routeForeignWrite]
      cases hf : w.foreign with
      | pass =>
        refine redecoded_pass ?_ ?_
        · unfold heldEffect
          simp [hk, ho, hf]
        · unfold heldSlot
          simp [hk, ho, hf]
      | refuse =>
        refine redecoded_refuse ?_ ?_
        · unfold heldEffect
          simp [hk, ho, hf, hoff]
        · unfold heldSlot
          simp [hk, ho, hf, hoff]
    | true =>
      rw [if_pos rfl]
      cases hst : (s.group w.group).state with
      | off => exact absurd hst hoff
      | active =>
        rw [routeOwnWrite]
        unfold Redecoded unmarkedSlot heldEffect heldSlot State.follow
        simp only [hk, ho, hst, ownerRefusal]
        cases hb : (s.group w.group).opened with
        | none =>
          simp [stageSlot_none hb, answered, Route.toMemory]
        | some b =>
          simp [stageSlot_eq hst hb, answered, Route.toMemory]
      | stopping =>
        refine redecoded_refuse ?_ ?_
        · unfold heldEffect
          simp [hk, ho, hst, ownerRefusal]
        · unfold heldSlot
          simp [hk, ho, hst, ownerRefusal]
      | safing =>
        refine redecoded_refuse ?_ ?_
        · unfold heldEffect
          simp [hk, ho, hst, ownerRefusal]
        · unfold heldSlot
          simp [hk, ho, hst, ownerRefusal]
      | faulted =>
        refine redecoded_refuse ?_ ?_
        · unfold heldEffect
          simp [hk, ho, hst, ownerRefusal]
        · unfold heldSlot
          simp [hk, ho, hst, ownerRefusal]

/-- R18: the re-decode of a held request in Safety's words, its return mark apart. -/
theorem redecoded (hw : s.windowOf (s.slot i).addr = some w) : Redecoded s i w (s.route i) := by
  cases hk : (s.slot i).kind with
  | read => exact redecoded_read hw hk
  | write d m => exact redecoded_write hw hk

end

/-! ### The request port beside a re-decode's effect -/

section
variable {s : State} (up : Upstream)

theorem refusalMade_upstream (g : Fin 8) (c : RefusalCause) (init : BitVec 2) :
    refusalMade { s with upstream := up } g c init = graft { s with upstream := up } (refusalMade s g c init) := by
  have he : refusalEvents { s with upstream := up } g c init = refusalEvents s g c init := by
    unfold refusalEvents
    rw [submit_eq_of_congr (s := s) (t := { s with upstream := up }) rfl rfl (fun _ => rfl)]
    rfl
  unfold refusalMade
  rw [he]
  rfl

theorem writeEffect_upstream (w : Window) (b : Batch) (init : BitVec 2) (a : WordAddr) (d : Word) (m : Mask) :
    writeEffect { s with upstream := up } w b init a d m = graft { s with upstream := up } (writeEffect s w b init a d m) := by
  have hr : stagingRefusal { s with upstream := up } (({ s with upstream := up } : State).group w.group) b a m =
      stagingRefusal s (s.group w.group) b a m := rfl
  unfold writeEffect
  dsimp only
  rw [hr]
  cases stagingRefusal s (s.group w.group) b a m with
  | some cause =>
    dsimp only
    rw [refusalMade_upstream, tripSource_graft (s := { s with upstream := up }) (v := refusalMade s w.group cause init) rfl rfl]
    by_cases ht : (s.group w.group).config.overflow = .trip
    · rw [if_pos ht]
      exact if_pos ht
    · rw [if_neg ht]
      exact if_neg ht
  | none =>
    cases w.isSealWord a with
    | false => rfl
    | true =>
      have ho : (({ s with upstream := up } : State).group w.group).other = (s.group w.group).other := rfl
      rw [ho]
      cases (s.group w.group).other.isNone <;> rfl

theorem heldEffect_upstream (w : Window) (own : Bool) (init : BitVec 2) (x : Slot) :
    heldEffect { s with upstream := up } w own init x = graft { s with upstream := up } (heldEffect s w own init x) := by
  unfold heldEffect
  dsimp only
  cases x.kind with
  | read => rfl
  | write d m =>
    dsimp only
    by_cases hp : (s.group w.group).state = .off ∨ (own = false ∧ w.foreign = .pass)
    · exact (if_pos hp).trans (congrArg (graft { s with upstream := up }) (if_pos hp).symm)
    · refine (if_neg hp).trans (Eq.trans ?_ (congrArg _ (if_neg hp).symm))
      by_cases ho : own = false
      · rw [if_pos ho, if_pos ho, refusalMade_upstream]
      · rw [if_neg ho, if_neg ho]
        have hg : ({ s with upstream := up } : State).group w.group = s.group w.group := rfl
        rw [hg]
        cases ownerRefusal (s.group w.group).state with
        | some c => exact refusalMade_upstream up w.group c init
        | none =>
          cases (s.group w.group).opened with
          | some b => exact writeEffect_upstream up w b init x.addr d m
          | none => rfl

end

theorem heldEffect_groupsOnly (s : State) (w : Window) (own : Bool) (init : BitVec 2) (x : Slot) :
    GroupsOnly s (heldEffect s w own init x) := by
  have hr (c : RefusalCause) : GroupsOnly s (refusalMade s w.group c init) := ⟨_, _, _, _, rfl⟩
  unfold heldEffect
  dsimp only
  cases x.kind with
  | read => exact .refl s
  | write d m =>
    dsimp only
    split
    · exact .refl s
    · split
      · exact hr _
      · split
        · exact hr _
        · exact writeEffect_groupsOnly s w _ init x.addr d m
        · exact .refl s

theorem heldStep_eq {s : State} {i : Fin 16} {w : Window} (hw : s.windowOf (s.slot i).addr = some w) :
    heldStep s i = (heldEffect s w (w.owners.getLsbD (i.val / 4)) (slotInit i) (s.slot i)).setSlot i
      (heldSlot s w (w.owners.getLsbD (i.val / 4)) (s.slot i)) := by
  have hup := (heldEffect_groupsOnly s w (w.owners.getLsbD (i.val / 4)) (slotInit i) (s.slot i)).upstream
  unfold heldStep
  rw [hw]
  unfold State.setSlot
  rw [hup]

theorem heldStep_slot (s : State) {i j : Fin 16} (h : i ≠ j) : (heldStep s i).slot j = s.slot j := by
  cases hw : s.windowOf (s.slot i).addr with
  | none =>
    unfold heldStep
    rw [hw]
  | some w => rw [heldStep_eq hw, setSlot_slot, if_neg h, (heldEffect_groupsOnly s w _ _ _).slot]

/-! ### The held requests decided again, in the model's order and in the statement's -/

/-- R18, R19: `u` is `v` but for the hold list and for the mark of group `g` on the slots of `out`. -/
structure MarkedOver (g : Fin 8) (hl : List (Fin 16)) (v u : State) (out : List (Fin 16)) : Prop where
  eq : u = { v with upstream := { v.upstream with holdList := hl, slots := u.upstream.slots } }
  slots : ∀ j, u.slot j = if j ∈ out then { v.slot j with returnMark := some g } else v.slot j

theorem MarkedOver.step {g : Fin 8} {hl : List (Fin 16)} {v u : State} {out : List (Fin 16)} (h : MarkedOver g hl v u out) {i : Fin 16}
    {w : Window} (hi : i ∉ out) (hw : v.windowOf (v.slot i).addr = some w) (hg : w.group = g) :
    MarkedOver g hl (reDecode (v, out) i).1 (heldStep u i) (reDecode (v, out) i).2 ∧
      (reDecode (v, out) i).2 = if ((heldStep u i).slot i).state = .queued then out ++ [i] else out := by
  obtain ⟨heq, hslots⟩ := h
  have hui : u.slot i = v.slot i := by rw [hslots, if_neg hi]
  set own := w.owners.getLsbD (i.val / 4)
  obtain ⟨hf, hm⟩ := redecoded hw
  have hx : heldSlot u w own (u.slot i) = heldSlot v w own (v.slot i) := by rw [hui, heq]; rfl
  have he : heldEffect u w own (slotInit i) (u.slot i) = graft u (heldEffect v w own (slotInit i) (v.slot i)) := by
    rw [hui]
    conv_lhs => rw [heq]
    rw [heldEffect_upstream, ← heq]
  have hwu : u.windowOf (u.slot i).addr = some w := by rw [hui, heq]; exact hw
  have hstep : heldStep u i = (graft u (heldEffect v w own (slotInit i) (v.slot i))).setSlot i (heldSlot v w own (v.slot i)) := by
    rw [heldStep_eq hwu, he, hx]
  have hG := heldEffect_groupsOnly v w own (slotInit i) (v.slot i)
  have hout : (reDecode (v, out) i).2 = if (heldSlot v w own (v.slot i)).state = .queued then out ++ [i] else out := by
    unfold reDecode
    dsimp only
    exact if_congr hm rfl rfl
  have hacc : (reDecode (v, out) i).1 = (heldEffect v w own (slotInit i) (v.slot i)).setSlot i (unmarkedSlot v w own (v.slot i)) := hf
  have hug : graft u (heldEffect v w own (slotInit i) (v.slot i)) =
      { heldEffect v w own (slotInit i) (v.slot i) with upstream := u.upstream } := by
    rw [heq, hG.eq_graft]
    rfl
  have hup : u.upstream = { v.upstream with holdList := hl, slots := u.upstream.slots } := congrArg State.upstream heq
  rw [hout, hacc, hstep, hug]
  refine ⟨⟨?_, fun j => ?_⟩, ?_⟩
  · simp only [State.setSlot]
    rw [hup, hG.upstream]
  · have hvj : ((heldEffect v w own (slotInit i) (v.slot i)).setSlot i (unmarkedSlot v w own (v.slot i))).slot j =
        if i = j then unmarkedSlot v w own (v.slot i) else v.slot j := by rw [setSlot_slot, hG.slot]
    have huj : (({ heldEffect v w own (slotInit i) (v.slot i) with upstream := u.upstream } : State).setSlot i
        (heldSlot v w own (v.slot i))).slot j = if i = j then heldSlot v w own (v.slot i) else u.slot j := setSlot_slot _ i j _
    rw [hvj, huj]
    by_cases hij : i = j
    · subst hij
      rw [if_pos rfl, if_pos rfl]
      rcases heldSlot_cases v w own (v.slot i) with ⟨snap, hr⟩ | ⟨snap, r, hr⟩
      · have hq : (heldSlot v w own (v.slot i)).state = .queued := by rw [hr]; rfl
        rw [if_pos hq, if_pos (by simp), unmarkedSlot_returned hr, hr, ← hg]
        rfl
      · have hq : ¬ (heldSlot v w own (v.slot i)).state = .queued := by rw [hr]; simp [answered]
        rw [if_neg hq, if_neg hi, unmarkedSlot_answered hr, hr]
    · rw [if_neg hij, if_neg hij, hslots]
      refine if_congr ?_ rfl rfl
      split <;> simp [Ne.symm hij]
  · rw [setSlot_slot, if_pos rfl]

/-- R18: the requests of the list decided again one after the other, from `v` and from `u`. -/
theorem MarkedOver.foldl {s : State} {g : Fin 8} {hl : List (Fin 16)} (l : List (Fin 16)) {done : List (Fin 16)} (hn : (done ++ l).Nodup)
    (hin : ∀ i ∈ l, s.wordGroup (s.slot i).addr = some g) {v u : State} {out : List (Fin 16)} (hd : Decided s v done out)
    (h : MarkedOver g hl v u out) (hout : out = done.filter (fun i => (u.slot i).state = .queued)) :
    MarkedOver g hl (l.foldl reDecode (v, out)).1 (l.foldl heldStep u) (l.foldl reDecode (v, out)).2 ∧
      (l.foldl reDecode (v, out)).2 = (done ++ l).filter (fun i => ((l.foldl heldStep u).slot i).state = .queued) := by
  induction l generalizing done v u out with
  | nil =>
    rw [List.append_nil]
    exact ⟨h, hout⟩
  | cons i l ih =>
    have hi : i ∉ done := fun hm => (List.nodup_append.1 hn).2.2 i hm i (by simp) rfl
    have hio : i ∉ out := fun hm => hi (hd.sub i hm)
    obtain ⟨w, hw, hg⟩ : ∃ w, v.windowOf (v.slot i).addr = some w ∧ w.group = g := by
      have := hin i List.mem_cons_self
      rw [State.wordGroup, Option.map_eq_some_iff] at this
      rw [hd.kept i hi, State.windowOf, hd.frame.windows]
      exact this
    obtain ⟨hm, hq⟩ := h.step hio hw hg
    have hd' := hd.step hi
    have hold : done.filter (fun j => ((heldStep u i).slot j).state = .queued) = out := by
      rw [hout]
      exact List.filter_congr fun j hj => by rw [heldStep_slot u (by rintro rfl; exact hi hj)]
    have hout' : (reDecode (v, out) i).2 = (done ++ [i]).filter (fun j => ((heldStep u i).slot j).state = .queued) := by
      rw [hq, List.filter_append, hold, List.filter_singleton]
      by_cases hs : ((heldStep u i).slot i).state = .queued <;> simp [hs]
    have := ih (done := done ++ [i]) (by simpa using hn) (fun j hj => hin j (List.mem_cons_of_mem _ hj)) hd' hm hout'
    rwa [List.append_assoc, List.singleton_append] at this

/-- With the hold list emptied and the marks in place the two agree. -/
theorem MarkedOver.emptied {g : Fin 8} {hl : List (Fin 16)} {v u : State} {out : List (Fin 16)} (h : MarkedOver g hl v u out)
    (hv : v.upstream.holdList = []) (q : List (Fin 16)) :
    { v with upstream := { v.upstream with slots := u.upstream.slots, passQueue := q } } =
      { u with upstream := { u.upstream with passQueue := q, holdList := [] } } := by
  have he := h.eq
  clear h
  generalize u.upstream.slots = slots at *
  rw [he, ← hv]

/-- R18, R19: the held requests' return at the end of the current item, in Safety's words. -/
theorem returnHeld_eq {s : State} (h : RequestsFit s) {it : Item} (hit : s.drain.current = some it) {u : State}
    (hu : u = s.upstream.holdList.foldl heldStep s) :
    s.returnHeld it.group = { u with upstream := { u.upstream with
      passQueue := s.upstream.holdList.filter (fun i => (u.slot i).state = .queued) ++ s.upstream.passQueue, holdList := [] } } := by
  obtain ⟨x, out, v, hd, hx, hr, hv⟩ := returnHeld_spec h hit
  have hin (i : Fin 16) (hi : i ∈ s.upstream.holdList) : s.wordGroup (s.slot i).addr = some it.group := by
    have := (released_eq h hit).1
    rw [List.filter_eq_self] at this
    exact (slotIn_iff s _ i).1 (this i hi)
  have h0 : MarkedOver it.group s.upstream.holdList (s.setHoldList []) s [] := ⟨rfl, fun j => rfl⟩
  obtain ⟨hm, hout⟩ := MarkedOver.foldl (s := s.setHoldList []) s.upstream.holdList (done := []) h.holdNodup hin (.refl _) h0 rfl
  rw [← hx, ← hu] at hm hout
  dsimp only at hm hout
  have hslots : v = u.upstream.slots := by
    ext1 j hj
    have h1 := hv ⟨j, hj⟩
    rw [← hm.slots] at h1
    exact h1
  rw [hr, hslots, hout, List.nil_append]
  exact hm.emptied hd.holdList _

theorem foldl_heldStep_requestsOnly (l : List (Fin 16)) (s : State) : RequestsOnly s (l.foldl heldStep s) := by
  refine .foldl heldStep (fun s i => ?_) l s
  cases hw : s.windowOf (s.slot i).addr with
  | none =>
    unfold heldStep
    rw [hw]
  | some w =>
    rw [heldStep_eq hw]
    exact (RequestsOnly.of_groupsOnly (heldEffect_groupsOnly s w _ _ _)).trans (setSlot_requestsOnly _ i _)

/-- R18, R19, R96, R99: the item's end, return clearance reported. -/
theorem clearedEnd_eq {s : State} (h : RequestsFit s) {it : Item} (hit : s.drain.current = some it) {u : State}
    (hu : u = s.upstream.holdList.foldl heldStep s) :
    (s.itemEnded it.group).reportClearance = { u with
      upstream := { u.upstream with
        passQueue := s.upstream.holdList.filter (fun i => (u.slot i).state = .queued) ++ s.upstream.passQueue, holdList := [] }
      drain := { s.drain with
        current := none
        clearanceWait := Vector.ofFn fun g => decide (∃ i : Fin 16, (u.slot i).returnMark = some g) } } := by
  have hdrain : u.drain = s.drain := by
    rw [hu]
    exact (foldl_heldStep_requestsOnly _ s).drain
  obtain ⟨-, -, -, -, hc⟩ := (requestsFit_itemEnded h hit).reportClearance
  obtain ⟨v, hv, -⟩ := reportClearance_spec (s.itemEnded it.group)
  rw [hv] at hc ⊢
  unfold State.itemEnded at hc ⊢
  rw [returnHeld_eq h hit hu] at hc ⊢
  have hw : v = Vector.ofFn fun g => decide (∃ i : Fin 16, (u.slot i).returnMark = some g) := by
    ext1 g hg
    rw [Vector.getElem_ofFn, Bool.eq_iff_iff, decide_eq_true_eq]
    exact hc ⟨g, hg⟩
  rw [← hw, ← hdrain]
  rfl

/-- R96: END_REPORT at the end of an item. -/
theorem exec_endReport {s : State} (h : RequestsOk s) {it : Item} (hit : s.drain.current = some it) (hp : s.drain.progress = .ending)
    {u : State} (hu : u = s.upstream.holdList.foldl heldStep (quiet s)) :
    exec .endReport s = .next (reported { u with
      upstream := { u.upstream with
        passQueue := s.upstream.holdList.filter (fun i => (u.slot i).state = .queued) ++ s.upstream.passQueue, holdList := [] }
      drain := { s.drain with
        current := none
        clearanceWait := Vector.ofFn fun g => decide (∃ i : Fin 16, (u.slot i).returnMark = some g) } }) := by
  have hf : RequestsFit (quiet s) := (((requestsOk_iff s).1 h).1).congr rfl rfl rfl rfl rfl rfl rfl
  have hexec : exec .endReport s = .next (quiet s).endItem := rfl
  have hend : (quiet s).endItem = (quiet s).reportEnd it.group := by
    unfold State.endItem
    simp only [quiet, hit, hp, if_true]
  rw [hexec, hend, reportEnd_eq, reportBlocks_eq, clearedEnd_eq hf hit hu]
  rfl

end Sys2Proof.Machine

/-! PROOFS. Chapters 01, 03 and 05: what the end report comes to where no request is held, where the group is OFF, and where it is
SAFING or FAULTED (R18, R19). -/

namespace Sys2Proof.Machine

open Sys2Proof.Safety

theorem reported_of_ready {s : State} (h : s.link.pending ≠ some .softReset) : reported s = s := if_neg h

theorem reported_drain (s : State) : (reported s).drain = s.drain := by
  unfold reported
  split <;> rfl

theorem reported_upstream (s : State) : (reported s).upstream = s.upstream := by
  unfold reported
  split <;> rfl

theorem reported_slot (s : State) (i : Fin 16) : (reported s).slot i = s.slot i := by
  rw [State.slot, reported_upstream]
  rfl

/-- R19: a clearance-wait flag is a return mark. -/
theorem marked_eq {s : State} (h : ClearanceOk s) :
    (Vector.ofFn fun g => decide (∃ i : Fin 16, (s.slot i).returnMark = some g)) = s.drain.clearanceWait := by
  ext1 g hg
  rw [Vector.getElem_ofFn, Bool.eq_iff_iff, decide_eq_true_eq]
  exact (h ⟨g, hg⟩).symm

theorem marked_wait {u : State} {g : Fin 8} (h : ∃ i : Fin 16, (u.slot i).returnMark = some g) :
    (Vector.ofFn fun g => decide (∃ i : Fin 16, (u.slot i).returnMark = some g))[g] = true := by
  rw [Fin.getElem_fin, Vector.getElem_ofFn, decide_eq_true_eq]
  exact h

/-! ### The slots of a run of re-decodes -/

theorem heldStep_windows (s : State) (i : Fin 16) : (heldStep s i).windows = s.windows :=
  (foldl_heldStep_requestsOnly [i] s).windows

theorem foldl_heldStep_slot (l : List (Fin 16)) (s : State) {i : Fin 16} (h : i ∉ l) : (l.foldl heldStep s).slot i = s.slot i := by
  induction l generalizing s with
  | nil => rfl
  | cons a l ih =>
    rw [List.mem_cons, not_or] at h
    rw [List.foldl_cons, ih _ h.2, heldStep_slot s (Ne.symm h.1)]

/-- R18: a group's property that each of its held requests keeps when decided again stands after them all. -/
theorem foldl_heldStep_group {g : Fin 8} {P : Group → Prop}
    (hP : ∀ (s : State) (i : Fin 16) (w : Window), s.windowOf (s.slot i).addr = some w → w.group = g → P (s.group g) →
      P ((heldStep s i).group g))
    (l : List (Fin 16)) (hl : l.Nodup) (s : State) (hin : ∀ i ∈ l, s.wordGroup (s.slot i).addr = some g) (h : P (s.group g)) :
    P ((l.foldl heldStep s).group g) := by
  induction l generalizing s with
  | nil => exact h
  | cons i l ih =>
    obtain ⟨hi, hl⟩ := List.nodup_cons.1 hl
    obtain ⟨w, hw, hg⟩ := Option.map_eq_some_iff.1 (hin i List.mem_cons_self)
    refine ih hl (heldStep s i) (fun j hj => ?_) (hP s i w hw hg h)
    rw [heldStep_slot s (by rintro rfl; exact hi hj), wordGroup_congr s (heldStep_windows s i)]
    exact hin j (List.mem_cons_of_mem _ hj)

/-! ### A group that is OFF -/

/-- R18: into an OFF group every held request returns. -/
theorem heldStep_off {s : State} {i : Fin 16} {w : Window} (hw : s.windowOf (s.slot i).addr = some w)
    (hoff : (s.group w.group).state = .off) : heldStep s i = s.setSlot i (returned (s.slot i) w.group) := by
  have he : heldEffect s w (w.owners.getLsbD (i.val / 4)) (slotInit i) (s.slot i) = s := by
    unfold heldEffect
    dsimp only
    cases (s.slot i).kind with
    | read => rfl
    | write d m => exact if_pos (.inl hoff)
  have hx : heldSlot s w (w.owners.getLsbD (i.val / 4)) (s.slot i) = returned (s.slot i) w.group := by
    unfold heldSlot
    dsimp only
    cases (s.slot i).kind with
    | read => exact if_neg fun h => h.1 hoff
    | write d m => exact if_pos (.inl hoff)
  rw [heldStep_eq hw, he, hx]

theorem foldl_heldStep_off {g : Fin 8} (l : List (Fin 16)) (s : State) (hin : ∀ i ∈ l, s.wordGroup (s.slot i).addr = some g)
    (hoff : (s.group g).state = .off) : l.foldl heldStep s = l.foldl (fun s i => s.setSlot i (returned (s.slot i) g)) s := by
  induction l generalizing s with
  | nil => rfl
  | cons i l ih =>
    obtain ⟨w, hw, rfl⟩ := Option.map_eq_some_iff.1 (hin i List.mem_cons_self)
    rw [List.foldl_cons, List.foldl_cons, heldStep_off hw hoff]
    refine ih _ (fun j hj => ?_) hoff
    have haddr : ((s.setSlot i (returned (s.slot i) w.group)).slot j).addr = (s.slot j).addr := by
      rw [setSlot_slot]
      split
      · rename_i e
        rw [← e]
        rfl
      · rfl
    rw [haddr]
    exact hin j (List.mem_cons_of_mem _ hj)

/-! ### A group in SAFING or FAULTED -/

/-- R32, R44: a group in SAFING or FAULTED without a batch. -/
structure Faulting (gr : Group) : Prop where
  state : gr.state = .safing ∨ gr.state = .faulted
  opened : gr.opened = none
  other : gr.other = none

theorem Faulting.refusal {gr : Group} (h : Faulting gr) : ownerRefusal gr.state = some .faulted := by
  rcases h.state with e | e <;> rw [e] <;> rfl

theorem Faulting.not_off {gr : Group} (h : Faulting gr) : gr.state ≠ .off := by
  rcases h.state with e | e <;> simp [e]

/-- R86: at the end of an item no batch of a SAFING or FAULTED group is left. -/
theorem faulting_of_batchesOk {s : State} (h : BatchesOk s) (hp : s.drain.progress = .ending) {g : Fin 8}
    (hs : (s.group g).state = .safing ∨ (s.group g).state = .faulted) : Faulting (s.group g) := by
  obtain ⟨hgroups, -, -, ⟨hdraining, -⟩, -⟩ := h
  obtain ⟨⟨hopen, -, hfaulted, -, hclosed, hqueued⟩, -, -, -, hother, -⟩ := hgroups g
  refine ⟨hs, ?_, ?_⟩
  · rw [← Option.not_isSome_iff_eq_none, hopen]
    rcases hs with e | e <;> simp [e]
  · rcases hs with e | e
    · rw [Option.eq_none_iff_forall_not_mem]
      intro b hb
      cases hst : b.state with
      | opened => exact (hother b hb).1.1 hst
      | closed =>
        have := hclosed b hb hst
        rw [e] at this
        cases this
      | queued =>
        have := hqueued b hb hst
        simp [e] at this
      | draining =>
        have := (hdraining g b hb hst).2.1
        rw [hp] at this
        cases this
    · exact hfaulted (.inr e)

/-- R62: without a batch no lane is covered. -/
theorem Faulting.covered {s : State} {g : Fin 8} (h : Faulting (s.group g)) (a : WordAddr) : (s.snapshot g a).covered = 0x0#4 := by
  unfold State.snapshot
  dsimp only
  rw [h.opened, h.other]
  exact BitVec.or_self

section
variable {s : State} {w : Window} (h : Faulting (s.group w.group))
include h

/-- R6, R18: a write into the group is refused or returns. -/
theorem Faulting.heldEffect_cases (own : Bool) (init : BitVec 2) (x : Slot) :
    heldEffect s w own init x = s ∨ ∃ c, heldEffect s w own init x = refusalMade s w.group c init := by
  unfold heldEffect
  dsimp only
  cases x.kind with
  | read => exact .inl rfl
  | write d m =>
    dsimp only
    rw [h.refusal]
    split
    · exact .inl rfl
    · split <;> exact .inr ⟨_, rfl⟩

theorem Faulting.heldSlot_read (own : Bool) {x : Slot} (hk : x.kind = .read) : heldSlot s w own x = returned x w.group := by
  unfold heldSlot
  dsimp only
  rw [hk]
  exact if_neg fun hc => hc.2.2.2.2 (h.covered x.addr)

theorem Faulting.heldSlot_write {x : Slot} {d : Word} {m : Mask} (hk : x.kind = .write d m) :
    heldSlot s w true x = answered x (.refused .faulted) := by
  unfold heldSlot
  dsimp only
  rw [hk]
  simp [h.not_off, h.refusal]

end

theorem faulting_heldStep (s : State) (i : Fin 16) {g : Fin 8} (w : Window) (hw : s.windowOf (s.slot i).addr = some w) (hg : w.group = g)
    (h : Faulting (s.group g)) : Faulting ((heldStep s i).group g) := by
  subst hg
  rw [heldStep_eq hw, setSlot_group]
  rcases h.heldEffect_cases (w.owners.getLsbD (i.val / 4)) (slotInit i) (s.slot i) with e | ⟨c, e⟩ <;> rw [e]
  · exact h
  · have hgr : (refusalMade s w.group c (slotInit i)).group w.group = refusalCounted (s.group w.group) :=
      (setGroup_group s w.group w.group _).trans (if_pos rfl)
    rw [hgr]
    exact ⟨h.state, h.opened, h.other⟩

/-- R18: what becomes of one of the held requests of a group in SAFING or FAULTED. -/
theorem foldl_heldStep_faulting {s : State} {l : List (Fin 16)} (hl : l.Nodup) {i : Fin 16} (hi : i ∈ l) {w : Window}
    (hin : ∀ j ∈ l, s.wordGroup (s.slot j).addr = some w.group) (hw : s.windowOf (s.slot i).addr = some w)
    (h : Faulting (s.group w.group)) :
    (∀ d m, (s.slot i).kind = .write d m → w.owners.getLsbD (i.val / 4) = true →
      (l.foldl heldStep s).slot i = answered (s.slot i) (.refused .faulted)) ∧
    ((s.slot i).kind = .read → (l.foldl heldStep s).slot i = returned (s.slot i) w.group) := by
  obtain ⟨before, after, rfl⟩ := List.append_of_mem hi
  obtain ⟨hnb, hna, hne⟩ := List.nodup_append.1 hl
  have hib : i ∉ before := fun hm => hne i hm i List.mem_cons_self rfl
  have hia : i ∉ after := (List.nodup_cons.1 hna).1
  have hv := foldl_heldStep_group (fun s i w => faulting_heldStep s i w) before hnb s (fun j hj => hin j (List.mem_append_left _ hj)) h
  have hvi := foldl_heldStep_slot before s hib
  have hvw := (foldl_heldStep_requestsOnly before s).windows
  rw [List.foldl_append, List.foldl_cons, foldl_heldStep_slot after _ hia]
  generalize before.foldl heldStep s = v at *
  have hw' : v.windowOf (v.slot i).addr = some w := by rw [hvi, windowOf_congr s hvw, hw]
  rw [heldStep_eq hw', setSlot_slot, if_pos rfl, hvi]
  refine ⟨fun d m hk ho => ?_, fun hk => ?_⟩
  · rw [ho]
    exact hv.heldSlot_write hk
  · exact hv.heldSlot_read _ hk

/-! ### The end report -/

theorem held_wordGroup {s : State} (h : RequestsOk s) {it : Item} (hit : s.drain.current = some it) :
    ∀ i ∈ s.upstream.holdList, s.wordGroup (s.slot i).addr = some it.group := by
  have := (released_eq ((requestsOk_iff s).1 h).1 hit).1
  rw [List.filter_eq_self] at this
  exact fun i hi => (slotIn_iff s _ i).1 (this i hi)

/-- Settles O29: the re-decode request by request, then the three kinds of group. -/
theorem itemEndReported : Obligations.EndReported := by
  unfold Obligations.EndReported
  refine ⟨fun it back s u h hu hback => ⟨fun hno => ?_, fun hit hp => ?_, fun hit hp hc hsoft => ⟨fun hempty => ?_, fun hne hoff => ?_⟩⟩,
    fun it n i s h hb hit hp hst hi hw => ?_⟩
  · have hexec : exec .endReport s = .next (quiet s).endItem := rfl
    rw [hexec]
    unfold State.endItem
    rcases hno with hno | hno
    · simp only [quiet, hno]
    · cases hcur : s.drain.current with
      | none => simp only [quiet, hcur]
      | some it => simp [quiet, hcur, hno]
  · rw [exec_endReport h hit hp hu, ← hback]
  · have ⟨_, _, _, _, hcl⟩ := h
    rw [exec_endReport h hit hp rfl, hempty, reported_of_ready (by exact hsoft)]
    have hmarks : (Vector.ofFn fun g => decide (∃ i : Fin 16, ((quiet s).slot i).returnMark = some g)) = s.drain.clearanceWait := marked_eq hcl
    rw [List.foldl_nil, List.filter_nil, List.nil_append, hmarks]
    rw [← hempty]
    rfl
  · have hin := held_wordGroup h hit
    obtain ⟨hf, -⟩ := (requestsOk_iff s).1 h
    obtain ⟨v, hv, hj⟩ := foldl_setSlot (fun x => returned x it.group) s.upstream.holdList hf.holdNodup (quiet s)
    rw [← foldl_heldStep_off s.upstream.holdList (quiet s) hin hoff, ← hu] at hv
    have hslot (j : Fin 16) : u.slot j = if j ∈ s.upstream.holdList then returned (s.slot j) it.group else s.slot j := by
      rw [hv]
      exact hj j
    have hall : s.upstream.holdList.filter (fun i => (u.slot i).state = .queued) = s.upstream.holdList :=
      List.filter_eq_self.2 fun i hi => by
        rw [hslot, if_pos hi, decide_eq_true_eq]
        rfl
    obtain ⟨i, hi⟩ := List.exists_mem_of_ne_nil _ hne
    refine ⟨_, exec_endReport h hit hp hu, ?_⟩
    rw [reported_of_ready (by rw [hv]; exact hsoft), hall]
    refine ⟨?_, ?_, hslot⟩
    · clear hu
      rw [hv]
      rfl
    · exact marked_wait (u := u) ⟨i, by rw [hslot, if_pos hi]; rfl⟩
  · obtain ⟨hf, -⟩ := (requestsOk_iff s).1 h
    have hg : s.windows[n].group = it.group := by
      have := held_wordGroup h hit i hi
      rw [State.wordGroup, hw] at this
      exact Option.some.inj this
    have hF : Faulting ((quiet s).group s.windows[n].group) := by
      rw [hg]
      exact faulting_of_batchesOk hb hp hst
    have hin : ∀ j ∈ s.upstream.holdList, (quiet s).wordGroup ((quiet s).slot j).addr = some s.windows[n].group := by
      rw [hg]
      exact held_wordGroup h hit
    obtain ⟨hwrite, hread⟩ := foldl_heldStep_faulting hf.holdNodup hi hin (by exact hw) hF
    refine ⟨_, exec_endReport h hit hp rfl, ?_⟩
    dsimp only
    rw [reported_drain, reported_upstream, reported_slot]
    generalize s.upstream.holdList.foldl heldStep (quiet s) = u at *
    refine ⟨rfl, rfl, hwrite, fun hk => ?_⟩
    have hx := hread hk
    rw [hg] at hx
    refine ⟨hx, ?_, marked_wait (u := u) ⟨i, by rw [hx]; rfl⟩⟩
    refine List.mem_append_left _ (List.mem_filter.2 ⟨hi, ?_⟩)
    rw [decide_eq_true_eq, hx]
    rfl

end Sys2Proof.Machine
